-- ==== Sys2Proof/Word.lean ====
section
/-!
DEFINITION. Words, bytes and the keyed tables of the model.

A keyed table (`SMap`) is a list of key and value pairs in one canonical form: keys strictly rising, and no entry
equal to what an unlisted key reads as, so that equal tables are equal lists.
-/

namespace Sys2Proof

/-- A 64-bit word: a register, or one word of a memory structure. -/
abbrev Word := BitVec 64

/-- A byte. -/
abbrev Byte := BitVec 8

/-- A table from natural-number keys to values. -/
abbrev SMap (α : Type) := List (Nat × α)

namespace SMap

/-- The value at key `k`; `d` where no entry lists it. -/
def get {α : Type} (d : α) : SMap α → Nat → α
  | [], _ => d
  | (k', v) :: t, k => if k = k' then v else get d t k

/-- Put `v` at key `k`, keeping the keys in rising order. -/
def insert {α : Type} (k : Nat) (v : α) : SMap α → SMap α
  | [] => [(k, v)]
  | (k', v') :: t =>
    if k < k' then (k, v) :: (k', v') :: t
    else if k = k' then (k, v) :: t
    else (k', v') :: insert k v t

/-- Remove every entry of key `k`. -/
def erase {α : Type} (k : Nat) (m : SMap α) : SMap α := m.filter (fun e => e.1 != k)

/-- Set key `k` to `v`, where an unlisted key reads as `d`: the default value is stored as no entry. -/
def set {α : Type} [DecidableEq α] (d : α) (k : Nat) (v : α) (m : SMap α) : SMap α :=
  if v = d then erase k m else insert k v m

/-- Keys strictly rising from `lo`, and no entry equal to its key's default. -/
def wfFrom {α : Type} [DecidableEq α] (d : Nat → α) : Nat → SMap α → Bool
  | _, [] => true
  | lo, (k, v) :: t => decide (lo ≤ k) && decide (v ≠ d k) && wfFrom d (k + 1) t

/-- The canonical form. -/
def wf {α : Type} [DecidableEq α] (d : Nat → α) (m : SMap α) : Bool := wfFrom d 0 m

/-- Keys strictly rising from `lo`, and every entry satisfies `p`. -/
def wfIfFrom {α : Type} (p : Nat → α → Bool) : Nat → SMap α → Bool
  | _, [] => true
  | lo, (k, v) :: t => decide (lo ≤ k) && p k v && wfIfFrom p (k + 1) t

/-- The canonical form where the entries that may stand are those satisfying `p`. -/
def wfIf {α : Type} (p : Nat → α → Bool) (m : SMap α) : Bool := wfIfFrom p 0 m

end SMap

/-- The bits `hi` down to `lo` of a number. -/
def bitsOf (w hi lo : Nat) : Nat := w / 2 ^ lo % 2 ^ (hi + 1 - lo)

/-- `w` with its bits `hi` down to `lo` replaced by the low bits of `v`. -/
def withBits (w hi lo v : Nat) : Nat :=
  w / 2 ^ (hi + 1) * 2 ^ (hi + 1) + v % 2 ^ (hi + 1 - lo) * 2 ^ lo + w % 2 ^ lo

/-- Signed reading of the low `n` bits. -/
def sext (n w : Nat) : Int :=
  if w % 2 ^ n < 2 ^ (n - 1) then (w % 2 ^ n : Nat) else (w % 2 ^ n : Nat) - (2 ^ n : Nat)

/-- Two's complement of an integer in `n` bits. -/
def toTwos (n : Nat) (i : Int) : Nat := (i % (2 ^ n : Nat)).toNat

end Sys2Proof
end

