-- ==== Sys2Proof/Syntax.lean ====
section
/-!
DEFINITION. The commands of the block: one constructor per row of the command table. A command stands for what one
agent does at one instant: a register access, a frame or datagram arriving, an event inside the module coming due.
-/

namespace Sys2Proof

/-- What the module's cryptographic units find in an image: they are no part of this model, so a command that verifies an
image carries their findings. -/
structure Crypto where
  /-- The image signature verifies under the public key of its signature block (R365). -/
  image : Bool
  /-- Indices of the FIRMWARE sections whose inner signature does not verify under its own public key (R368). -/
  bad : List Nat
  /-- By index of a FIRMWARE section: its release number, and that it can take over from the ACTIVE release (R391). -/
  releases : List (Nat × Nat × Bool)
  /-- The unwrapped key of each PROVISION record; none where it fails to unwrap (R374). -/
  keys : List (Option (List Byte))
  deriving DecidableEq, Repr

/-- What a self-test item finds on its target; the tests themselves are no part of this model. -/
structure Finding where
  item : Nat
  target : Nat
  /-- Units tested. -/
  units : Nat
  /-- The faulty ones: lanes, or device addresses. -/
  faulty : List Nat
  /-- Spares in the memory that had the most failures, before the item replaced any. -/
  spares : Nat
  /-- Bit errors or mismatched words. -/
  errors : Nat
  /-- Length in microseconds. -/
  us : Nat
  deriving DecidableEq, Repr

/-- A frame that arrives on a control lane; the cipher is no part of this model. -/
structure Datagram where
  /-- Control lane: 0 A, 1 B. -/
  lane : Nat
  /-- Source address and UDP port. -/
  addr : Nat
  port : Nat
  /-- It is a transport datagram for the lane's address and port, in a frame that the lane accepts (R296). -/
  transport : Bool
  /-- Bytes 0–23 of the datagram (R300). -/
  header : List Byte
  /-- The body in plain text. -/
  body : List Byte
  /-- The tag verifies under the key that SLOT and GEN name (R301). -/
  tag : Bool
  deriving DecidableEq, Repr

/-- A command. -/
inductive Instr where
  /-- R8: A write to a register that has no row of its own sets its rw fields, clears w1c bits or sets w1s bits, after the
  field's own range and state checks. `q`: the requester; `a`: the address; `w`: the word. The access has been
  admitted. -/
  | registerWrite (q a w : Nat)
  /-- R9: A write of the value to address A of an rwp register arms it, or replaces the armed value and restarts the 1 ms
  interval. `q`: the requester; `a`: the value address; `v`: the value. The access has been admitted. -/
  | rwpValueWrite (q a v : Nat)
  /-- R9: A write to A+8 commits the armed value if it is its exact complement from the arming requester; otherwise the
  pair is rejected with INTEGRITY_WRITE. `q`: the requester; `a`: the complement address; `v`: the word. The access
  has been admitted. -/
  | rwpComplementWrite (q a v : Nat)
  /-- R10: 1 ms after arming without a complement, the register disarms and one INTEGRITY_WRITE entry is written. `a`: the
  value address. -/
  | rwpArmExpiry (a : Nat)
  /-- R15: A die link receives a 256-byte flit, checks its CRC and requests it again on failure, then checks carried
  complements. `n`: slice; `k`: 0 the link to Hold, 1 to Control; `failed`: attempts that failed their CRC; `bad`:
  kind and object of a complemented value that does not match. -/
  | dieLinkFlitReceive (n k failed : Nat) (bad : Option (Nat × Nat))
  /-- R23: Loss of root PLL lock is detected within 10 µs, the module enters Halt and writes one journal entry. -/
  | rootPllLoss
  /-- R31: Each 1.0 GHz tick adds the effective addend to the time base and carries nanoseconds into seconds at 10^9. n:
  how many ticks pass -/
  | timeBaseTick (n : Nat)
  /-- R34: Every 1 µs each slice compares its local time with Armature's and, beyond 1 ns, stops launches and schedules a
  reload. `n`: the slice; `d`: the difference in 2^-16 ns. -/
  | sliceTimeCompare (n d : Nat)
  /-- R34: At the next 1 µs alignment the slice reloads its time base copy, resumes launches and writes one journal entry.
  `n`: the slice. -/
  | sliceTimeReload (n : Nat)
  /-- R33: A committed TB_ADDEND in range takes effect at the next tick and crosses to the slices with its complement.
  `v`: the committed value. -/
  | tbAddendCommit (v : Nat)
  /-- R38: A write of TB_CTRL.ROLE takes effect at the next tick and resets the servo state as the new role requires,
  without stepping time. `role`: the value written. -/
  | tbRoleWrite (role : Nat)
  /-- R39: A Sync or Follow_Up on the active input yields an offset sample that feeds the servo and the step logic. `i`:
  the input; the message's domain, sequence number, origin, correction; `rx`, `tick`: its ingress stamp and tick;
  `log`: its logMessageInterval. -/
  | syncReceive (i domain seq origin : Nat) (corr : Int) (rx tick : Nat) (log : Int)
  /-- R40: A selected PPS_IN edge is stamped and, when valid, supplies a phase offset to the servo. `falling`: the edge's
  direction. -/
  | ppsInEdge (falling : Bool)
  /-- R42: After HOLDOVER_SYNCS intervals without a usable offset and no redundant input, the servo enters HOLDOVER and
  journals it. -/
  | holdoverTimeout
  /-- R47: A committed TB_STEP_AUTH with the current SEQ arms the pending step; a wrong SEQ is rejected with
  AUTH_REJECTED. `seq`: the committed SEQ. -/
  | stepAuth (seq : Nat)
  /-- R48: At the first whole second at least 10 ms after the commit the armed step loads the time base and rebases
  anchors, calendars and gate bases. -/
  | stepApply
  /-- R52: PPS_OUT pulses at each whole second, suppressed if less than 500 ms after the previous pulse. -/
  | ppsOutPulse
  /-- R53: A completed peer-delay exchange adds a path-delay measurement to the port's 64-sample median. `l`: the port;
  `seq`, `t2`, `t3`, `t4`: the exchange's sequence number and stamps; `nrr`: neighbor rate ratio where known. -/
  | pdelayMeasurement (l seq t2 t3 t4 : Nat) (nrr : Option Int)
  /-- R55: At the end of a SUSPECT interval the port returns to USABLE, is extended, or after four extensions becomes
  FAULTY. `i`: the input. -/
  | suspectEnd (i : Nat)
  /-- R459: A 1588 slave input sends Delay_Req at the interval given by the master's Delay_Resp. `i`: the input. -/
  | delayReqSend (i : Nat)
  /-- R459: A Delay_Resp completes a delay request-response exchange and yields one mean path delay measurement. `i`: the
  input; `seq`, `t4`, `corr`, `log`: the message's fields. -/
  | delayRespReceive (i seq t4 : Nat) (corr log : Int)
  /-- R59: Setting TP_CTRL.ARM checks the target and period and arms a one-shot or periodic output, or sets MISSED or
  BAD_VALUE. `p`: the pin. -/
  | tpArm (p : Nat)
  /-- R59: Writing TP_CTRL.DISARM cancels a pending output. `p`: the pin. -/
  | tpDisarm (p : Nat)
  /-- R58: At the first tick at or beyond the target the pin places its active edge and its inactive edge WIDTH later.
  `p`: the pin. -/
  | tpOutputCompare (p : Nat)
  /-- R62: A selected edge on a capture pin is stamped and queued, or discarded with CAP_OVERFLOW when 16 are queued. `p`:
  the pin; `rising`: the edge's direction. -/
  | tpCaptureEdge (p : Nat) (rising : Bool)
  /-- R62: A read of TP_CAP_SEC removes the oldest stamp into the read registers. `p`: the pin. -/
  | tpCapSecRead (p : Nat)
  /-- R31: A read of TB_NOW_SEC latches the rest of the same stamp into TB_NOW_NS. -/
  | tbNowSecRead
  /-- R82: A read of SC_NOW_SEC latches the rest of the scene stamp into SC_NOW_NS. `c`: the cell. -/
  | scNowSecRead (c : Nat)
  /-- R64: Writing TB_SET_GO loads the time base at the next tick and rebases anchors, or is refused in Service, Mirror or
  Reshape. -/
  | tbSetGo
  /-- R53: TB_PORT_CLEAR.FLUSH_PD clears the port's path-delay history. `i`: the input. -/
  | flushPd (i : Nat)
  /-- R55: TB_PORT_CLEAR.CLEAR_FAULTY returns a FAULTY input to IDLE. `i`: the input. -/
  | clearFaulty (i : Nat)
  /-- R37: A master port of the physical domain sends a two-step Sync with its residence time at its sync interval. `l`:
  first lane of the port. -/
  | physSyncSend (l : Nat)
  /-- R38: A received Announce of the physical domain feeds BMCA, or is counted and ignored when BMCA does not run. `i`:
  the input; then the message's domain and priority vector. -/
  | announceReceive (i domain prio1 quality prio2 gm steps source : Nat)
  /-- R74: SC_SEG_CMD PUSH validates the staged segment and queues it at its effective switch instant. `c`: the clock;
  `kind`, `tag`: KIND and TAG. -/
  | push (c kind tag : Nat)
  /-- R76: SC_SEG_CMD FLUSH removes queued segments beyond t_v + H and discards frames of removed epochs. `c`: the cell;
  `tag`: TAG. -/
  | flush (c tag : Nat)
  /-- R73: SC_SEG_CMD with OP none executes nothing and returns NOP. `c`: the cell; `tag`: TAG. -/
  | segNop (c tag : Nat)
  /-- R77: At a switch instant the queued segment becomes current, TBI, DISC and epoch update and events are set. `c`: the
  cell. -/
  | segmentSwitch (c : Nat)
  /-- R92: A write of SC_CELL_CTRL.EN enables the cell after R26 checks, or on 0 clears the queue, discards frames, stops
  Sync and grants. `c`: the clock; `en`: the value written. -/
  | scCellEnable (c : Nat) (en : Bool)
  /-- R69: Caldera converts a held frame's scene launch time to a physical launch instant once it lies within the
  conversion horizon. `x`: the stream; `q`: the sequence number. -/
  | frameConversion (x q : Nat)
  /-- R87: The module sends a two-step Sync and Follow_Up carrying the cell's scene time on each port of the cell. Clock
  `c`, port `l`. -/
  | sceneSyncSend (c l : Nat)
  /-- R88: The module sends an Announce for a scene domain with priority2 from its effective claim. Clock `c`, port `l`. -/
  | sceneAnnounceSend (c l : Nat)
  /-- R97: A frame envelope is checked in order and, if accepted, filed in each egress port's partition and calendar. `l`:
  first lane of the port; `b`: the frame. -/
  | envelopeFrame (l : Nat) (b : List Byte)
  /-- R100: An accepted heartbeat refreshes source liveness, may announce a slot and raises NEXT_SEQ, resolving skipped
  SEQs. `l`: first lane of the port; `b`: the frame. -/
  | envelopeHeartbeat (l : Nat) (b : List Byte)
  /-- R101: An accepted end-of-stream envelope records the end SEQ; the stream enters ENDED once every lower SEQ resolves.
  `l`: first lane of the port; `b`: the frame. -/
  | envelopeEndOfStream (l : Nat) (b : List Byte)
  /-- R102: An accepted grant request is scheduled for one unmerged answer, or counted when within 10 µs of the last. `l`:
  first lane of the port; `b`: the frame. -/
  | envelopeGrantRequest (l : Nat) (b : List Byte)
  /-- R102: Within 20 µs the module sends one unmerged grant record for the requesting stream to the source entry's
  address. `x`: the stream. -/
  | grantAnswerSend (x : Nat)
  /-- R103: A source with no accepted envelope for TIMEOUT_US becomes DOWN, is journalled and gets grants every 1 ms.
  Source entry `i` of slice `n`. -/
  | sourceTimeout (n i : Nat)
  /-- R108: Every PERIOD_NS the module sends grant records, merged where allowed, for every enabled non-ended stream of
  each UP source. Source entry `i` of slice `n`. -/
  | grantPeriod (n i : Nat)
  /-- R108: Within 2 µs of an epoch change, a feed hold start or end, or a backpressure change, the module sends grant
  records. Source entry `i` of slice `n`. -/
  | grantEventSend (n i : Nat)
  /-- R117: At the slot's physical instant minus H, or when a higher SEQ converts, a missing frame fails the late test and
  the stream's policy applies. `x`: the stream. -/
  | lateTest (x : Nat)
  /-- R121: A missing frame still absent HOLD_LIMIT_NS after its late test is counted again and NEXT_SEQ advances past it.
  `x`: the stream. -/
  | holdLimitExpiry (x : Nat)
  /-- R106: HM_FEED_CMD READ copies the feed entry at HM_FEED_IDX into the window. -/
  | hmFeedRead
  /-- R106: HM_FEED_CMD WRITE stores W0–W2 into the feed entry after range checks; disabling frees the stream's frames. -/
  | hmFeedWrite
  /-- R97: HM_FEED_CMD CLEAR_COUNTS clears the feed entry's counters. -/
  | clearCounts
  /-- R121: HM_FEED_CMD RESET_HOLD returns the stream's HOLD offset D to 0. -/
  | resetHold
  /-- R138: A converted frame arrives at Geyser and the egress half rewrites it by its profile. `l`: first lane of the
  port. -/
  | launchStage (l : Nat)
  /-- R130: A launch or window shadow opens, deferring other traffic and requesting pre-emption at r. `l`: first lane of
  the port. -/
  | shadowOpen (l : Nat)
  /-- R133: Geyser starts a launch frame at its instant, or late when the wire is busy. `l`: first lane of the port. -/
  | launch (l : Nat)
  /-- R113: When a frame's last bit leaves, its cells are freed and a launch sample is formed if selected. `l`: first lane
  of the port. -/
  | transmitComplete (l : Nat)
  /-- R139: LN_RW_CMD READ copies a rewrite profile into LN_RW_W. `n`: the slice. -/
  | lnRwRead (n : Nat)
  /-- R143: LN_RW_CMD WRITE replaces all four words of a profile at once after range checks. `n`: the slice. -/
  | lnRwWrite (n : Nat)
  /-- R148: GC_CMD CONFIG_CHANGE copies the admin list to pending, checks it and sets ConfigChangeTime. `l`: the port;
  `tag`: TAG. -/
  | configChange (l tag : Nat)
  /-- R151: GC_CMD CANCEL removes a pending gate list change unless it is within 2 µs. `l`: the port; `tag`: TAG. -/
  | cancel (l tag : Nat)
  /-- R148: GC_CMD with OP none returns NOP. `l`: the port; `tag`: TAG. -/
  | gcCmdNop (l tag : Nat)
  /-- R149: At ConfigChangeTime the pending list becomes oper, the old cycle is extended or truncated and GC_CLASS_OPEN is
  recomputed. `l`: first lane of the port. -/
  | configChangeTime (l : Nat)
  /-- R146: At the tick an oper entry begins, the gate states and MAC hold change, or the previous ones hold on an
  integrity failure. `l`: the port; `intact`: the entry passes its check. -/
  | gateEntryStart (l : Nat) (intact : Bool)
  /-- R147: A write of GC_PORT_CTRL.GATE_EN takes effect at the next tick, opening all gates or resuming the list in
  phase. `l`: the port; `en`: the value written. -/
  | gateEnWrite (l : Nat) (en : Bool)
  /-- R9: A read of GC_LIST_DATA at its value address returns the entry and advances INDEX under AUTO_INC. `l`: first lane
  of the port. -/
  | gcListDataRead (l : Nat)
  /-- R155: A frame entering its egress queue is checked for queueMaxSDU and schedule oversize and queued or dropped. `n`:
  the egress slice. -/
  | egressEnqueue (n : Nat)
  /-- R161: When the wire is free the port serves levels in descending order and starts the eligible head frame. `l`:
  first lane of the port. -/
  | transmitSelect (l : Nat)
  /-- R132: The MAC pre-empts a preemptable frame at the requested instant, ending its fragment within W. `l`: first lane
  of the port. -/
  | preempt (l : Nat)
  /-- R160: A pending ALGO change takes effect when the class queue empties and the credit is set to 0. Class `k` of port
  `l`. -/
  | algoApply (l k : Nat)
  /-- R167: Every VERIFY_TIME_MS the module sends an SMD-V frame, and after three unanswered sets FAILED and journals it.
  `l`: first lane of the port. -/
  | verifySend (l : Nat)
  /-- R167: A received SMD-V is answered with SMD-R, and a valid SMD-R sets verification SUCCEEDED. `l`: the port;
  `response`: SMD-R. -/
  | verifyFrameReceive (l : Nat) (response : Bool)
  /-- R167: PE_CMD.RESTART_VERIFY restarts pre-emption verification. `l`: first lane of the port. -/
  | restartVerify (l : Nat)
  /-- R168: Every TX_S seconds or on a state change the module sends an LLDPDU with the pre-emption capability TLV. `l`:
  first lane of the port. -/
  | lldpSend (l : Nat)
  /-- R168: A received LLDPDU's capability TLV updates the peer's pre-emption state and addFragSize. `l`: the port; `f`:
  the frame. -/
  | lldpReceive (l : Nat) (f : List Byte)
  /-- R168: A peer TLV expires after its TTL and PEER_SEEN clears. `l`: first lane of the port. -/
  | lldpTtlExpiry (l : Nat)
  /-- R172: The receive MAC merge sublayer reassembles a received fragment and counts the result. `l`: the port; `smd`,
  `count`, `frag`: kind of start delimiter, frame and fragment count; `b`: the mPacket. -/
  | fragmentReceive (l smd count frag : Nat) (b : List Byte)
  /-- R180: Every QS_PERIOD_US the module writes a queue sample record per selected class, or counts it lost on a full
  buffer. `l`: first lane of the port. -/
  | queueSample (l : Nat)
  /-- R189: CL_MX_CMD COMMIT copies the admin matrix to pending, checks it and schedules its effective instant. `c`: the
  cell; `tag`: TAG. -/
  | commit (c tag : Nat)
  /-- R190: CL_MX_CMD CANCEL removes a pending matrix change unless within 2 µs. `c`: the cell; `tag`: TAG. -/
  | clMxCancel (c tag : Nat)
  /-- R189: CL_MX_CMD with OP none returns NOP. `c`: the cell; `tag`: TAG. -/
  | clMxNop (c tag : Nat)
  /-- R190: At its effective instant the pending matrix becomes oper and CONFIG_APPLIED is set. `c`: the cell. -/
  | matrixChangeEffective (c : Nat)
  /-- R191: Writing CL_CELL_CTRL.EN 1 checks the rank list and starts the matrix 2 µs later; writing 0 stops the cell and
  clears its state. `c`: the cell; `en`: the value written. -/
  | clCellEnable (c : Nat) (en : Bool)
  /-- R206: At each matrix cycle start an EXTERNAL cell adds its mean SYNC sample to C, or returns to UNSYNC after
  LOSS_CYCLES without samples. `c`: the cell. -/
  | matrixCycleStart (c : Nat)
  /-- R205: At window close plus CS_RELAY_NS the highest-ranked coldstart frame is forwarded, others suppressed, C set and
  the cell enters SYNC. `c`: the cell. -/
  | coldstartForward (c : Nat)
  /-- R210: If the owning node's frame has not started by the end of the acceptance interval, the stored frame is launched
  as a substitute. `c`: the cell; `ch`, `cyc`, `win`: channel, basic cycle and window. -/
  | substitution (c ch cyc win : Nat)
  /-- R211: A cycle mark fires at its offset and carries out its CORE, HOST and PIN actions. Mark `m` of cell `c`. -/
  | cycleMark (c m : Nat)
  /-- R212: A write of CL_MARK_CFG is checked and takes effect at the next basic cycle start. `n`: the mark; `w`: the
  word. -/
  | clMarkCfgWrite (n w : Nat)
  /-- R214: A write of CL_NODE_CFG stores the node entry, or is rejected while its cell is enabled or its ports are wrong.
  `n`: the node; `w`: the word. -/
  | clNodeCfgWrite (n w : Nat)
  /-- R9: A read of CL_MX_W1 at its value address advances WINDOW under AUTO_INC. `n`: the slice. -/
  | clMxW1Read (n : Nat)
  /-- R215: A received frame is parsed, terminated, accepted as an envelope or classified, judged, filtered and handed to
  Caldera. `l`: the port; `b`: the frame with its FCS; `intact`: the memory words it meets pass their checks; `full`:
  the ingress buffer is full. -/
  | ingressFrame (l : Nat) (b : List Byte) (intact full : Bool)
  /-- R230: A recirculated frame makes its second pass from the recirculation queue under its stamped epoch. Pipeline `p`
  of slice `n`. -/
  | recircPass (n p : Nat)
  /-- R232: The control cores write a slow-path frame as a capture record to the slow-path ring. -/
  | slowPathRecord
  /-- R228: CF_ECMD READ copies the entry at CF_SLOT into the window. `n`: the slice. -/
  | cfRead (n : Nat)
  /-- R228: CF_ECMD ADD writes an entry into a free slot with membership of the staging epoch. `n`: the slice. -/
  | add (n : Nat)
  /-- R228: CF_ECMD REMOVE clears the staging epoch's membership of an entry. `n`: the slice. -/
  | remove (n : Nat)
  /-- R229: CF_ECMD COMMIT_EPOCH makes the staging epoch current and sets RETIRING. `n`: the slice. -/
  | commitEpoch (n : Nat)
  /-- R226: CF_ECMD CLEAR_HITS clears the entry's hit counter. `n`: the slice. -/
  | clearHits (n : Nat)
  /-- R229: When no frame of the old epoch remains, memberships are copied, slots freed and RETIRING cleared. `n`: the
  slice. -/
  | epochRetire (n : Nat)
  /-- R237: ST_CMD NOP does nothing. `n`: the slice; `tag`: TAG. -/
  | stNop (n tag : Nat)
  /-- R233: ST_CMD READ copies this slice's replica entry into ST_W0–W3. `n`: the slice; `tag`: TAG. -/
  | stRead (n tag : Nat)
  /-- R237: ST_CMD STAGE adds one entry to the module-wide batch, or returns QUEUE_FULL. `n`: the slice; `tag`: TAG. -/
  | stage (n tag : Nat)
  /-- R237: ST_CMD COMMIT checks the batch, increments the update epoch and sends it to every slice with its apply
  instant. `n`: the slice; `tag`: TAG. -/
  | stCommit (n tag : Nat)
  /-- R237: ST_CMD ABORT empties the batch. `n`: the slice; `tag`: TAG. -/
  | stAbort (n tag : Nat)
  /-- R245: ST_CMD READ_COUNTS copies a stream's counters into ST_CNT_W. `n`: the slice; `tag`: TAG. -/
  | readCounts (n tag : Nat)
  /-- R241: ST_CMD UNBLOCK clears BLOCKED of the entry on every slice. `n`: the slice; `tag`: TAG. -/
  | unblock (n tag : Nat)
  /-- R237: At the first datapath clock at or after t_a each slice applies the whole batch between two lookups. `n`: the
  slice. -/
  | batchApply (n : Nat)
  /-- R238: A batch arriving intact after t_a is applied on arrival, counted and journalled. `n`: the slice. -/
  | lateApply (n : Nat)
  /-- R236: ST_GRP_CMD READ copies an egress group into the window. `n`: the slice. -/
  | stGrpRead (n : Nat)
  /-- R237: ST_GRP_CMD STAGE adds an egress group to the batch. `n`: the slice. -/
  | stGrpStage (n : Nat)
  /-- R243: ST_SG_CMD CONFIG_CHANGE commits a stream gate list change under the gate list rules and pool limit. Gate `g`
  of slice `n`; `tag`: TAG. -/
  | sgConfigChange (n g tag : Nat)
  /-- R243: ST_SG_CMD CANCEL removes a pending stream gate list change. Gate `g` of slice `n`; `tag`: TAG. -/
  | sgCancel (n g tag : Nat)
  /-- R242: ST_SG_CMD CLEAR releases a gate held closed by invalid receive or octets. Gate `g` of slice `n`; `tag`: TAG. -/
  | sgClear (n g tag : Nat)
  /-- R243: ST_SG_CMD with OP none returns NOP. Gate `g` of slice `n`; `tag`: TAG. -/
  | sgNop (n g tag : Nat)
  /-- R243: At its ConfigChangeTime a pending stream gate list becomes oper. Gate `g` of slice `n`. -/
  | sgConfigChangeTime (n g : Nat)
  /-- R242: A stream gate oper entry begins and sets the gate state, IPV and octet allowance. Gate `g` of slice `n`. -/
  | sgEntryStart (n g : Nat)
  /-- R9: A read of ST_SG_DATA at its value address advances INDEX under AUTO_INC. `n`: the slice. -/
  | sgDataRead (n : Nat)
  /-- R244: ST_FM_CMD READ copies a flow meter into the window. `n`: the slice. -/
  | fmRead (n : Nat)
  /-- R244: ST_FM_CMD WRITE sets a flow meter and fills both buckets. `n`: the slice. -/
  | fmWrite (n : Nat)
  /-- R244: ST_FM_CMD CLEAR_RED clears MARK_RED. `n`: the slice. -/
  | clearRed (n : Nat)
  /-- R249: FR_GEN_CMD READ copies a generation function into the window. `n`: the slice. -/
  | frGenRead (n : Nat)
  /-- R249: FR_GEN_CMD WRITE configures a generation function on every slice within 2 µs. `n`: the slice. -/
  | frGenWrite (n : Nat)
  /-- R251: FR_GEN_CMD RESET sets NEXT to 0 on all slices. `n`: the slice. -/
  | frGenReset (n : Nat)
  /-- R249: FR_REC_CMD READ copies a recovery function's state into the window. `n`: the slice. -/
  | frRecRead (n : Nat)
  /-- R249: FR_REC_CMD WRITE configures a recovery function on every slice. `n`: the slice. -/
  | frRecWrite (n : Nat)
  /-- R255: FR_REC_CMD RESET resets the recovery instance on every slice. `n`: the slice. -/
  | frRecReset (n : Nat)
  /-- R254: FR_REC_CMD CLEAR_COUNTS clears the recovery function's counters. `n`: the slice. -/
  | frRecClearCounts (n : Nat)
  /-- R255: If no frame passes for RESET_MS the recovery instance clears VALID and its history. Function `i` of slice `n`. -/
  | recoveryResetTimer (n i : Nat)
  /-- R256: Every LAT_PERIOD_MS the latent error test compares the path balance with its base. Function `i` of slice `n`. -/
  | latentErrorTest (n i : Nat)
  /-- R256: Every LAT_RESET_S the latent error base is reset and LATENT cleared. Function `i` of slice `n`. -/
  | latentBaseReset (n i : Nat)
  /-- R259: At each 10 µs multiple the module sends a heartbeat on each pair link and decides authority. -/
  | heartbeatSend
  /-- R260: A received heartbeat is checked, updates link state, partner claim and offset, or is discarded. k: the link
  the heartbeat comes in on; b: its bytes as they arrive -/
  | heartbeatReceive (k : Nat) (b : List Byte)
  /-- R260: After HB_LOSS intervals without a valid heartbeat a pair link goes DOWN. k: the control-lane pair link (0 or
  1) -/
  | pairLinkTimeout (k : Nat)
  /-- R267: A unit entering Service that hears no partner within PAIR_WAIT_MS takes authority. -/
  | pairWaitExpiry
  /-- R266: At the start of HANDOVER_MS the two units exchange roles. -/
  | handover
  /-- R270: The authority sends a state message of records, or a snapshot, on a pair link. type x: what the message
  carries -/
  | stateMessageSend (type x : Nat)
  /-- R270: An unacknowledged state message is resent 100 µs after it was first sent. -/
  | stateMessageResend
  /-- R271: The Mirror unit accepts an in-order state message and applies its records. k: the link; b: the bytes as they
  arrive -/
  | stateMessageReceive (k : Nat) (b : List Byte)
  /-- R270: UP_CMD RESYNC makes the authority send a snapshot. -/
  | resync
  /-- R274: 500 µs after millisecond k ends the unit closes its launch digest and compares it with the partner's. -/
  | digestClose
  /-- R279: A selected frame is written as a capture record with its data to its ring, or dropped under DROP_NEW. `limit`:
  the capture bandwidth limit reached now (0 none, 1 the slice's, 2 the module's). -/
  | captureRecordWrite (limit : Nat)
  /-- R284: A captured frame is sent as a frame envelope from the export port with the next export sequence. -/
  | captureExport
  /-- R290: A report becomes a plain entry if a token and room exist, or folds into its source's coalescer. `src`: the
  source; `kind`, `object`: the object (R287); `detail`: DETAIL1. -/
  | journalReport (src code kind object detail : Nat)
  /-- R291: A non-empty coalescer is flushed as one COALESCED entry once a token and ring room exist. `src`: the source. -/
  | coalescerFlush (src : Nat)
  /-- R308: A queued event is sent as an EVENT datagram with the next event sequence while fewer than 64 are
  unacknowledged. -/
  | eventSend
  /-- R308: EV_RETX_US after a send, unacknowledged events are resent in order under new counters. -/
  | eventResend
  /-- R308: An ACK datagram acknowledges events up to its sequence. `q`: the key slot; `c`: the channel; `seq`: the
  highest event sequence received in order. -/
  | ack (q c seq : Nat)
  /-- R301: A transport datagram is authenticated, replay-checked and its request executed, buffered, answered from cache
  or discarded. `d`: the frame. -/
  | datagramReceive (d : Datagram)
  /-- R298: A control lane losing link moves its slots' events to the other lane within 1 ms and is counted. `k`: 0 lane
  A, 1 lane B. -/
  | controlLaneLoss (k : Nat)
  /-- R311: The READ operation returns one atomic 64-bit word. `q`: the key slot; `a`: ADDR. -/
  | readWord (q a : Nat)
  /-- R311: The WRITE operation writes one 64-bit word after access checks. `q`: the key slot; `a`: ADDR; `v`: the value. -/
  | writeWord (q a v : Nat)
  /-- R311: WRITE_PAIR arms and commits an rwp register with no access between. `q`: the key slot; `a`: ADDR; `v`: the
  value. -/
  | writePair (q a v : Nat)
  /-- R311: RMW atomically replaces the masked bits and returns the old value. `q`: the key slot; `a`: ADDR. -/
  | rmw (q a mask v : Nat)
  /-- R311: BLOCK_READ returns 1–1,024 words at ascending addresses. `q`: the key slot; `a`: ADDR; `n`: COUNT. -/
  | blockRead (q a n : Nat)
  /-- R311: BLOCK_WRITE writes 1–1,024 words, stopping at the first failing word. `q`: the key slot; `a`: ADDR; `ws`: the
  words. -/
  | blockWrite (q a : Nat) (ws : List Nat)
  /-- R321: RING_PUSH places descriptors in a WORK ring's push slots with push sequences. `q`: the key slot; `r`: the
  ring; `ws`: the descriptors, eight words each. -/
  | ringPush (q r : Nat) (ws : List Nat)
  /-- R311: HEAD returns ring records for 1–16 rings. `q`: the key slot; `r`: the first ring; `n`: COUNT. -/
  | head (q r n : Nat)
  /-- R313: HELLO returns boot and channel state and optionally resets the slot's channels. `q`: the key slot; `flags`:
  OPFLAGS; `start`: START_SEQ. -/
  | hello (q flags start : Nat)
  /-- R315: KEY stores a new key as the slot's other generation. `q`: the key slot; `k`: the new key, 32 bytes. -/
  | key (q : Nat) (k : List Byte)
  /-- R318: RG_CMD START puts a ring into RUNNING. Ring. -/
  | start (r : Nat)
  /-- R318: RG_CMD STOP starts no further entry and the ring becomes STOPPED after the running one. Ring. -/
  | stop (r : Nat)
  /-- R323: RG_CMD RESUME fetches the failed entry again and returns the ring to RUNNING. Ring. -/
  | resume (r : Nat)
  /-- R323: RG_CMD SKIP completes the failed entry with SKIPPED and returns the ring to RUNNING. Ring. -/
  | skip (r : Nat)
  /-- R318: RG_CMD RESET sets indices and push slots to 0 in IDLE or STOPPED. Ring. -/
  | ringReset (r : Nat)
  /-- R317: A doorbell write of RG_PROD to a WORK ring advances the producer index or is refused with BAD_INDEX. Ring and
  the value written. -/
  | rgProdWrite (r v : Nat)
  /-- R317: A write of RG_CONS to a RESULT ring frees records or is refused with BAD_INDEX. Ring and the value written. -/
  | rgConsWrite (r v : Nat)
  /-- R320: A WORK ring's next descriptor is fetched and executed on its bound engine. Ring. -/
  | descriptorExecute (r : Nat)
  /-- R319: A TX_FRAME descriptor injects a host frame into a port's ingress half or egress queue. Ring. -/
  | txFrame (r : Nat)
  /-- R322: An entry's completion advances DONE or PUSH_DONE, writes a result record, or puts the ring in ERROR. Ring. -/
  | entryComplete (r : Nat)
  /-- R324: When a full job result ring gains space, the held record is written and stalled WORK rings run again. The job
  result ring. -/
  | stallRelease (rr : Nat)
  /-- R325: A RING event is sent when THRESH entries advance or TIMER_US passes with an advance. Ring. -/
  | ringEvent (r : Nat)
  /-- R332: DM_CH_GO loads a direct channel's shadow set or sets PENDING. Engine, channel, requester. -/
  | dmGo (e c q : Nat)
  /-- R333: A channel loads its shadow set into the working set and makes the load checks. Engine, channel. -/
  | transferLoad (e c : Nat)
  /-- R335: When a mover frees, the engine starts the highest-priority loaded transfer in round-robin. `e`: the engine. -/
  | transferStart (e : Nat)
  /-- R336: A transfer completes with all writes visible and DONE_SEQ increments. Engine, channel. -/
  | transferComplete (e c : Nat)
  /-- R330: A FRAME_OUT transfer sends each frame of its list into a port's egress queue, waiting for relay cells. Engine,
  channel. -/
  | frameOut (e c : Nat)
  /-- R337: A channel's failing access exhausts its retries and the channel halts with BUS_ERROR. Engine, channel;
  `units`: whole units completed. -/
  | busError (e c units : Nat)
  /-- R338: A prefetch read failing all retries stops the whole engine and halts its transfers. Engine; `addr`: the
  address read; `units`: whole units completed by channel. -/
  | engineFault (e addr : Nat) (units : List (Nat × Nat))
  /-- R338: DM_ENG_CMD.CLEAR clears the engine FAULT. Engine. -/
  | dmEngClear (e : Nat)
  /-- R335: DM_CH_CMD.CLEAR_HALT returns a HALTED direct channel to IDLE. Engine, channel. -/
  | clearHalt (e c : Nat)
  /-- R339: A domain power-down request marks it draining and fails new loads that touch it. Domain of `kind` 0 slice, 1
  DDR5 channel, 2 bank group; `i`: its number. -/
  | powerDownRequest (kind i : Nat)
  /-- R339: At DRAIN_LIMIT_US unfinished touching transfers halt with POWER_ABORT and the domain powers down. The domain
  as in POWER_DOWN_REQUEST; `units`: whole units completed by engine × 32 + channel. -/
  | drainLimitExpiry (kind i : Nat) (units : List (Nat × Nat))
  /-- R346: MS_SNAP_CMD SNAPSHOT copies a set of register words into a shadow bank at one clock. `b`: the bank; `q`: the
  requester. -/
  | snapshot (b tag q : Nat)
  /-- R346: MS_SNAP_CMD CLEAR_BANK writes 0 to every word of a bank. `b`: the bank. -/
  | clearBank (b : Nat)
  /-- R345: A written event selector takes effect at the next whole microsecond and restarts the counter. n: the slice; k:
  the EVC table entry -/
  | evcApply (n k : Nat)
  /-- R348: At each window end the module writes a bandwidth record and applies any pending configuration. `l`: first lane
  of the port. -/
  | bwWindowEnd (l : Nat)
  /-- R354: The slice's sample drain copies a record into its DDR5 buffer and advances WR. n: the slice; queue: which
  sample -/
  | sampleDrain (n : Nat) (queue : Bool)
  /-- R371: Reset ends at the later of RESET_N release and RAILS_GOOD; BOOT_SEL is sampled and the boot ROM starts. `sel`:
  BOOT_SEL; `dimm`: bytes of each DIMM on the board. -/
  | resetEnd (sel dimm : Nat)
  /-- R372: A flash image read completes and is verified, passing to Load or trying the next source. `b`: the bytes read;
  `c`: what the cryptographic units find in them. -/
  | flashReadComplete (b : List Byte) (c : Crypto)
  /-- R369: IM_CMD VERIFY runs checks 1–11 on the staged image and applies nothing. `c`: what the cryptographic units find
  in the staged image. -/
  | verify (tag : Nat) (c : Crypto)
  /-- R370: IM_CMD LOAD verifies the staged image and loads it as allowed by its kind and mode. `c`: what the
  cryptographic units find in the staged image. -/
  | load (tag : Nat) (c : Crypto)
  /-- R363: The structure is built, constants are checked and committed, PROVISION keys installed, and Self-Test begins. -/
  | loadComplete
  /-- R415: Boot self-test ends, failing slices are fenced, and the module enters Calibrate or Halt. `fs`: the findings of
  every boot item on every present target. -/
  | selftestComplete (fs : List Finding)
  /-- R376: DDR5 and SerDes are trained, the access map is locked and firmware starts; the module enters Ready. `fs`: the
  findings of item 17; `lost`: channels whose DIMM does not answer; `differ`: channels whose DIMM differs. -/
  | calibrateComplete (fs : List Finding) (lost differ : List Nat)
  /-- R367: A committed SY_SECVER_RAISE pair raises MIN, or is rejected. `v`: the committed version. -/
  | secverRaise (v : Nat)
  /-- R366: A committed SY_ANCHOR_REVOKE pair permanently revokes anchors, or is rejected. `m`: the committed mask. -/
  | anchorRevoke (m : Nat)
  /-- R382: MD_CMD GO_SERVICE moves Ready to Service, Mirror or Reshape. -/
  | goService
  /-- R384: MD_CMD PARK saves slice state, drains, discards held frames and powers off slices and Caldera. -/
  | park
  /-- R384: MD_CMD WAKE restores the saved state and golden copies and moves Park to Calibrate. -/
  | wake
  /-- R382: MD_CMD DIAG enters Diagnostic. -/
  | diag
  /-- R382: MD_CMD EXIT_DIAG moves Diagnostic to Calibrate. -/
  | exitDiag
  /-- R382: MD_CMD HALT enters Halt after sending LEAVING heartbeats. -/
  | halt
  /-- R382: MD_CMD RESET enters Reset. -/
  | resetModule
  /-- R385: MD_FENCE_CMD FENCE stops a slice's traffic, drains it and enters Reshape, or fences a DDR5 channel. `kind`: 0
  slice, 1 DDR5 channel; `n`: TARGET. -/
  | fence (kind n : Nat)
  /-- R385: When the drain ends the slice enters FENCED. Slice. -/
  | fenceDrainComplete (n : Nat)
  /-- R388: MD_FENCE_CMD UNFENCE returns a READY slice to SERVING 2 µs later, or retrains a DDR5 channel. `kind`: 0 slice,
  1 DDR5 channel; `n`: TARGET. -/
  | unfence (kind n : Nat)
  /-- R388: 2 µs after UNFENCE the slice serves and the mode may return to RETURN_MODE. Slice. -/
  | unfenceEffective (n : Nat)
  /-- R387: MD_FENCE_CMD REBUILD builds a fenced slice from the running image's section. Slice. -/
  | rebuild (n : Nat)
  /-- R387: A slice build ends in READY, or in FAULT with cause BUILD. `n`: the slice; `ok`: its self-test and calibration
  passed and its links trained. -/
  | buildComplete (n : Nat) (ok : Bool)
  /-- R392: MD_FW_CMD SWITCH moves SerDes adaptation, Fumarole and the cores to the STANDBY firmware bank one at a time. -/
  | switch
  /-- R393: MD_FW_CMD ROLLBACK returns switched instances to the old bank. -/
  | rollback
  /-- R393: A core not started in the new bank within 10 ms rolls every switched instance back and sets FAILED. -/
  | fwCoreStartTimeout
  /-- R382: The firmware missing its 100 ms watchdog sends the module to Halt. -/
  | watchdog
  /-- R394: A TCAM scrub pass compares slots with the golden copy and rewrites differing ones. `found`: slots rewritten by
  slice; `us`: microseconds that the pass took. -/
  | tcamScrub (found : List (Nat × Nat)) (us : Nat)
  /-- R394: A gate scrub pass compares gate lists and matrices with their golden copies. `found`: entries rewritten by
  slice; `us`: microseconds that the pass took. -/
  | gateScrub (found : List (Nat × Nat)) (us : Nat)
  /-- R239: A stream compare pass rewrites replica entries that differ from the golden copy. `found`: slice and index of
  each entry rewritten; `us`: microseconds that the pass took. -/
  | streamCompare (found : List (Nat × Nat)) (us : Nat)
  /-- R394: A hold patrol pass corrects single-bit errors and retires uncorrectable cells. `fixed`: errors corrected;
  `bad`: cells retired; `hit`: port, stream and SEQ of each frame in them; `us`: microseconds that the pass took. -/
  | holdPatrol (fixed : Nat) (bad : List Nat) (hit : List (Nat × Nat × Nat)) (us : Nat)
  /-- R394: A pass checks every stored complemented value. `found`: kind and object of each mismatch; `us`: microseconds
  that the pass took. -/
  | complementCheck (found : List (Nat × Nat)) (us : Nat)
  /-- R377: Once per second every access map entry is checked against its complement. `us`: microseconds that the pass
  took. -/
  | amapCheck (us : Nat)
  /-- R379: A pass compares registers with their READBACK constants and fences or halts on a mismatch. `bad`: addresses
  that mismatch; `us`: microseconds that the pass took. -/
  | constCheck (bad : List Nat) (us : Nat)
  /-- R394: A lane adaptation pass adjusts a trained lane. `l`: port; `us`: microseconds that the pass took. -/
  | serdesAdapt (l us : Nat)
  /-- R43: Once per millisecond Fumarole adds oscillator compensation to the effective addend. `x`: the compensation in
  addend LSBs; `us`: microseconds that the pass took. -/
  | oscComp (x : Int) (us : Nat)
  /-- R410: Each millisecond the power manager measures input power and energy and the health record is formed. `vin`: mV;
  `iin`: 10 mA; `power`: W; `vaux`: mV; `us`: microseconds that the pass took. -/
  | telemetry (vin iin power vaux us : Nat)
  /-- R394: A patrol scrub of DDR5 corrects errors and journals uncorrectable ones. `fixed`: errors corrected; `bad`:
  addresses of the others; `us`: microseconds that the pass took. -/
  | ddrScrub (fixed : Nat) (bad : List Nat) (us : Nat)
  /-- R412: Hourly the ageing monitors are read and the core voltage correction raised when needed. `slow`: die and
  slow-down since manufacture in ppm; `us`: microseconds that the pass took. -/
  | aging (slow : List (Nat × Nat)) (us : Nat)
  /-- R394: Each period the next online self-test item runs. `f`: what the item found; `hit`: as of TEST_ITEM_COMPLETE. -/
  | selftestRotation (f : Finding) (hit : List (Nat × Nat × Nat))
  /-- R398: MD_TEST_CMD REQUEST starts, queues or refuses a test item with a ticket. `i`: ITEM; `t`: TARGET; `tag`: TAG. -/
  | request (i t tag : Nat)
  /-- R398: MD_TEST_CMD CANCEL removes a queued item or stops a running online item. `ticket`: TICKET; `tag`: TAG. -/
  | testCancel (ticket tag : Nat)
  /-- R416: A test item ends, repairs from spares if allowed and writes its result record and event. `ticket`: its ticket;
  `f`: what it found; `hit`: port, stream and SEQ of each frame in a cell that a HOLD_PATROL item retires. -/
  | testItemComplete (ticket : Nat) (f : Finding) (hit : List (Nat × Nat × Nat))
  /-- R401: With VIN in range for 10 ms the power manager raises Armature's rails and sets RAILS_GOOD. `addr`:
  PMB_ADDR0–2. -/
  | supplyInRange (addr : Nat)
  /-- R402: VIN below 10.4 V for 50 µs enters Halt; below 9.0 V every rail but VAUX is powered off. `below9`: VIN is below
  9.0 V. -/
  | vinLow (below9 : Bool)
  /-- R402: A slice or DDR5 rail out of regulation fences the slice or takes the channel out of service. `kind`: 0 slice,
  1 DDR5 channel, 3 Armature; `i`: its number; `units`: units completed by engine × 32 + channel. -/
  | railFault (kind i : Nat) (units : List (Nat × Nat))
  /-- R402: VAUX leaving its range is treated as assertion of RESET_N. -/
  | vauxOutOfRange
  /-- R404: PW_DOMAIN_CMD OFF drains and powers a bank group down, or is refused. Bank group. -/
  | domainOff (b : Nat)
  /-- R404: PW_DOMAIN_CMD ON powers a bank group up in 1 ms. Bank group. -/
  | domainOn (b : Nat)
  /-- R406: Each millisecond the average power is compared with LIMIT_W and one capping step applied or released. `w`:
  watts averaged over the millisecond. -/
  | capEvaluate (w : Nat)
  /-- R408: Every 100 µs temperatures are read and warning, thermal cap or shutdown applied. `ts`: the hottest sensor of
  each die, in 1/16 °C. -/
  | temperatureRead (ts : List Int)
  /-- R411: PMBus CLEAR_FAULTS clears STATUS_WORD bits. -/
  | clearFaults
  /-- R411: PMBus STATUS_WORD returns the status bits. -/
  | statusWord
  /-- R411: PMBus STATUS_TEMPERATURE returns the warning and fault bits. -/
  | statusTemperature
  /-- R411: PMBus READ_VIN returns VIN in LINEAR11. -/
  | readVin
  /-- R411: PMBus READ_IIN returns input current. -/
  | readIin
  /-- R411: PMBus READ_TEMPERATURE_1 returns the hottest Tj. -/
  | readTemperature1
  /-- R411: PMBus READ_PIN returns input power. -/
  | readPin
  /-- R411: PMBus PMBUS_REVISION returns 0x33. -/
  | pmbusRevision
  /-- R411: PMBus MFR_ID returns LAMB. -/
  | mfrId
  /-- R411: PMBus MFR_MODEL returns SND-2048. -/
  | mfrModel
  /-- R411: Any other PMBus command or write returns no data, sets CML and is ignored. -/
  | pmbusUnsupported
  /-- R423: Writing ARM arms a fault injector now or at its start instant and journals it. Injector `k` of port `l`; `w`:
  the word written. -/
  | injectorArm (l k w : Nat)
  /-- R423: An injector armed with START_EN becomes active at its start instant. Injector `k` of port `l`. -/
  | injectorStart (l k : Nat)
  /-- R421: A held frame is released after K frames or its delay and proceeds as a late or ingress frame. Injector `k` of
  port `l`. -/
  | injectorRelease (l k : Nat)
  /-- R423: A change of FI_TSKEW sets the stamp skew and journals it. `l`: the port; `w`: the word written. -/
  | fiTskewWrite (l w : Nat)
  /-- R432: A low RESET_N of 10 µs or more enters Reset within 2 µs, idling lanes and driving time pins low. -/
  | resetNAssert
  /-- R432: Release of RESET_N ends Reset once RAILS_GOOD is set. -/
  | resetNRelease
  /-- R444: TAP BYPASS selects the bypass register. -/
  | bypass
  /-- R444: TAP IDCODE returns 0x1204_894F. -/
  | idcode
  /-- R444: TAP SAMPLE/PRELOAD samples the boundary register without disturbing operation. -/
  | samplePreload
  /-- R444: TAP EXTEST drives the boundary while RESET_N is low. -/
  | extest
  /-- R444: TAP CLAMP holds the outputs while RESET_N is low. -/
  | clamp
  /-- R444: TAP HIGHZ places outputs in high impedance while RESET_N is low. -/
  | highz
  /-- R444: TAP EXTEST_PULSE tests AC-coupled lanes while RESET_N is low. -/
  | extestPulse
  /-- R444: TAP EXTEST_TRAIN tests AC-coupled lanes with pulse trains while RESET_N is low. -/
  | extestTrain
  /-- R136: A data port's link goes down: launches on it become missed with cause LINK_DOWN, a preempted frame in progress
  is lost, pre-emption stops being active and item 4 of R263 rises. `l`: first lane of the port. -/
  | portLinkLoss (l : Nat)
  /-- R167: A data port's link comes up with training complete: launches become possible, pre-emption verification
  restarts and item 4 of R263 is recomputed. `l`: the port; `rate`: the lane rate it trained to, as in LN_PORT_TIMING. -/
  | portLinkUp (l rate : Nat)
  /-- R298: A control lane gains link: the transport begins serving on it, waiting events can be sent, and item 5 of R263
  is recomputed. `k`: 0 lane A, 1 lane B. -/
  | controlLaneUp (k : Nat)
  /-- R37: Each LOG_PDELAY interval the module sends Pdelay_Req on every 802.1AS port, starting the exchange that
  PDELAY_MEASUREMENT completes. `l`: first lane of the port. -/
  | pdelayReqSend (l : Nat)
  /-- R262: The module sends an Announce of the physical domain on its master ports at the announce interval, with
  priority2 taken from its effective claim. `l`: first lane of the port. -/
  | physAnnounceSend (l : Nat)
  /-- R371: If the root PLL has not locked 1 ms after the end of Reset, the module enters Halt with failure PLL. -/
  | bootPllLockTimeout
  /-- R447: The test access port passes through Test-Logic-Reset, which ends a Reset that was held because RESET_N was
  released while a test instruction was loaded. -/
  | tapTestLogicReset
  /-- R390: Retraining of an unfenced DDR5 channel completes within 50 ms, the channel serves again and the mode returns
  to RETURN_MODE if it was the last fence. DDR5 channel. -/
  | ddrUnfenceComplete (c : Nat)
  deriving DecidableEq, Repr

end Sys2Proof
end

