-- ==== Sys2Proof/Decode.lean ====
section
/-!
DEFINITION. Words that spell a command: the command table gives no row any bits, so there are none.
-/

namespace Sys2Proof

/-- The command that `nbits` bits `w` spell by the command table: none, for no row of it gives bits. -/
def decodeTableWord (_nbits _w : Nat) : Option Instr := none

end Sys2Proof
end

