-- ==== Sys2Proof/Config.lean ====
section
/-!
DEFINITION. What the spec leaves open, as constants without a body: no proof can see their value.
-/

namespace Sys2Proof.Config

/-- The free value number `i` (log entry 1): a value some rule leaves open. Every use takes the next `i` from
`State.free` and advances it, so two uses are never known to be equal. -/
opaque freeWord : Nat → Word

/-- What the byte at an address reads as in a memory whose contents a rule leaves undefined: `g` numbers the occasion
(log entry 3). -/
opaque freeByte (g a : Nat) : Byte

end Sys2Proof.Config
end

