-- ==== Sys2Proof/Machine/Parts.lean ====
section
/-!
DEFINITION. The parts of the state that no register shows: queues, pending work, held frames, parsed image records,
and the memories behind the register windows. Registers themselves live in `State.words` (RegMap.lean).

Instants are natural numbers in units of 2^-16 ns (one unit of a full stamp's fraction, R1); signed offsets are
integers in the same unit. `clk` counts the 1.0 GHz ticks since power-up; elapsed intervals are measured in it.
-/

namespace Sys2Proof.Machine

/-- A byte string: a frame with its FCS, a datagram, a message body. -/
abbrev Bytes := List Byte

/-! ## Time -/

/-- The time base of R31. -/
structure TimeBase where
  /-- Physical time in units of 2^-32 ns; seconds wrap at 2^48. -/
  now : Nat := 0
  /-- 1.0 GHz ticks since power-up. -/
  clk : Nat := 0
  deriving DecidableEq, Repr

/-! ## Register access (R9, R10) -/

/-- A complement-pair register waiting for its complement. -/
structure Arm where
  value : Nat
  requester : Nat
  since : Nat
  deriving DecidableEq, Repr

/-! ## Journal and events (R287–R294) -/

/-- The token bucket of a report source: whole tokens are 10^9 units. -/
structure Bucket where
  units : Nat
  at_ : Nat
  deriving DecidableEq, Repr

/-- What a non-empty coalescer holds beside its registers. -/
structure Coalescer where
  sev : Nat := 0
  kind : Nat := 0
  object : Nat := 0
  first : Nat := 0
  last : Nat := 0
  deriving DecidableEq, Repr

/-- An entry class that is written at most once per second: the tick it was last written, and reports since. -/
structure Limiter where
  last : Option Nat := none
  count : Nat := 0
  deriving DecidableEq, Repr

/-- A formed event message: its EV_KIND, its EV_SEQ and the body after the 8-byte header (R293). -/
structure Event where
  kind : Nat
  seq : Nat
  body : Bytes
  deriving DecidableEq, Repr

/-- An EVENT datagram sent and not yet acknowledged (R308). -/
structure SentEvent where
  slot : Nat
  chan : Nat
  dseq : Nat
  sentAt : Nat
  event : Event
  deriving DecidableEq, Repr

/-- The journal's and the event queue's hidden state. -/
structure Journal where
  buckets : SMap (Option Bucket) := []
  /-- Non-empty coalescers by source. -/
  coal : SMap (Option Coalescer) := []
  /-- Physical instant of the latest STAMP_REF entry. -/
  lastRef : Option Nat := none
  /-- A physical step makes a STAMP_REF due before the next short entry (R295). -/
  refDue : Bool := false
  /-- The ring has been found full since the last complete flush (R291). -/
  wasFull : Bool := false
  limits : SMap Limiter := []
  evSeq : Nat := 0
  events : List Event := []
  unacked : List SentEvent := []
  deriving DecidableEq, Repr

/-! ## Rings (R316–R325) -/

/-- The entry a WORK ring runs: pushed or from memory, its index or push sequence, its eight words. -/
structure Running where
  pushed : Bool
  index : Nat
  words : List Nat
  deriving DecidableEq, Repr

/-- Ring state beyond the RG registers. -/
structure RingState where
  /-- Push slots: push sequence and descriptor, oldest first. -/
  push : List (Nat × List Nat) := []
  pushNext : Nat := 0
  running : Option Running := none
  /-- The record in the one holding place of a job result ring (R324): the WORK ring, its entry and the record. -/
  holding : Option (Nat × Running × List Nat) := none
  /-- Status, bytes and detail of the running entry once its work is done (R322). -/
  finished : Option (Nat × Nat × Nat) := none
  /-- A STOP waits for the running entry. -/
  stopping : Bool := false
  /-- Completions and productions so far; that count at the latest RING event, and its tick. -/
  advance : Nat := 0
  evCount : Nat := 0
  evAt : Nat := 0
  deriving DecidableEq, Repr

/-! ## The image in force (R357–R362) and the board -/

/-- A PORT record (R360): `lane` is the module-wide first lane. -/
structure PortRec where
  lane : Nat
  lanes : Nat
  rates : Nat
  autoNeg : Bool
  cellPort : Bool
  channelB : Bool
  maxFrame : Nat
  cell : Nat
  mac : Nat
  deriving DecidableEq, Repr

/-- A PARTITION record (R360). -/
structure PartRec where
  lane : Nat
  base : Nat
  launch : Nat
  relay : Nat
  borrow : Nat
  deriving DecidableEq, Repr

/-- A TABLE record of slice `slice` (R360). -/
structure TableRec where
  slice : Nat
  table : Nat
  width : Nat
  base : Nat
  size : Nat
  deriving DecidableEq, Repr

/-- An EDGE record of slice `slice` (R360, R221). -/
structure EdgeRec where
  slice : Nat
  kind : Nat
  next : Nat
  value : Nat
  deriving DecidableEq, Repr

/-- A SLICE record (R360). -/
structure SliceRec where
  slice : Nat
  profiles : Nat
  tables : Nat
  edges : Nat
  deriving DecidableEq, Repr

/-- A CONTROL_LANE record (R360). -/
structure LaneRec where
  lane : Nat
  ipv6 : Bool
  vlan : Bool
  udpPort : Nat
  mac : Nat
  vid : Nat
  ip : Nat
  deriving DecidableEq, Repr

/-- A READBACK or INITIAL constant (R363). -/
structure ConstRec where
  kind : Nat
  da : Nat
  value : Nat
  complement : Nat
  deriving DecidableEq, Repr

/-- A PROVISION record: key slot, flags and wrapped key (R374). -/
structure ProvRec where
  slot : Nat
  flags : Nat
  wrapped : Bytes
  deriving DecidableEq, Repr

/-- An access map entry: words 0 and 1 (R375) with their complements, and that a mismatch was found in it (R377). -/
structure AmapRec where
  word0 : Nat
  word1 : Nat
  comp0 : Nat
  comp1 : Nat
  dead : Bool := false
  deriving DecidableEq, Repr

/-- A section of an image (R358). -/
structure Section where
  type : Nat
  inst : Nat
  off : Nat
  len : Nat
  records : Nat
  crc : Nat
  deriving DecidableEq, Repr

/-- The image in force, as parsed records. -/
structure Image where
  loaded : Bool := false
  flags : Nat := 0
  secVersion : Nat := 0
  buildId : Nat := 0
  moduleHash : Bytes := []
  clockId : Nat := 0
  priority1 : Nat := 0
  slices : Nat := 0
  ddrG : Nat := 12
  ddrCh : Nat := 0
  cells : Nat := 0
  clocks : Nat := 0
  binds : List (Nat × Nat) := []
  pa : Option Nat := none
  pb : Option Nat := none
  lanes : List LaneRec := []
  sliceRecs : List SliceRec := []
  ports : List PortRec := []
  parts : List PartRec := []
  tables : List TableRec := []
  edges : List EdgeRec := []
  consts : List ConstRec := []
  provs : List ProvRec := []
  amap : List AmapRec := []
  deriving DecidableEq, Repr

/-- What the carrier board fixes. -/
structure Board where
  /-- Capacity of every populated DIMM in bytes (R440). -/
  dimmBytes : Nat := 0
  deriving DecidableEq, Repr

/-! ## Servo, inputs, steps and pins (R38–R64) -/

/-- One pin: its pending target and its queued capture stamps, oldest first. -/
structure PinState where
  target : Option Nat := none
  caps : List Nat := []
  deriving DecidableEq, Repr

/-- The grandmaster a received Announce names. -/
structure AnnounceVec where
  prio1 : Nat
  quality : Nat
  prio2 : Nat
  gm : Nat
  steps : Nat
  source : Nat
  deriving DecidableEq, Repr

/-- Per time input: path-delay history (latest first), SUSPECT interval, exchange in progress. -/
structure InputState where
  history : List Int := []
  /-- Tick at which the SUSPECT interval began. -/
  suspectAt : Nat := 0
  /-- log2 of the input's current sync interval in seconds. -/
  logSync : Int := -3
  /-- The input has missed its intervals and is passed over until its next sample. -/
  stale : Bool := false
  /-- Sequence number and transmit stamp of the open Pdelay_Req or Delay_Req. -/
  reqSeq : Nat := 0
  reqAt : Option Nat := none
  /-- log2 of the Delay_Req interval, and the tick of the latest Delay_Req. -/
  logDelay : Int := 0
  delayAt : Option Nat := none
  /-- Next sequence number of the Sync this port sends. -/
  syncSeq : Nat := 0
  /-- Next sequence number of the Announce this port sends; ticks of its latest Sync and Announce. -/
  announceSeq : Nat := 0
  syncAt : Option Nat := none
  announceAt : Option Nat := none
  /-- The latest vector announced on this port. -/
  announce : Option AnnounceVec := none
  /-- Ingress stamp less origin and correction of the latest Sync. -/
  msOff : Option Int := none
  deriving DecidableEq, Repr

/-- Time state beyond the TB and TP registers. -/
structure TimeSync where
  /-- Integral term in units of half a billionth of an addend LSB. -/
  integ : Int := 0
  phase : Int := 0
  integHist : List Int := []
  /-- Oscillator compensation in addend LSBs (R43). -/
  comp : Int := 0
  okRun : Nat := 0
  lastGood : Nat := 0
  stepSeq : Nat := 0
  /-- Instant of the authorising commit. -/
  stepAt : Nat := 0
  /-- A step outside service waits for the next whole second (R46). -/
  autoStep : Bool := false
  secondsKnown : Bool := false
  /-- Tick of the latest step (R51). -/
  stepClk : Option Nat := none
  /-- Time to load at the next tick (R64). -/
  setPending : Option Nat := none
  /-- Tick of the latest PPS_OUT pulse (R52). -/
  ppsAt : Option Nat := none
  ppsSec : Option Nat := none
  xchkBad : Nat := 0
  xchkGood : Nat := 0
  announces : Nat := 0
  /-- TB_CTRL.ROLE in force (R38). -/
  role : Nat := 0
  /-- Origin, correction with path delay, and ingress stamp of the Sync used last (R37). -/
  upstream : Option (Nat × Int × Nat) := none
  /-- externalPortConfigurationEnabled (R37). -/
  extPortCfg : Bool := false
  /-- Slices whose time copy waits for a reload (R34). -/
  reloading : List Nat := []
  inputs : SMap InputState := []
  pins : SMap PinState := []
  deriving DecidableEq, Repr

/-! ## Scene clocks (R65–R92) -/

/-- A segment, in force or queued. `pa` and `sa` are the anchors. -/
structure Segment where
  pa : Nat
  sa : Nat
  rate : Nat
  epoch : Nat
  kind : Nat := 0
  tag : Nat := 0
  adjusted : Bool := false
  deriving DecidableEq, Repr

/-- Scene clock state beyond the SC registers. -/
structure SceneState where
  /-- The next-epoch counter (R78). -/
  nextEpoch : Nat := 1
  /-- Physical instant at which the strict feed hold began (R85). -/
  holdAt : Option Nat := none
  /-- Staged anchor − S_prev of the latest JUMP, and the latest change of rate (R87). -/
  phase : Int := 0
  freq : Int := 0
  /-- A mismatch stopped the cell's conversions and launches (R77). -/
  stopped : Bool := false
  syncSeq : Nat := 0
  announceSeq : Nat := 0
  deriving DecidableEq, Repr

/-! ## Feeds and held frames (R93–R124) -/

/-- A held replay frame: one copy, in the partition of port `lane`, with the entry fields of its acceptance (R240). -/
structure Held where
  lane : Nat
  stream : Nat
  /-- Its scene clock. -/
  clock : Nat
  seq : Nat
  epoch : Nat
  /-- Scene launch time. -/
  scene : Nat
  /-- Inner frame without FCS. -/
  inner : Bytes
  rewrite : Nat
  age : Nat
  orig : Nat
  noRepeat : Bool
  launchCells : Nat
  borrowed : Nat
  /-- LAUNCH_LATE, TC and STATE of its stream entry. -/
  dropLate : Bool := false
  tc : Nat := 0
  trailer : Bool := false
  /-- Instant it was filed. -/
  filedAt : Nat := 0
  isRepeat : Bool := false
  deriving DecidableEq, Repr

/-- What a launch frame is: a replay frame, a forwarded frame of a time-triggered cell (R194), a substitute (R210). -/
inductive LaunchKind where
  | replay | forwarded | substitute
  deriving DecidableEq, Repr

/-- A converted frame: its launch instant, and its bytes with FCS once staged. -/
structure Launch where
  held : Held
  t0 : Nat
  staged : Option Bytes := none
  stagedAt : Nat := 0
  kind : LaunchKind := .replay
  /-- Cause code of R136 found at staging. -/
  fail : Option Nat := none
  /-- The instant failed its complement check (R16). -/
  corrupt : Bool := false
  /-- The first fault injector it has still to meet (R419), and where an injector held it, the instant of its release. -/
  inj : Nat := 0
  released : Nat := 0
  deriving DecidableEq, Repr

/-- Feed state of one stream beyond its feed entry. -/
structure FeedState where
  endSeq : Option Nat := none
  /-- SEQ values above NEXT_SEQ that are resolved already, with epoch and scene launch time. -/
  ahead : List (Nat × Nat × Nat) := []
  /-- The last 64 SEQ values resolved under a late policy, latest first. -/
  late : List Nat := []
  /-- Epoch and scene launch time of the SEQ resolved last. -/
  prevSlot : Option (Nat × Nat) := none
  /-- SEQ, epoch and scene time of the slot a heartbeat announced. -/
  announced : Option (Nat × Nat × Nat) := none
  /-- HOLD offset D in units of 2^-16 ns. -/
  d : Nat := 0
  /-- Tick of the late test that the stream is holding for. -/
  holdingAt : Option Nat := none
  /-- The retained frame of each port (R120). -/
  retained : List Held := []
  /-- Epoch, horizon and feed hold of the latest grant formed. -/
  grantEpoch : Option Nat := none
  grantHorizon : Option Nat := none
  grantHold : Bool := false
  /-- Effective lead in ns and D as they stood at the start of a strict feed hold (R106). -/
  frozen : Option (Nat × Nat) := none
  /-- Tick of the latest grant request answered; one waits for its answer. -/
  reqAt : Option Nat := none
  reqDue : Bool := false
  /-- A record is due within 2 µs (R108). -/
  eventDue : Bool := false
  /-- Late, full and ahead counts since the latest journal entry, and its tick (R123). -/
  lateN : Nat := 0
  fullN : Nat := 0
  aheadN : Nat := 0
  entryAt : Option Nat := none
  /-- Epoch and horizon that the partner mirrored last, and those from which its horizon may not move back (R269). -/
  mirrored : Option (Nat × Nat) := none
  floor : Option (Nat × Nat) := none
  deriving DecidableEq, Repr

/-! ## Unit pair (R258–R275) -/

/-- A pair link: heartbeats sent, the egress stamp of the latest and those of recent ones by HB_SEQ; HB_SEQ and ingress
stamp of the partner's latest; whether a valid one came in the present interval; consecutive intervals with and without
one. -/
structure PairLink where
  seq : Nat := 0
  prevTx : Nat := 0
  sent : List (Nat × Nat) := []
  lastRx : Option (Nat × Nat) := none
  got : Bool := false
  good : Nat := 0
  missed : Nat := 0
  /-- Index of the 10 µs interval in progress. -/
  interval : Nat := 0
  deriving DecidableEq, Repr

/-- A state message sent and not yet acknowledged. -/
structure StateMsg where
  seq : Nat
  bytes : Bytes
  sentAt : Nat
  deriving DecidableEq, Repr

/-- The unit pair beyond the UP registers. -/
structure Pair where
  linkA : PairLink := {}
  linkB : PairLink := {}
  /-- Index of the latest heartbeat instant. -/
  instant : Nat := 0
  /-- From the partner's latest heartbeat: flags, identity, grandmaster, TB state, STATE_SEQ acknowledged, digest. -/
  flags : Nat := 0
  unitId : Nat := 0
  gm : Nat := 0
  tbState : Nat := 0
  digestMs : Nat := 0
  digest : Nat := 0
  acked : Nat := 0
  /-- Both units have been seen to hold authority, and neither has stopped (R268). -/
  split : Bool := false
  /-- Claim and penalty in the latest heartbeat sent. -/
  sentClaim : Nat := 0
  sentPenalty : Nat := 0
  /-- Tick from which a unit waits for a partner (R267), of entering Mirror, and since which it is CLEAN. -/
  waitFrom : Option Nat := none
  mirrorAt : Nat := 0
  cleanAt : Option Nat := none
  /-- Tick of the latest attempt to fix HANDOVER_MS. -/
  tryAt : Option Nat := none
  /-- The latest STATE_SEQ sent, the highest received in order, and the messages that wait for their acknowledgement. -/
  stateSeq : Nat := 0
  ackIn : Nat := 0
  unacked : List StateMsg := []
  /-- SNAPSHOT_END has been received in this Mirror period; a snapshot is due; clocks whose SCENE record is due. -/
  snapped : Bool := false
  snapDue : Bool := false
  sceneDue : List Nat := []
  /-- What the latest CELL record of a cell said with its tick, and the ticks of FRER records plus one. -/
  cellSent : SMap (Nat × Bytes) := []
  frerSent : SMap Nat := []
  journalAt : Option Nat := none
  /-- Journal head of the partner. -/
  head : Option Nat := none
  /-- The millisecond whose digest was closed last, the one compared last, and consecutive mismatches. -/
  closed : Option Nat := none
  compared : Option Nat := none
  mismatches : Nat := 0
  /-- Mode, cause and heartbeats still to send before the unit leaves service (R383). -/
  leaving : Option (Nat × Nat × Nat) := none
  /-- REC_SEQ of the next health record; LN_MISSED and LN_LATE totals at the latest one. -/
  healthSeq : Nat := 0
  missed0 : Nat := 0
  late0 : Nat := 0
  deriving DecidableEq, Repr

/-! ## Egress ports (R125–R183) -/

/-- What follows the transmission of one of the module's own event frames. -/
inductive OwnKind where
  | none
  /-- A Sync of the physical domain: its Follow_Up comes next (R37), with the correction and the instant it left. -/
  | syncPhys (seq : Nat)
  /-- A Sync of the scene domain of clock `c` (R87). -/
  | syncScene (c seq : Nat)
  /-- A Pdelay_Req or Delay_Req whose transmit stamp is kept. -/
  | request (input : Nat)
  /-- A Pdelay_Resp whose Pdelay_Resp_Follow_Up comes next, to the port identity `req`. -/
  | response (seq req : Nat)
  /-- A heartbeat on pair link `link`, whose egress stamp is kept (R259). -/
  | heartbeat (link seq : Nat)
  /-- An SMD-V verify frame, and its SMD-R response (R167). -/
  | verify
  | respond
  deriving DecidableEq, Repr

/-- A frame in an egress queue, with its FCS. -/
structure EgFrame where
  bytes : Bytes
  stream : Option Nat := none
  /-- The fair flow its classification names. -/
  flow : Option Nat := none
  /-- Relay cells it holds in the port's partition. -/
  cells : Nat := 0
  /-- Tick at which it entered the queue. -/
  since : Nat := 0
  /-- A shadow or guard band deferred it already (R131). -/
  deferred : Bool := false
  own : OwnKind := .none
  /-- Its winning TCAM slot, and the first fault injector it has still to meet (R419). -/
  slot : Option Nat := none
  inj : Nat := 0
  /-- Ring, entry and push mark that wait for it to be queued or sent; see DMA. -/
  owner : Option (Nat × Nat) := none
  deriving DecidableEq, Repr

/-- A transmission on a wire. -/
structure Tx where
  frame : EgFrame
  cls : Nat
  express : Bool
  start : Nat
  stop : Nat
  /-- Bytes sent in earlier fragments, and how many fragments. -/
  sent : Nat := 0
  frags : Nat := 0
  launch : Option Launch := none
  /-- Start of the first fragment. -/
  first : Nat := 0
  /-- A fault injector discarded it: its time runs, and nothing leaves (R420). -/
  dropped : Bool := false
  deriving DecidableEq, Repr

/-- The wire of one port. -/
structure Wire where
  /-- Instant at which the wire is free after the last transmission. -/
  freeAt : Nat := 0
  tx : Option Tx := none
  /-- The preempted frame that awaits its continuation. -/
  preempted : Option Tx := none
  /-- End of a shadow extended by a late launch, or 0 (R134). -/
  shadowEnd : Nat := 0
  deriving DecidableEq, Repr

/-- Credit of one class in units of 2^-16 × 10^-3 bit as of instant `at_`, and how it changes since. -/
structure Credit where
  value : Int := 0
  at_ : Nat := 0
  /-- 0 unchanged, 1 rising, 2 falling while it transmits, 3 empty queue. -/
  cond : Nat := 0
  /-- Largest depth in cells and largest head residence since the latest sample (R181). -/
  maxCells : Nat := 0
  maxDelay : Nat := 0
  /-- ALGO in force while ALGO_PENDING (R160). -/
  algo : Nat := 0
  deriving DecidableEq, Repr

/-- A gate list set: base instant, cycle and extension in ns, entries. -/
structure GateSet where
  base : Nat
  cycle : Nat
  ext : Nat
  entries : List Nat
  deriving DecidableEq, Repr

/-- A gate list beyond its registers: admin entries, the pending set with its ConfigChangeTime, the oper set, and the
start instant of the oper entry in force, and the ConfigChangeTime of the last change that took effect. -/
structure GateLists where
  admin : SMap Nat := []
  pending : Option (GateSet × Nat) := none
  oper : Option GateSet := none
  entryAt : Option Nat := none
  lastCct : Nat := 0
  /-- GATE_EN (or EN) as it is in force. -/
  enabled : Bool := false
  deriving DecidableEq, Repr

/-- MAC merge, LLDP and queue sampling state of one port beyond its registers. -/
structure MergeState where
  /-- Verify frames sent in this run, and the tick of the latest. -/
  verifies : Nat := 0
  verifyAt : Nat := 0
  lldpAt : Option Nat := none
  /-- The module's own pre-emption state changed since the latest LLDPDU. -/
  lldpDue : Bool := false
  /-- Tick at which the peer's TLV expires. -/
  peerUntil : Nat := 0
  /-- The preemptable frame being reassembled: bytes so far, its frame count, next fragment count, and its first-bit
  instant. -/
  rx : Option (Bytes × Nat × Nat × Nat) := none
  /-- Frame count of the next SMD-S sent. -/
  txFrame : Nat := 0
  /-- Sampling period and classes in force, and the instant of the latest sample. -/
  qsCfg : Option (Nat × Nat) := none
  qsAt : Nat := 0
  qsReconf : Nat := 0
  /-- Fair flows served since the group last went idle. -/
  served : List Nat := []
  deriving DecidableEq, Repr

/-! ## Captured frames (R277–R279) -/

/-- A frame chosen for a capture or slow-path record (R277–R279). -/
structure CapFrame where
  lane : Nat
  bytes : Bytes
  /-- First-bit instant, and epoch and scene time at it. -/
  at_ : Nat
  scene : Option (Nat × Nat) := none
  /-- CAUSE of a capture record, the reason code of a slow-path record. -/
  cause : Nat := 0
  verdict : Nat := 0
  profile : Nat := 0
  tc : Nat := 0
  fcsBad : Bool := false
  stream : Option Nat := none
  /-- RING of its profile when it was selected (R295). -/
  ring : Nat := 0
  deriving DecidableEq, Repr

/-- A capture ring beyond its registers: its next CAP_SEQ, the write offset of its data buffer, the bytes that each entry
index took, the physical stamp of its latest STAMP_REF, the epoch and scene stamp of the latest one by cell, and that a
physical step makes one due (R279–R282, R295). -/
structure CapRing where
  seq : Nat := 0
  offset : Nat := 0
  spans : List (Nat × Nat) := []
  lastRef : Option Nat := none
  cellRefs : List (Nat × Nat × Nat) := []
  refDue : Bool := false
  deriving DecidableEq, Repr

/-! ## Time-triggered cells (R184–R214) -/

/-- A basic cycle: its length in ns and its windows in use, as W0 and W1 (R187). -/
structure Basic where
  len : Nat
  wins : List (Nat × Nat)
  deriving DecidableEq, Repr

/-- A coldstart frame of an open coldstart window. -/
structure CsFrame where
  rank : Nat
  node : Nat
  frame : CapFrame
  deriving DecidableEq, Repr

/-- A stored frame of an EXCLUSIVE window (R210): channel, basic cycle, window, the frame and where it was forwarded,
consecutive substitutions so far. -/
structure Stored where
  chan : Nat
  cyc : Nat
  win : Nat
  bytes : Bytes
  stream : Nat
  ports : List Nat := []
  count : Nat := 0
  deriving DecidableEq, Repr

/-- A cycle mark: its configuration in force, a written one with the instant it takes effect, firings so far and the
instant of the latest, and how many events it posted to the control cores. -/
structure Mark where
  cfg : Nat := 0
  next : Option (Nat × Nat) := none
  fired : Nat := 0
  firedAt : Nat := 0
  core : Nat := 0
  deriving DecidableEq, Repr

/-- A cell beyond its registers. Instants are in cell time unless said otherwise. -/
structure CellState where
  /-- Admin bank: CYCLES, the CL_MX_CYC word by basic cycle, window words by cycle × 256 + window. -/
  hdr : Nat := 1
  cycs : SMap Nat := []
  wins : SMap (Nat × Nat) := []
  oper : List Basic := []
  /-- A pending matrix and its effective instant. -/
  pending : Option (List Basic × Nat) := none
  /-- Effective instant of the latest matrix change that took effect. -/
  lastEff : Nat := 0
  /-- EN has been written 0 after 1 (R214). -/
  halted : Bool := false
  /-- Start of matrix cycle 0, once a start is fixed. -/
  base : Option Nat := none
  /-- Start of the matrix cycle in progress. -/
  cycleAt : Option Nat := none
  /-- Windows of this matrix cycle whose entries failed their check: basic cycle, window. -/
  bad : List (Nat × Nat) := []
  /-- d of the SYNC frames of this matrix cycle, and matrix cycles without one. -/
  syncs : List Int := []
  loss : Nat := 0
  /-- SOF that opened the coldstart window, and its frames in order of arrival. -/
  csOpen : Option Nat := none
  csFrames : List CsFrame := []
  /-- Latest accepted SOF by channel, basic cycle, window and instance start. -/
  arb : List ((Nat × Nat × Nat × Nat) × Nat) := []
  /-- Window instances whose owner's frame has started, and those substituted. -/
  started : List (Nat × Nat × Nat × Nat) := []
  substituted : List (Nat × Nat × Nat × Nat) := []
  store : List Stored := []
  marks : SMap Mark := []
  deriving DecidableEq, Repr

/-- Drift of one node on one channel (R200): the last 8 samples in 2^-16 ns, latest first. -/
structure Drift where
  samples : List Int := []
  last : Int := 0
  count : Nat := 0
  low : Option Int := none
  high : Option Int := none
  warn : Bool := false
  warnSeen : Bool := false
  deriving DecidableEq, Repr

/-! ## Frames between ingress and egress (R215–R256) -/

/-- A frame that waits for its second pass (R230): where that pass starts, and what the first pass fixed. -/
structure Recirc where
  lane : Nat
  /-- The frame with its FCS, and its first-bit instant. -/
  bytes : Bytes
  sof : Nat
  epoch : Nat
  /-- Offset of the tunnel's payload under DECAP = TUNNEL, and its EtherType where it is an IP header. -/
  inner : Option (Nat × Option Nat) := none
  mdata : Nat := 0
  slot : Nat := 0
  /-- The window entry passes its complement check; a physical step was applied after the arrival. -/
  intact : Bool := true
  stepped : Bool := false
  deriving DecidableEq, Repr

/-- A live frame in Caldera, bound for ports of one slice (R248, R253). -/
structure Crossing where
  bytes : Bytes
  lanes : List Nat
  cls : Nat
  stream : Option Nat := none
  flow : Option Nat := none
  slot : Option Nat := none
  /-- Recovery function, generated sequence number. -/
  rec_ : Option Nat := none
  gen : Option Nat := none
  /-- Ingress lane, first-bit instant, and whether it was recirculated (R28). -/
  lane : Nat := 0
  sof : Nat := 0
  again : Bool := false
  /-- At an egress half: bound for one lane, with its relay cells, still a candidate for cut-through or not, and the instant
  it reaches its queue (R28). -/
  left : Bool := false
  cells : Nat := 0
  cut : Bool := false
  due : Nat := 0
  deriving DecidableEq, Repr

/-- A stream gate beyond its registers: its lists, the bytes passed in the entry instance in force (R242). -/
structure SGate where
  lists : GateLists := {}
  octets : Nat := 0
  deriving DecidableEq, Repr

/-- The buckets of a flow meter in units of 1/8,000 byte, as of a tick (R244). -/
structure Meter where
  tc : Nat := 0
  te : Nat := 0
  at_ : Nat := 0
  deriving DecidableEq, Repr

/-- A staged stream table entry or egress group (R237). -/
structure BatchItem where
  group : Bool
  index : Nat
  words : List Nat
  deriving DecidableEq, Repr

/-- A committed batch: its update epoch, its apply instant, and the slices that have not applied it. -/
structure Update where
  items : List BatchItem
  epoch : Nat
  at_ : Nat
  slices : List Nat
  deriving DecidableEq, Repr

/-- A recovery instance beyond its registers: the history, the tick of the latest pass, and the latent error test's base
with the ticks of its latest test and base reset (R254–R256). -/
structure RecState where
  hist : Nat := 0
  passAt : Nat := 0
  /-- PASSED and DISCARDED when EN last went to 1. -/
  passed0 : Int := 0
  discarded0 : Int := 0
  base : Int := 0
  testAt : Nat := 0
  baseAt : Nat := 0
  deriving DecidableEq, Repr

/-! ## Measurement (R341–R355) -/

/-- A window record in progress. -/
structure Window where
  cfg : Nat
  start : Nat
  first : Bool := false
  stepped : Bool := false
  rxB : Nat := 0
  txB : Nat := 0
  rxF : Nat := 0
  txF : Nat := 0
  lB : Nat := 0
  lF : Nat := 0
  e0 : Nat := 0
  e1 : Nat := 0
  deriving DecidableEq, Repr

/-- An event counter's selector in force and the instant a written one takes effect. -/
structure EvcState where
  cfg : Nat := 0
  due : Option Nat := none
  deriving DecidableEq, Repr

/-- Launch sampling of one port. -/
structure Sampler where
  left : Option Nat := none
  reconf : Bool := false
  deriving DecidableEq, Repr

/-! ## The control-port transport (R296–R315) -/

/-- Replay state of one key generation under the current BOOT_ID: one more than the highest COUNTER accepted (0: none),
and bit i set where the COUNTER i below the highest has been seen (R302). -/
structure Replay where
  high : Nat := 0
  seen : Nat := 0
  deriving DecidableEq, Repr

/-- A request datagram: its SEQ, the lane, source address and port it came from, and its body in plain text. -/
structure XpRequest where
  seq : Nat
  lane : Nat
  addr : Nat
  port : Nat
  body : Bytes
  deriving DecidableEq, Repr

/-- A transport channel: the window in force, buffered requests, cached responses by SEQ, latest first (R306). -/
structure XpChan where
  window : Nat := 8
  buffered : List XpRequest := []
  cache : List (Nat × Bytes) := []
  deriving DecidableEq, Repr

/-- The transport beyond the XP registers: replay state by slot × 2 + generation, channels by slot × 8 + channel, the
ticks of the HELLO requests answered within one second by slot, datagrams sent since boot. -/
structure Transport where
  replays : SMap Replay := []
  chans : SMap XpChan := []
  hellos : SMap (List Nat) := []
  sent : Nat := 0
  deriving DecidableEq, Repr

/-! ## Block movers (R327–R340) -/

/-- The transfer a DMA channel holds: its descriptor, the requester whose rights it has and the one that wrote a pending
GO, frames sent so far, the offset of the next in the list, and the bytes they had. -/
structure DmaChan where
  words : List Nat := []
  by_ : Nat := 0
  goBy : Nat := 0
  frames : Nat := 0
  offset : Nat := 0
  bytes : Nat := 0
  deriving DecidableEq, Repr

/-- A power-down in progress: the domain (0 slice, 1 DDR5 channel, 2 bank group), its number, the tick of the request,
and that a fence asked for it: a slice then stays powered (R339, R385, R390). -/
structure Drain where
  kind : Nat
  index : Nat
  at_ : Nat
  fence : Bool := false
  deriving DecidableEq, Repr

/-! ## What MRAM keeps (R302, R304, R305, R366, R374, R417) -/

/-- One generation of a key slot: its key (empty: none), and one more than the highest COUNTER accepted in a HELLO under
BOOT_ID 0 (0: none). -/
structure KeyGen where
  key : Bytes := []
  hello : Nat := 0
  deriving DecidableEq, Repr

/-- A key slot: current generation, BOOT flag, both generations. -/
structure KeySlot where
  gen : Nat := 0
  boot : Bool := false
  k0 : KeyGen := {}
  k1 : KeyGen := {}
  deriving DecidableEq, Repr

/-- Trust anchor 0 of a module out of the factory, whose value the spec does not give: the SHA-384 of a public key of zeros
(log entry 64). -/
def anchor0 : Bytes :=
  [0xF5, 0x7B, 0xB7, 0xED, 0x82, 0xC6, 0xAE, 0x4A, 0x29, 0xE6, 0xC9, 0x87, 0x93, 0x38, 0xC5, 0x92, 0xC7, 0xD4,
   0x2A, 0x39, 0x13, 0x55, 0x83, 0xE8, 0xCC, 0xBE, 0x39, 0x40, 0xF2, 0x34, 0x4B, 0x0E, 0xB6, 0xEB, 0x85, 0x03,
   0xDB, 0x0F, 0xFD, 0x6A, 0x39, 0xDD, 0xD0, 0x0C, 0xD0, 0x7D, 0x83, 0x17]

/-- MRAM beyond what registers show: BOOT_ID, the key store, the trust anchors (empty: absent), units replaced by spares
by domain (slice n: n; bank group b: 16 + b; DDR5 channel c: 32 + c; Armature: 48), and equivalent hours in 2^-16 h. -/
structure Mram where
  bootId : Nat := 0
  keys : SMap KeySlot := []
  anchors : List Bytes := [anchor0, [], [], []]
  repairs : SMap Nat := []
  life : Nat := 0
  deriving DecidableEq, Repr

/-! ## Boot, builds, firmware (R370–R374, R387, R391–R393) -/

/-- An image that passed checks 1–11, with what the boot code still needs of it: its anchor, the firmware releases by
instance, and the unwrapped keys of its PROVISION records. -/
structure Loading where
  image : Image
  anchor : Nat
  releases : List (Nat × Nat)
  keys : List (Option Bytes)
  deriving DecidableEq, Repr

/-- The load in progress. -/
structure Boot where
  /-- Tick at which Reset ended. -/
  endAt : Nat := 0
  /-- An image that passed checks 1–11, while it is being loaded. -/
  next : Option Loading := none
  /-- The flash attempt runs. -/
  flash : Bool := false
  /-- TAG of the LOAD that runs. -/
  tag : Nat := 0
  /-- The section with which each slice in BUILDING is built, where a LOAD brought one (R387). -/
  builds : SMap (Option Image) := []
  /-- UNFENCE has been executed for a slice, at a tick, 2 µs before it serves (R388); DDR5 channels that retrain (R390). -/
  unfencing : List (Nat × Nat) := []
  retraining : List Nat := []
  deriving DecidableEq, Repr

/-- A firmware switch: the tick at which the part in progress began, the instances that it moves, and that a failure made
it turn back. -/
structure Firmware where
  since : Nat := 0
  parts : List Nat := []
  failed : Bool := false
  deriving DecidableEq, Repr

/-! ## Self-test (R397, R398, R415–R417) -/

/-- A test item: ticket, item, target, origin, and the instant and tick of its start. -/
structure TestItem where
  ticket : Nat
  item : Nat
  target : Nat
  origin : Nat
  at_ : Nat := 0
  clk : Nat := 0
  /-- CANCEL has been executed for it, and it ends once its repair is done (R424). -/
  cancelled : Bool := false
  deriving DecidableEq, Repr

/-- Test items running and queued, the latest ticket, the next test log SEQ less one, the next item and target of the
rotation, lanes that failed LANE_BIST, slices that may not be unfenced, retired hold cells. -/
structure Tests where
  running : List TestItem := []
  queue : List TestItem := []
  ticket : Nat := 0
  seq : Nat := 0
  rotation : Nat := 0
  badLanes : List Nat := []
  locked : List Nat := []
  retired : List Nat := []
  deriving DecidableEq, Repr

/-! ## Power (R400–R413) and contacts (R425–R447) -/

/-- Power manager state beyond the PW registers. -/
structure Power where
  /-- Capping steps that LIMIT_W asks for, consecutive milliseconds below 97 %, and above the limit with all four. -/
  limitStep : Nat := 0
  low : Nat := 0
  full : Nat := 0
  /-- Thermal warning and cap in force, and the tick since which Tj has been at the shutdown threshold. -/
  warn : Bool := false
  cap : Bool := false
  hotAt : Option Nat := none
  /-- Latched bits of STATUS_WORD and of STATUS_TEMPERATURE. -/
  word : Nat := 0
  temp : Nat := 0
  /-- Sum of the hottest Tj in 1/16 °C and number of readings in the current hour. -/
  tjSum : Int := 0
  tjN : Nat := 0
  /-- Ageing corrections that wait for the die's next power-up (R412). -/
  agingDue : List Nat := []
  deriving DecidableEq, Repr

/-- Levels at the contacts and the test access port. -/
structure Contacts where
  /-- RESET_N is high. -/
  resetN : Bool := false
  /-- A Reset is held until the test access port passes through Test-Logic-Reset (R447). -/
  held : Bool := false
  /-- The instruction in the test access port: 0 BYPASS, 1 IDCODE, 2 SAMPLE/PRELOAD, 3 EXTEST, 4 CLAMP, 5 HIGHZ,
  6 EXTEST_PULSE, 7 EXTEST_TRAIN. -/
  tap : Nat := 1
  deriving DecidableEq, Repr

/-! ## What Park saves (R384) -/

/-- A saved slice: its register and table words, and the lists behind its windows. -/
structure Saved where
  /-- Slices that were fenced, with state and cause. -/
  fenced : List (Nat × Nat × Nat) := []
  words : SMap Word := []
  gates : SMap GateLists := []
  sgates : SMap SGate := []
  deriving DecidableEq, Repr

/-! ## Fault injectors (R417–R424) -/

/-- A frame that an injector holds: its bytes, the instant it was held (its arrival, on ingress), how many later selected
frames must pass first (none: only the delay ends it), and on egress its class and what it was. -/
structure InjHeld where
  bytes : Bytes
  at_ : Nat
  left : Option Nat
  cls : Nat := 0
  frame : Option EgFrame := none
  launch : Option Launch := none
  /-- On ingress: a physical step was applied after its arrival (R185), and `intact` of its arrival. -/
  stepped : Bool := false
  intact : Bool := true
  deriving DecidableEq, Repr

/-- A fault injector beyond its registers: frames selected and injections made since it was armed. -/
structure Injector where
  selected : Nat := 0
  done : Nat := 0
  held : Option InjHeld := none
  deriving DecidableEq, Repr

/-! ## What leaves the module -/

/-- Something the module has sent at its contacts. -/
inductive Output where
  /-- A whole frame on port `lane` whose first bit left at `start`. -/
  | frame (lane start : Nat) (bytes : Bytes)
  /-- A fragment of a preemptable frame. -/
  | fragment (lane start : Nat) (bytes : Bytes)
  /-- A frame or datagram on control lane `lane`, body in plain text. -/
  | control (lane addr port kind slot gen chan counter seq : Nat) (body : Bytes)
  /-- A 1588 message on a control lane. -/
  | lanePtp (lane : Nat) (bytes : Bytes)
  /-- A pulse on time pin `pin` (16: PPS_OUT): active level, instant, width in ns. -/
  | pulse (pin : Nat) (active : Bool) (start width : Nat)
  /-- The answer to a command of the transport given outside a datagram. -/
  | response (slot op status count flags : Nat) (data : List Nat)
  /-- Bytes returned on the PMBus. -/
  | pmbus (bytes : Bytes)
  /-- The register selected in the test access port, and what it shifts out. -/
  | tap (instruction : Nat) (value : Nat)
  deriving DecidableEq, Repr

end Sys2Proof.Machine
end

