-- ==== Sys2Proof/Machine/RegMap.lean ====
section
/-!
DEFINITION. The register map: the address of every register, the place of every field, and each register's access
masks and reset word, as the field tables of spec/02 to spec/19 give them (index: spec/19_register_map.md R448–R457).

Address functions have the name of the block in lower case (`A.tb`, `A.lnp l`); `l` is a module-wide first lane.
Field names are REG_FIELD as the spec writes them; fields of the slice MS block carry the prefix MSS.
The structures that registers only open a window on (feed entries, TCAM slots, stream entries, ...) lie in the same
word map at keys from 2^44 up, which no device address reaches; each entry keeps the offsets of its window, so one
field name serves the window and the entry.
-/

namespace Sys2Proof.Machine

/-- A field of a register: the register's offset in its group, and the field's highest and lowest bit. -/
structure Fld where
  off : Nat
  hi : Nat
  lo : Nat
  deriving DecidableEq, Repr

/-- A range that a written field must lie in (its Description column): bits `hi` to `lo`, from `min` to `max` in steps
of `step`; `min > max` is a signed range that wraps; `zero` admits 0 besides. -/
structure Rng where
  hi : Nat
  lo : Nat
  min : Nat
  max : Nat
  step : Nat
  zero : Bool
  deriving DecidableEq, Repr

/-- One register of a group: offset, reset word (R7) the masks of its rw, w1c, w1s, wo and rwp
bits (R8), and the ranges a written field must keep. -/
structure RegDef where
  off : Nat
  rst : Nat
  rw : Nat
  w1c : Nat
  w1s : Nat
  wo : Nat
  rwp : Nat
  chk : List Rng
  deriving DecidableEq, Repr

/-- What an instance of a group stands for; it decides whether the instance exists (R455). -/
inductive RegKind where
  | plain | tbPort | pin | scCell | port | portM | clCell | gdPort | profile | loaded | table
  deriving DecidableEq, Repr

/-- A group of registers repeated over its dimensions, each a stride and a count, outermost first. -/
structure RegGroup where
  kind : RegKind
  base : Nat
  dims : List (Nat × Nat)
  regs : List RegDef
  deriving DecidableEq, Repr


namespace A

/-- Base address of TB. -/
def tb : Nat := 0x1000000
/-- Base address of TBP registers, instance l. -/
def tbp (l : Nat) : Nat := 0x1010000 + 0x40 * l
/-- Base address of TP registers, instance p. -/
def tp (p : Nat) : Nat := 0x1F00000 + 0x40 * p
/-- Base address of SC. -/
def sc : Nat := 0x1100000
/-- Base address of SCC registers, instance c. -/
def scc (c : Nat) : Nat := 0x1110000 + 0x800 * c
/-- Base address of SCQ registers, instance c, k. -/
def scq (c : Nat) (k : Nat) : Nat := 0x1110400 + 0x800 * c + 0x40 * k
/-- Base address of FD registers, instance n. -/
def fd (n : Nat) : Nat := 0x10B00000 + 0x1000000 * n
/-- Base address of FDS registers, instance n, i. -/
def fds (n : Nat) (i : Nat) : Nat := 0x10B10000 + 0x1000000 * n + 0x40 * i
/-- Base address of HM. -/
def hm : Nat := 0x18000000
/-- Base address of HMP registers, instance l. -/
def hmp (l : Nat) : Nat := 0x18010000 + 0x40 * l
/-- Base address of LN registers, instance n. -/
def ln (n : Nat) : Nat := 0x10400000 + 0x1000000 * n
/-- Base address of LNP registers, instance l. -/
def lnp (l : Nat) : Nat := 0x10410000 + 0x1000000 * (l / 64) + 0x100 * (l % 64)
/-- Base address of GC registers, instance n. -/
def gc (n : Nat) : Nat := 0x10500000 + 0x1000000 * n
/-- Base address of GCP registers, instance l. -/
def gcp (l : Nat) : Nat := 0x10510000 + 0x1000000 * (l / 64) + 0x200 * (l % 64)
/-- Base address of GCC registers, instance l, k. -/
def gcc (l : Nat) (k : Nat) : Nat := 0x10510100 + 0x1000000 * (l / 64) + 0x200 * (l % 64) + 0x20 * k
/-- Base address of PEP registers, instance l. -/
def pep (l : Nat) : Nat := 0x10610000 + 0x1000000 * (l / 64) + 0x100 * (l % 64)
/-- Base address of SH registers, instance n. -/
def sh (n : Nat) : Nat := 0x10700000 + 0x1000000 * n
/-- Base address of SHP registers, instance l. -/
def shp (l : Nat) : Nat := 0x10710000 + 0x1000000 * (l / 64) + 0x1000 * (l % 64)
/-- Base address of SHC registers, instance l, k. -/
def shc (l : Nat) (k : Nat) : Nat := 0x10710100 + 0x1000000 * (l / 64) + 0x1000 * (l % 64) + 0x40 * k
/-- Base address of SHF registers, instance l, f. -/
def shf (l : Nat) (f : Nat) : Nat := 0x10710400 + 0x1000000 * (l / 64) + 0x1000 * (l % 64) + 0x20 * f
/-- Base address of CL registers, instance n. -/
def cl (n : Nat) : Nat := 0x10800000 + 0x1000000 * n
/-- Base address of CLC registers, instance n, c. -/
def clc (n : Nat) (c : Nat) : Nat := 0x10810000 + 0x1000000 * n + 0x100 * c
/-- Base address of GD registers, instance n. -/
def gd (n : Nat) : Nat := 0x10900000 + 0x1000000 * n
/-- Base address of GDP registers, instance l. -/
def gdp (l : Nat) : Nat := 0x10910000 + 0x1000000 * (l / 64) + 0x100 * (l % 64)
/-- Base address of PR registers, instance n. -/
def pr (n : Nat) : Nat := 0x10100000 + 0x1000000 * n
/-- Base address of CF registers, instance n. -/
def cf (n : Nat) : Nat := 0x10200000 + 0x1000000 * n
/-- Base address of CFP registers, instance l. -/
def cfp (l : Nat) : Nat := 0x10210000 + 0x1000000 * (l / 64) + 0x100 * (l % 64)
/-- Base address of ST registers, instance n. -/
def st (n : Nat) : Nat := 0x10300000 + 0x1000000 * n
/-- Base address of FR registers, instance n. -/
def fr (n : Nat) : Nat := 0x10A00000 + 0x1000000 * n
/-- Base address of UP. -/
def up : Nat := 0x3000000
/-- Base address of CP. -/
def cp : Nat := 0x2400000
/-- Base address of CPF registers, instance p. -/
def cpf (p : Nat) : Nat := 0x2410000 + 0x80 * p
/-- Base address of CPR registers, instance r. -/
def cpr (r : Nat) : Nat := 0x2420000 + 0x20 * r
/-- Base address of CPP registers, instance l. -/
def cpp (l : Nat) : Nat := 0x2430000 + 0x8 * l
/-- Base address of JR. -/
def jr : Nat := 0x2300000
/-- Base address of JRS registers, instance s. -/
def jrs (s : Nat) : Nat := 0x2310000 + 0x40 * s
/-- Base address of XP. -/
def xp : Nat := 0x2000000
/-- Base address of XPL registers, instance k. -/
def xpl (k : Nat) : Nat := 0x2000100 + 0x40 * k
/-- Base address of XPS registers, instance s. -/
def xps (s : Nat) : Nat := 0x2010000 + 0x100 * s
/-- Base address of RG. -/
def rg : Nat := 0x2100000
/-- Base address of RGR registers, instance r. -/
def rgr (r : Nat) : Nat := 0x2110000 + 0x80 * r
/-- Base address of DM. -/
def dm : Nat := 0x2200000
/-- Base address of DME registers, instance e. -/
def dme (e : Nat) : Nat := 0x2210000 + 0x10000 * e
/-- Base address of DMC registers, instance e, c. -/
def dmc (e : Nat) (c : Nat) : Nat := 0x2211000 + 0x10000 * e + 0x100 * c
/-- Base address of MS. -/
def ms : Nat := 0x3100000
/-- Base address of MSB registers, instance b. -/
def msb (b : Nat) : Nat := 0x3110000 + 0x20 * b
/-- Base address of MSD registers, instance n. -/
def msd (n : Nat) : Nat := 0x3120000 + 0x80 * n
/-- Base address of MSS registers, instance n. -/
def mss (n : Nat) : Nat := 0x10D00000 + 0x1000000 * n
/-- Base address of MSP registers, instance l. -/
def msp (l : Nat) : Nat := 0x10D10000 + 0x1000000 * (l / 64) + 0x2000 * (l % 64)
/-- Base address of SY. -/
def sy : Nat := 0x0
/-- Base address of IM. -/
def im : Nat := 0x100000
/-- Base address of MD. -/
def md : Nat := 0x200000
/-- Base address of BG. -/
def bg : Nat := 0x400000
/-- Base address of BGT registers, instance t. -/
def bgt (t : Nat) : Nat := 0x400100 + 0x20 * t
/-- Base address of PW. -/
def pw : Nat := 0x300000
/-- Base address of FI registers, instance n. -/
def fi (n : Nat) : Nat := 0x10C00000 + 0x1000000 * n
/-- Base address of FII registers, instance l, k. -/
def fii (l : Nat) (k : Nat) : Nat := 0x10C10000 + 0x1000000 * (l / 64) + 0x200 * (l % 64) + 0x40 * k
/-- Base address of FIT registers, instance l. -/
def fit (l : Nat) : Nat := 0x10C10100 + 0x1000000 * (l / 64) + 0x200 * (l % 64)
/-- Base address of SD registers, instance n. -/
def sd (n : Nat) : Nat := 0x10000000 + 0x1000000 * n
/-- Key of feed entry `x` (R106): words W0–W15 at the offsets of the window HM_FEED_W. -/
def tfeed (x : Nat) : Nat := 0x100000000000 + 0x100 * x
/-- Key of rewrite profile `i` of slice `n` (R139). -/
def trwprof (n : Nat) (i : Nat) : Nat := 0x110000000000 + 0x1000000 * n + 0x100 * i
/-- Key of TCAM slot `i` of slice `n` (R226). -/
def ttcam (n : Nat) (i : Nat) : Nat := 0x120000000000 + 0x10000000 * n + 0x200 * i
/-- Key of stream table entry `x` in the replica of slice `n` (R233). -/
def tstream (n : Nat) (x : Nat) : Nat := 0x130000000000 + 0x10000000 * n + 0x100 * x
/-- Key of stream counters of entry `x` on slice `n` (R245). -/
def tstcnt (n : Nat) (x : Nat) : Nat := 0x140000000000 + 0x10000000 * n + 0x100 * x
/-- Key of port group `g` in the replica of slice `n` (R236). -/
def tgroup (n : Nat) (g : Nat) : Nat := 0x150000000000 + 0x10000000 * n + 0x200 * g
/-- Key of stream gate `g` of slice `n` (R242). -/
def tsgate (n : Nat) (g : Nat) : Nat := 0x160000000000 + 0x10000000 * n + 0x400 * g
/-- Key of flow meter `m` of slice `n` (R244). -/
def tmeter (n : Nat) (m : Nat) : Nat := 0x170000000000 + 0x10000000 * n + 0x400 * m
/-- Key of generation function `i` of slice `n` (R250). -/
def tgenf (n : Nat) (i : Nat) : Nat := 0x180000000000 + 0x10000000 * n + 0x100 * i
/-- Key of recovery function `i` of slice `n` (R254). -/
def trecf (n : Nat) (i : Nat) : Nat := 0x190000000000 + 0x10000000 * n + 0x100 * i
/-- Key of cycle mark `m` of cell `c` (R211). -/
def tmark (c : Nat) (m : Nat) : Nat := 0x1A0000000000 + 0x1000 * c + 0x100 * m
/-- Key of node configuration of node `d` (R193). -/
def tnode (d : Nat) : Nat := 0x1B0000000000 + 0x100 * d
/-- Key of drift state on slice `n` of node `d`, channel `h` (R200). -/
def tdrift (n : Nat) (d : Nat) (h : Nat) : Nat := 0x1C0000000000 + 0x10000000 * n + 0x200 * d + 0x100 * h

end A

/-! Fields of TB. -/
def TB_CTRL_DOMAIN_PHYS : Fld := ⟨0x0, 22, 16⟩
def TB_CTRL_HOLDOVER_SYNCS : Fld := ⟨0x0, 15, 12⟩
def TB_CTRL_XCHK_ACTION : Fld := ⟨0x0, 8, 8⟩
def TB_CTRL_SERVO_EN : Fld := ⟨0x0, 4, 4⟩
def TB_CTRL_ROLE : Fld := ⟨0x0, 2, 0⟩
def TB_STATUS_ACTIVE_INPUT : Fld := ⟨0x8, 31, 16⟩
def TB_STATUS_PPS_IN_VALID : Fld := ⟨0x8, 10, 10⟩
def TB_STATUS_XCHK_FAIL : Fld := ⟨0x8, 9, 9⟩
def TB_STATUS_STEP_PENDING : Fld := ⟨0x8, 8, 8⟩
def TB_STATUS_STATE : Fld := ⟨0x8, 2, 0⟩
def TB_NOW_SEC_SEC : Fld := ⟨0x10, 47, 0⟩
def TB_NOW_NS_NS : Fld := ⟨0x18, 63, 32⟩
def TB_NOW_NS_FRAC : Fld := ⟨0x18, 31, 16⟩
def TB_SET_SEC_SEC : Fld := ⟨0x20, 47, 0⟩
def TB_SET_NS_NS : Fld := ⟨0x28, 63, 32⟩
def TB_SET_NS_FRAC : Fld := ⟨0x28, 31, 16⟩
def TB_SET_GO_GO : Fld := ⟨0x30, 0, 0⟩
def TB_ADDEND_ADDEND : Fld := ⟨0x40, 63, 0⟩
def TB_ADDEND_EFF_ADDEND_EFF : Fld := ⟨0x50, 63, 0⟩
def TB_SERVO_GAIN_LOCK_NS : Fld := ⟨0x58, 47, 32⟩
def TB_SERVO_GAIN_KI : Fld := ⟨0x58, 31, 16⟩
def TB_SERVO_GAIN_KP : Fld := ⟨0x58, 15, 0⟩
def TB_SERVO_INTEG_INTEG : Fld := ⟨0x60, 63, 0⟩
def TB_LAST_OFFSET_OFFSET : Fld := ⟨0x68, 63, 0⟩
def TB_LAST_SEQ_INPUT : Fld := ⟨0x70, 31, 16⟩
def TB_LAST_SEQ_SEQ_ID : Fld := ⟨0x70, 15, 0⟩
def TB_HOLDOVER_SINCE_SEC : Fld := ⟨0x78, 47, 0⟩
def TB_STEP_STATUS_ARMED : Fld := ⟨0x80, 33, 33⟩
def TB_STEP_STATUS_PENDING : Fld := ⟨0x80, 32, 32⟩
def TB_STEP_STATUS_SEQ : Fld := ⟨0x80, 31, 0⟩
def TB_STEP_OFFSET_OFFSET : Fld := ⟨0x88, 63, 0⟩
def TB_STEP_AUTH_SEQ : Fld := ⟨0x90, 31, 0⟩
def TB_STEP_LAST_DELTA : Fld := ⟨0xA0, 63, 0⟩
def TB_STEP_LAST_SEC_SEC : Fld := ⟨0xA8, 47, 0⟩
def TB_SLEW_LIMIT_PPB : Fld := ⟨0xB0, 31, 0⟩
def TB_INPUT_SEL_TERTIARY : Fld := ⟨0xB8, 47, 32⟩
def TB_INPUT_SEL_SECONDARY : Fld := ⟨0xB8, 31, 16⟩
def TB_INPUT_SEL_PRIMARY : Fld := ⟨0xB8, 15, 0⟩
def TB_XCHK_LIMIT_NS : Fld := ⟨0xC0, 31, 0⟩
def TB_PPS_CTRL_IN_FALLING : Fld := ⟨0xC8, 34, 34⟩
def TB_PPS_CTRL_IN_EN : Fld := ⟨0xC8, 33, 33⟩
def TB_PPS_CTRL_OUT_EN : Fld := ⟨0xC8, 32, 32⟩
def TB_PPS_CTRL_OUT_WIDTH : Fld := ⟨0xC8, 31, 0⟩
def TB_PPS_IN_NS_NS : Fld := ⟨0xD0, 63, 32⟩
def TB_PPS_IN_NS_FRAC : Fld := ⟨0xD0, 31, 16⟩
def TB_PPS_IN_NS_VALID : Fld := ⟨0xD0, 0, 0⟩
def TB_EVENT_FLAGS : Fld := ⟨0xD8, 7, 0⟩
/-! Fields of TBP. -/
def TB_PORT_CTRL_PD_STEP_LIMIT : Fld := ⟨0x0, 47, 32⟩
def TB_PORT_CTRL_DOMAIN_PHYS : Fld := ⟨0x0, 23, 16⟩
def TB_PORT_CTRL_LOG_SYNC : Fld := ⟨0x0, 15, 12⟩
def TB_PORT_CTRL_LOG_PDELAY : Fld := ⟨0x0, 11, 8⟩
def TB_PORT_CTRL_TRANSPORT_1588 : Fld := ⟨0x0, 5, 4⟩
def TB_PORT_CTRL_PTP1588_EN : Fld := ⟨0x0, 2, 2⟩
def TB_PORT_CTRL_ROLE_PHYS : Fld := ⟨0x0, 1, 0⟩
def TB_PORT_ASYM_ASYM : Fld := ⟨0x8, 63, 0⟩
def TB_PORT_PD_PD : Fld := ⟨0x10, 63, 0⟩
def TB_PORT_PD_LAST_PD_LAST : Fld := ⟨0x18, 63, 0⟩
def TB_PORT_STATUS_NRR_VALID : Fld := ⟨0x20, 33, 33⟩
def TB_PORT_STATUS_AS_CAPABLE : Fld := ⟨0x20, 32, 32⟩
def TB_PORT_STATUS_PD_SAMPLES : Fld := ⟨0x20, 31, 24⟩
def TB_PORT_STATUS_EXTENSIONS : Fld := ⟨0x20, 23, 16⟩
def TB_PORT_STATUS_SUSPECT_REMAIN : Fld := ⟨0x20, 15, 8⟩
def TB_PORT_STATUS_INPUT_STATE : Fld := ⟨0x20, 1, 0⟩
def TB_PORT_CLEAR_FLUSH_PD : Fld := ⟨0x28, 1, 1⟩
def TB_PORT_CLEAR_CLEAR_FAULTY : Fld := ⟨0x28, 0, 0⟩
def TB_PORT_NRR_NRR_DEV : Fld := ⟨0x30, 63, 0⟩
/-! Fields of TP. -/
def TP_CTRL_DISARM : Fld := ⟨0x0, 9, 9⟩
def TP_CTRL_ARM : Fld := ⟨0x0, 8, 8⟩
def TP_CTRL_CAP_EDGE : Fld := ⟨0x0, 5, 4⟩
def TP_CTRL_POLARITY : Fld := ⟨0x0, 3, 3⟩
def TP_CTRL_MODE : Fld := ⟨0x0, 2, 0⟩
def TP_START_SEC_SEC : Fld := ⟨0x8, 47, 0⟩
def TP_START_NS_NS : Fld := ⟨0x10, 63, 32⟩
def TP_START_NS_FRAC : Fld := ⟨0x10, 31, 16⟩
def TP_PERIOD_PERIOD : Fld := ⟨0x18, 47, 0⟩
def TP_WIDTH_WIDTH : Fld := ⟨0x20, 31, 0⟩
def TP_STATUS_PULSES : Fld := ⟨0x28, 63, 32⟩
def TP_STATUS_CAP_COUNT : Fld := ⟨0x28, 12, 8⟩
def TP_STATUS_CAP_OVERFLOW : Fld := ⟨0x28, 3, 3⟩
def TP_STATUS_SKIPPED_BY_STEP : Fld := ⟨0x28, 2, 2⟩
def TP_STATUS_MISSED : Fld := ⟨0x28, 1, 1⟩
def TP_STATUS_ARMED : Fld := ⟨0x28, 0, 0⟩
def TP_CAP_SEC_SEC : Fld := ⟨0x30, 47, 0⟩
def TP_CAP_NS_NS : Fld := ⟨0x38, 63, 32⟩
def TP_CAP_NS_FRAC : Fld := ⟨0x38, 31, 16⟩
def TP_CAP_NS_VALID : Fld := ⟨0x38, 0, 0⟩
/-! Fields of SC. -/
def SC_INFO_QUEUE_DEPTH : Fld := ⟨0x0, 20, 16⟩
def SC_INFO_CELLS : Fld := ⟨0x0, 11, 0⟩
/-! Fields of SCC. -/
def SC_CELL_CTRL_LOG_ANNOUNCE : Fld := ⟨0x0, 23, 20⟩
def SC_CELL_CTRL_LOG_SYNC : Fld := ⟨0x0, 19, 16⟩
def SC_CELL_CTRL_DOMAIN : Fld := ⟨0x0, 14, 8⟩
def SC_CELL_CTRL_GPTP_EN : Fld := ⟨0x0, 3, 3⟩
def SC_CELL_CTRL_CARRY : Fld := ⟨0x0, 2, 2⟩
def SC_CELL_CTRL_POLICY : Fld := ⟨0x0, 1, 1⟩
def SC_CELL_CTRL_EN : Fld := ⟨0x0, 0, 0⟩
def SC_HORIZON_NS : Fld := ⟨0x8, 31, 0⟩
def SC_STATUS_EPOCH : Fld := ⟨0x10, 63, 48⟩
def SC_STATUS_TBI : Fld := ⟨0x10, 47, 32⟩
def SC_STATUS_DISC : Fld := ⟨0x10, 31, 16⟩
def SC_STATUS_QUEUE_COUNT : Fld := ⟨0x10, 12, 8⟩
def SC_STATUS_FEED_HOLD : Fld := ⟨0x10, 3, 3⟩
def SC_STATUS_STATE : Fld := ⟨0x10, 2, 0⟩
def SC_NOW_SEC_EPOCH : Fld := ⟨0x18, 63, 48⟩
def SC_NOW_SEC_SEC : Fld := ⟨0x18, 47, 0⟩
def SC_NOW_NS_NS : Fld := ⟨0x20, 63, 32⟩
def SC_NOW_NS_FRAC : Fld := ⟨0x20, 31, 16⟩
def SC_CUR_PHYS_SEC_SEC : Fld := ⟨0x28, 47, 0⟩
def SC_CUR_PHYS_NS_NS : Fld := ⟨0x30, 63, 32⟩
def SC_CUR_PHYS_NS_FRAC : Fld := ⟨0x30, 31, 16⟩
def SC_CUR_SCENE_SEC_EPOCH : Fld := ⟨0x38, 63, 48⟩
def SC_CUR_SCENE_SEC_SEC : Fld := ⟨0x38, 47, 0⟩
def SC_CUR_SCENE_NS_NS : Fld := ⟨0x40, 63, 32⟩
def SC_CUR_SCENE_NS_FRAC : Fld := ⟨0x40, 31, 16⟩
def SC_CUR_RATE_RATE : Fld := ⟨0x48, 63, 0⟩
def SC_STG_PHYS_SEC_SEC : Fld := ⟨0x50, 47, 0⟩
def SC_STG_PHYS_NS_NS : Fld := ⟨0x60, 63, 32⟩
def SC_STG_PHYS_NS_FRAC : Fld := ⟨0x60, 31, 16⟩
def SC_STG_SCENE_SEC_SEC : Fld := ⟨0x70, 47, 0⟩
def SC_STG_SCENE_NS_NS : Fld := ⟨0x80, 63, 32⟩
def SC_STG_SCENE_NS_FRAC : Fld := ⟨0x80, 31, 16⟩
def SC_STG_RATE_RATE : Fld := ⟨0x90, 63, 0⟩
def SC_SEG_CMD_TAG : Fld := ⟨0xA0, 31, 16⟩
def SC_SEG_CMD_KIND : Fld := ⟨0xA0, 7, 4⟩
def SC_SEG_CMD_OP : Fld := ⟨0xA0, 1, 0⟩
def SC_SEG_RESULT_TAG : Fld := ⟨0xB0, 47, 32⟩
def SC_SEG_RESULT_RESULT_SEQ : Fld := ⟨0xB0, 31, 24⟩
def SC_SEG_RESULT_QUEUE_INDEX : Fld := ⟨0xB0, 23, 20⟩
def SC_SEG_RESULT_HORIZON_ADJUSTED : Fld := ⟨0xB0, 16, 16⟩
def SC_SEG_RESULT_FLUSHED : Fld := ⟨0xB0, 15, 8⟩
def SC_SEG_RESULT_STATUS : Fld := ⟨0xB0, 7, 0⟩
def SC_SEG_EFF_SEC_SEC : Fld := ⟨0xB8, 47, 0⟩
def SC_SEG_EFF_NS_NS : Fld := ⟨0xC0, 63, 32⟩
def SC_SEG_EFF_NS_FRAC : Fld := ⟨0xC0, 31, 16⟩
def SC_GM_CTRL_TIME_SOURCE : Fld := ⟨0xC8, 39, 32⟩
def SC_GM_CTRL_VARIANCE : Fld := ⟨0xC8, 31, 16⟩
def SC_GM_CTRL_CLOCK_ACCURACY : Fld := ⟨0xC8, 15, 8⟩
def SC_GM_CTRL_CLOCK_CLASS : Fld := ⟨0xC8, 7, 0⟩
def SC_GM_STATUS_SYNC_SENT : Fld := ⟨0xD0, 63, 32⟩
def SC_GM_STATUS_PORTS : Fld := ⟨0xD0, 23, 16⟩
def SC_GM_STATUS_PRIORITY1 : Fld := ⟨0xD0, 15, 8⟩
def SC_GM_STATUS_PRIORITY2 : Fld := ⟨0xD0, 7, 0⟩
def SC_HOLD_ACCUM_NS : Fld := ⟨0xD8, 63, 0⟩
def SC_CNT_EPOCH_DISCARD_COUNT : Fld := ⟨0xE0, 63, 0⟩
def SC_CNT_RELABEL_COUNT : Fld := ⟨0xE8, 63, 0⟩
def SC_CNT_JUMP_DISCARD_COUNT : Fld := ⟨0xF0, 63, 0⟩
def SC_CNT_STALE_ENV_COUNT : Fld := ⟨0xF8, 63, 0⟩
def SC_EVENT_FLAGS : Fld := ⟨0x100, 5, 0⟩
/-! Fields of SCQ. -/
def SC_QUEUE_PHYS_SEC_VALID : Fld := ⟨0x0, 63, 63⟩
def SC_QUEUE_PHYS_SEC_KIND : Fld := ⟨0x0, 55, 52⟩
def SC_QUEUE_PHYS_SEC_SEC : Fld := ⟨0x0, 47, 0⟩
def SC_QUEUE_PHYS_NS_NS : Fld := ⟨0x8, 63, 32⟩
def SC_QUEUE_PHYS_NS_FRAC : Fld := ⟨0x8, 31, 16⟩
def SC_QUEUE_PHYS_NS_ADJUSTED : Fld := ⟨0x8, 0, 0⟩
def SC_QUEUE_SCENE_SEC_EPOCH : Fld := ⟨0x10, 63, 48⟩
def SC_QUEUE_SCENE_SEC_SEC : Fld := ⟨0x10, 47, 0⟩
def SC_QUEUE_SCENE_NS_NS : Fld := ⟨0x18, 63, 32⟩
def SC_QUEUE_SCENE_NS_FRAC : Fld := ⟨0x18, 31, 16⟩
def SC_QUEUE_RATE_RATE : Fld := ⟨0x20, 63, 0⟩
def SC_QUEUE_TAG_TAG : Fld := ⟨0x28, 15, 0⟩
/-! Fields of FD. -/
def FD_CTRL_GRANT_SPORT : Fld := ⟨0x0, 47, 32⟩
def FD_CTRL_ENV_PORT : Fld := ⟨0x0, 31, 16⟩
def FD_CTRL_UDP_CSUM : Fld := ⟨0x0, 3, 3⟩
def FD_CTRL_IPV6_EN : Fld := ⟨0x0, 2, 2⟩
def FD_CTRL_IPV4_EN : Fld := ⟨0x0, 1, 1⟩
def FD_CTRL_EN : Fld := ⟨0x0, 0, 0⟩
def FD_GRANT_IP6_HI_ADDR : Fld := ⟨0x8, 63, 0⟩
def FD_GRANT_IP6_LO_ADDR : Fld := ⟨0x10, 63, 0⟩
def FD_GRANT_IP4_ADDR : Fld := ⟨0x18, 31, 0⟩
def FD_GRANT_MAC_MAC : Fld := ⟨0x20, 47, 0⟩
def FD_CNT_ACCEPTED_COUNT : Fld := ⟨0x40, 63, 0⟩
def FD_CNT_BAD_UDP_COUNT : Fld := ⟨0x48, 63, 0⟩
def FD_CNT_BAD_HCRC_COUNT : Fld := ⟨0x50, 63, 0⟩
def FD_CNT_BAD_HEADER_COUNT : Fld := ⟨0x58, 63, 0⟩
def FD_CNT_BAD_LEN_COUNT : Fld := ⟨0x60, 63, 0⟩
def FD_CNT_NO_STREAM_COUNT : Fld := ⟨0x68, 63, 0⟩
def FD_CNT_NO_FEED_COUNT : Fld := ⟨0x70, 63, 0⟩
def FD_CNT_WRONG_SOURCE_COUNT : Fld := ⟨0x78, 63, 0⟩
def FD_CNT_HEARTBEAT_COUNT : Fld := ⟨0x80, 63, 0⟩
def FD_CNT_END_COUNT : Fld := ⟨0x88, 63, 0⟩
def FD_CNT_REQUEST_COUNT : Fld := ⟨0x90, 63, 0⟩
def FD_CNT_GRANT_RECORDS_COUNT : Fld := ⟨0x98, 63, 0⟩
def FD_CNT_GRANT_DATAGRAMS_COUNT : Fld := ⟨0xA0, 63, 0⟩
/-! Fields of FDS. -/
def FD_SRC_CTRL_PERIOD_NS : Fld := ⟨0x0, 59, 40⟩
def FD_SRC_CTRL_TIMEOUT_US : Fld := ⟨0x0, 39, 28⟩
def FD_SRC_CTRL_GRANT_LANE : Fld := ⟨0x0, 27, 22⟩
def FD_SRC_CTRL_INGRESS_LANE : Fld := ⟨0x0, 21, 16⟩
def FD_SRC_CTRL_ANY_INGRESS : Fld := ⟨0x0, 3, 3⟩
def FD_SRC_CTRL_RANGE_OK : Fld := ⟨0x0, 2, 2⟩
def FD_SRC_CTRL_IPV6 : Fld := ⟨0x0, 1, 1⟩
def FD_SRC_CTRL_EN : Fld := ⟨0x0, 0, 0⟩
def FD_SRC_IP_HI_ADDR : Fld := ⟨0x8, 63, 0⟩
def FD_SRC_IP_LO_ADDR : Fld := ⟨0x10, 63, 0⟩
def FD_SRC_UDP_PCP : Fld := ⟨0x18, 31, 29⟩
def FD_SRC_UDP_VLAN_EN : Fld := ⟨0x18, 28, 28⟩
def FD_SRC_UDP_VID : Fld := ⟨0x18, 27, 16⟩
def FD_SRC_UDP_DPORT : Fld := ⟨0x18, 15, 0⟩
def FD_SRC_MAC_MAC : Fld := ⟨0x20, 47, 0⟩
def FD_SRC_STATUS_LAST_SEEN : Fld := ⟨0x28, 63, 32⟩
def FD_SRC_STATUS_UP : Fld := ⟨0x28, 0, 0⟩
/-! Fields of HM. -/
def HM_INFO_SHARED_CELLS : Fld := ⟨0x0, 53, 32⟩
def HM_INFO_CELLS : Fld := ⟨0x0, 21, 0⟩
def HM_CTRL_RESUME_PCT : Fld := ⟨0x8, 15, 8⟩
def HM_CTRL_STOP_PCT : Fld := ⟨0x8, 7, 0⟩
def HM_SHARED_USE_USED : Fld := ⟨0x10, 21, 0⟩
def HM_FEED_IDX_INDEX : Fld := ⟨0x18, 17, 0⟩
def HM_FEED_CMD_STATUS : Fld := ⟨0x20, 15, 8⟩
def HM_FEED_CMD_OP : Fld := ⟨0x20, 2, 0⟩
def HM_FEED_W0_EN : Fld := ⟨0x40, 63, 63⟩
def HM_FEED_W0_LATE_POLICY : Fld := ⟨0x40, 62, 61⟩
def HM_FEED_W0_LEAD_NS : Fld := ⟨0x40, 47, 32⟩
def HM_FEED_W0_REPEAT_MAX : Fld := ⟨0x40, 31, 24⟩
def HM_FEED_W0_SRC_SLICE : Fld := ⟨0x40, 23, 21⟩
def HM_FEED_W0_SRC_INDEX : Fld := ⟨0x40, 20, 12⟩
def HM_FEED_W1_SLOT_PERIOD_NS : Fld := ⟨0x48, 63, 32⟩
def HM_FEED_W1_HOLD_LIMIT_NS : Fld := ⟨0x48, 31, 0⟩
def HM_FEED_W2_AHEAD_SLACK_NS : Fld := ⟨0x50, 63, 32⟩
def HM_FEED_W2_MAX_CELLS : Fld := ⟨0x50, 21, 0⟩
def HM_FEED_W3_NEXT_SEQ : Fld := ⟨0x58, 63, 0⟩
def HM_FEED_W4_STATE : Fld := ⟨0x60, 63, 60⟩
def HM_FEED_W4_REPEAT_RUN : Fld := ⟨0x60, 59, 52⟩
def HM_FEED_W4_HOLD_OFFSET_NS : Fld := ⟨0x60, 31, 0⟩
def HM_FEED_W5_SLOT_EPOCH : Fld := ⟨0x68, 63, 48⟩
def HM_FEED_W5_SLOT_SEC : Fld := ⟨0x68, 47, 0⟩
def HM_FEED_W6_SLOT_NS : Fld := ⟨0x70, 63, 32⟩
def HM_FEED_W6_SLOT_FRAC : Fld := ⟨0x70, 31, 16⟩
def HM_FEED_W6_SLOT_KNOWN : Fld := ⟨0x70, 0, 0⟩
def HM_FEED_W7_HELD_CELLS : Fld := ⟨0x78, 21, 0⟩
def HM_FEED_W8_ACCEPTED : Fld := ⟨0x80, 63, 0⟩
def HM_FEED_W9_LATE_FEED : Fld := ⟨0x88, 63, 0⟩
def HM_FEED_W10_REPEATED : Fld := ⟨0x90, 63, 0⟩
def HM_FEED_W11_LATE_ARRIVAL : Fld := ⟨0x98, 63, 0⟩
def HM_FEED_W12_STALE_SEQ : Fld := ⟨0xA0, 63, 0⟩
def HM_FEED_W13_DUP_SEQ : Fld := ⟨0xA8, 63, 0⟩
def HM_FEED_W14_AHEAD_OF_GRANT : Fld := ⟨0xB0, 63, 0⟩
def HM_FEED_W15_HOLD_FULL : Fld := ⟨0xB8, 63, 0⟩
/-! Fields of HMP. -/
def HM_PART_BASE_BASE : Fld := ⟨0x0, 21, 0⟩
def HM_PART_SIZE_RELAY : Fld := ⟨0x8, 53, 32⟩
def HM_PART_SIZE_LAUNCH : Fld := ⟨0x8, 21, 0⟩
def HM_PART_BORROW_BORROW_MAX : Fld := ⟨0x10, 19, 0⟩
def HM_PART_USE_BORROWED : Fld := ⟨0x18, 63, 44⟩
def HM_PART_USE_RELAY_USED : Fld := ⟨0x18, 43, 22⟩
def HM_PART_USE_LAUNCH_USED : Fld := ⟨0x18, 21, 0⟩
def HM_PART_HWM_BACKPRESSURE : Fld := ⟨0x20, 22, 22⟩
def HM_PART_HWM_HWM : Fld := ⟨0x20, 21, 0⟩
def HM_CNT_HOLD_FULL_COUNT : Fld := ⟨0x28, 63, 0⟩
def HM_CNT_RELAY_DROP_COUNT : Fld := ⟨0x30, 63, 0⟩
def HM_CNT_LATE_FEED_COUNT : Fld := ⟨0x38, 63, 0⟩
/-! Fields of LN. -/
def LN_INFO_PROFILES : Fld := ⟨0x0, 12, 0⟩
def LN_RW_IDX_INDEX : Fld := ⟨0x8, 11, 0⟩
def LN_RW_CMD_STATUS : Fld := ⟨0x10, 15, 8⟩
def LN_RW_CMD_OP : Fld := ⟨0x10, 1, 0⟩
def LN_RW_W0_W0 : Fld := ⟨0x20, 63, 0⟩
def LN_RW_W1_W1 : Fld := ⟨0x28, 63, 0⟩
def LN_RW_W2_W2 : Fld := ⟨0x30, 63, 0⟩
def LN_RW_W3_W3 : Fld := ⟨0x38, 63, 0⟩
/-! Fields of LNP. -/
def LN_PORT_CTRL_LATE_TOL_NS : Fld := ⟨0x0, 47, 32⟩
def LN_PORT_CTRL_LAUNCH_EN : Fld := ⟨0x0, 0, 0⟩
def LN_PORT_TIMING_TAIL_NS : Fld := ⟨0x8, 47, 32⟩
def LN_PORT_TIMING_TX_ADJ_NS : Fld := ⟨0x8, 31, 24⟩
def LN_PORT_TIMING_LANES : Fld := ⟨0x8, 19, 16⟩
def LN_PORT_TIMING_LANE_RATE : Fld := ⟨0x8, 2, 0⟩
def LN_PORT_STATUS_STAGED : Fld := ⟨0x10, 31, 16⟩
def LN_PORT_STATUS_SHADOW_OPEN : Fld := ⟨0x10, 1, 1⟩
def LN_PORT_STATUS_LINK_UP : Fld := ⟨0x10, 0, 0⟩
def LN_LAUNCHED_COUNT : Fld := ⟨0x18, 63, 0⟩
def LN_LATE_COUNT : Fld := ⟨0x20, 63, 0⟩
def LN_LATE_DROP_COUNT : Fld := ⟨0x28, 63, 0⟩
def LN_MISSED_COUNT : Fld := ⟨0x30, 63, 0⟩
def LN_LATE_MAX_NS_NS : Fld := ⟨0x38, 31, 0⟩
def LN_SHADOW_PREEMPT_COUNT : Fld := ⟨0x40, 63, 0⟩
def LN_SHADOW_DEFER_COUNT : Fld := ⟨0x48, 63, 0⟩
def LN_LATE_STAGE_COUNT : Fld := ⟨0x50, 63, 0⟩
def LN_EVENT_FLAGS : Fld := ⟨0x58, 4, 0⟩
def LN_PORT_MAXFRAME_BYTES : Fld := ⟨0x60, 15, 0⟩
/-! Fields of GC. -/
def GC_INFO_LEAD_NS : Fld := ⟨0x0, 47, 32⟩
def GC_INFO_MAX_ENTRIES : Fld := ⟨0x0, 12, 0⟩
/-! Fields of GCP. -/
def GC_PORT_CTRL_HOLD_MARGIN_NS : Fld := ⟨0x0, 31, 16⟩
def GC_PORT_CTRL_GATE_EN : Fld := ⟨0x0, 0, 0⟩
def GC_ADMIN_BASE_SEC_SEC : Fld := ⟨0x10, 47, 0⟩
def GC_ADMIN_BASE_NS_NS : Fld := ⟨0x20, 63, 32⟩
def GC_ADMIN_CYCLE_NS : Fld := ⟨0x30, 31, 0⟩
def GC_ADMIN_EXT_NS : Fld := ⟨0x40, 31, 0⟩
def GC_ADMIN_LEN_LEN : Fld := ⟨0x50, 12, 0⟩
def GC_LIST_PTR_BANK : Fld := ⟨0x60, 17, 16⟩
def GC_LIST_PTR_AUTO_INC : Fld := ⟨0x60, 12, 12⟩
def GC_LIST_PTR_INDEX : Fld := ⟨0x60, 11, 0⟩
def GC_LIST_DATA_ENTRY : Fld := ⟨0x70, 63, 0⟩
def GC_CMD_TAG : Fld := ⟨0x80, 31, 16⟩
def GC_CMD_OP : Fld := ⟨0x80, 1, 0⟩
def GC_CMD_RESULT_TAG : Fld := ⟨0x90, 47, 32⟩
def GC_CMD_RESULT_RESULT_SEQ : Fld := ⟨0x90, 31, 24⟩
def GC_CMD_RESULT_REPLACED : Fld := ⟨0x90, 9, 9⟩
def GC_CMD_RESULT_BASE_ADJUSTED : Fld := ⟨0x90, 8, 8⟩
def GC_CMD_RESULT_STATUS : Fld := ⟨0x90, 7, 0⟩
def GC_OPER_BASE_SEC_SEC : Fld := ⟨0xA0, 47, 0⟩
def GC_OPER_BASE_NS_NS : Fld := ⟨0xA8, 63, 32⟩
def GC_OPER_CYCLE_NS : Fld := ⟨0xB0, 31, 0⟩
def GC_OPER_EXT_NS : Fld := ⟨0xB8, 31, 0⟩
def GC_OPER_LEN_LEN : Fld := ⟨0xC0, 12, 0⟩
def GC_CCT_SEC_SEC : Fld := ⟨0xC8, 47, 0⟩
def GC_CCT_NS_NS : Fld := ⟨0xD0, 63, 32⟩
def GC_STATUS_CONFIG_PENDING : Fld := ⟨0xD8, 32, 32⟩
def GC_STATUS_CUR_ENTRY : Fld := ⟨0xD8, 27, 16⟩
def GC_STATUS_MAC_HOLD : Fld := ⟨0xD8, 8, 8⟩
def GC_STATUS_GATES : Fld := ⟨0xD8, 7, 0⟩
def GC_EVENT_FLAGS : Fld := ⟨0xE0, 4, 0⟩
def GC_CNT_CHANGES_COUNT : Fld := ⟨0xE8, 63, 0⟩
def GC_CNT_CFG_ERROR_COUNT : Fld := ⟨0xF0, 63, 0⟩
/-! Fields of GCC. -/
def GC_CLASS_MAXFRAME_BYTES : Fld := ⟨0x0, 15, 0⟩
def GC_CLASS_OPEN_ALWAYS : Fld := ⟨0x8, 63, 63⟩
def GC_CLASS_OPEN_MAX_OPEN_NS : Fld := ⟨0x8, 62, 0⟩
def GC_CLASS_GUARD_GUARD_NS : Fld := ⟨0x10, 31, 0⟩
def GC_CNT_OVERSIZE_MAXFRAME : Fld := ⟨0x18, 63, 32⟩
def GC_CNT_OVERSIZE_OVERSIZE : Fld := ⟨0x18, 31, 0⟩
/-! Fields of PEP. -/
def PE_PORT_CTRL_VERIFY_TIME_MS : Fld := ⟨0x0, 31, 24⟩
def PE_PORT_CTRL_PREEMPT_CLASSES : Fld := ⟨0x0, 23, 16⟩
def PE_PORT_CTRL_ADD_FRAG_SIZE : Fld := ⟨0x0, 6, 5⟩
def PE_PORT_CTRL_PEER_ASSUME : Fld := ⟨0x0, 3, 3⟩
def PE_PORT_CTRL_LLDP_EN : Fld := ⟨0x0, 2, 2⟩
def PE_PORT_CTRL_VERIFY_DIS : Fld := ⟨0x0, 1, 1⟩
def PE_PORT_CTRL_EN : Fld := ⟨0x0, 0, 0⟩
def PE_PORT_STATUS_HOLD_ADVANCE_NS : Fld := ⟨0x8, 47, 32⟩
def PE_PORT_STATUS_RELEASE_ADVANCE_NS : Fld := ⟨0x8, 31, 16⟩
def PE_PORT_STATUS_VERIFY_STATUS : Fld := ⟨0x8, 15, 13⟩
def PE_PORT_STATUS_AFS_OPER : Fld := ⟨0x8, 9, 8⟩
def PE_PORT_STATUS_PEER_AFS : Fld := ⟨0x8, 7, 6⟩
def PE_PORT_STATUS_PEER_ENABLED : Fld := ⟨0x8, 5, 5⟩
def PE_PORT_STATUS_PEER_SUPPORTED : Fld := ⟨0x8, 4, 4⟩
def PE_PORT_STATUS_PEER_SEEN : Fld := ⟨0x8, 3, 3⟩
def PE_PORT_STATUS_HOLD : Fld := ⟨0x8, 2, 2⟩
def PE_PORT_STATUS_TX_IN_PROGRESS : Fld := ⟨0x8, 1, 1⟩
def PE_PORT_STATUS_ACTIVE : Fld := ⟨0x8, 0, 0⟩
def PE_LLDP_TX_S : Fld := ⟨0x10, 11, 0⟩
def PE_CNT_ASSY_ERR_COUNT : Fld := ⟨0x18, 63, 0⟩
def PE_CNT_SMD_ERR_COUNT : Fld := ⟨0x20, 63, 0⟩
def PE_CNT_ASSY_OK_COUNT : Fld := ⟨0x28, 63, 0⟩
def PE_CNT_FRAG_RX_COUNT : Fld := ⟨0x30, 63, 0⟩
def PE_CNT_FRAG_TX_COUNT : Fld := ⟨0x38, 63, 0⟩
def PE_CNT_HOLD_COUNT : Fld := ⟨0x40, 63, 0⟩
def PE_CNT_TX_ABORT_COUNT : Fld := ⟨0x48, 63, 0⟩
def PE_CNT_VERIFY_SENT : Fld := ⟨0x50, 63, 32⟩
def PE_CNT_VERIFY_RESPONDED : Fld := ⟨0x50, 31, 0⟩
def PE_EVENT_FLAGS : Fld := ⟨0x58, 2, 0⟩
def PE_CMD_RESTART_VERIFY : Fld := ⟨0x60, 0, 0⟩
/-! Fields of SH. -/
def SH_INFO_QS_ENTRIES : Fld := ⟨0x0, 31, 16⟩
def SH_INFO_FLOWS : Fld := ⟨0x0, 6, 0⟩
def SH_QS_LOAD_RECORDS_PER_MS : Fld := ⟨0x8, 31, 0⟩
def SH_QS_LOST_COUNT : Fld := ⟨0x10, 63, 0⟩
def SH_QS_FILL_ENTRIES : Fld := ⟨0x18, 12, 0⟩
/-! Fields of SHP. -/
def SH_PORT_CTRL_QS_PERIOD_US : Fld := ⟨0x0, 41, 32⟩
def SH_PORT_CTRL_QS_CLASSES : Fld := ⟨0x0, 23, 16⟩
def SH_PORT_CTRL_CTRL_CLASS : Fld := ⟨0x0, 10, 8⟩
def SH_PORT_CTRL_QS_EN : Fld := ⟨0x0, 0, 0⟩
def SH_VTIME_V : Fld := ⟨0x8, 63, 0⟩
def SH_CNT_FLOW_MISMATCH_COUNT : Fld := ⟨0x10, 63, 0⟩
/-! Fields of SHC. -/
def SH_CLASS_CTRL_DEF_FLOW : Fld := ⟨0x0, 45, 40⟩
def SH_CLASS_CTRL_ALGO_PENDING : Fld := ⟨0x0, 8, 8⟩
def SH_CLASS_CTRL_ALGO : Fld := ⟨0x0, 1, 0⟩
def SH_CLASS_SLOPE_IDLE_SLOPE_MBPS : Fld := ⟨0x8, 31, 0⟩
def SH_CLASS_CREDIT_CREDIT : Fld := ⟨0x10, 63, 0⟩
def SH_CLASS_LIMITS_HI_CREDIT : Fld := ⟨0x18, 63, 32⟩
def SH_CLASS_LIMITS_LO_CREDIT : Fld := ⟨0x18, 31, 0⟩
def SH_CLASS_DEPTH_CELLS : Fld := ⟨0x20, 53, 32⟩
def SH_CLASS_DEPTH_FRAMES : Fld := ⟨0x20, 15, 0⟩
def SH_CLASS_HEAD_DELAY_NS : Fld := ⟨0x28, 31, 0⟩
/-! Fields of SHF. -/
def SH_FLOW_CTRL_EN : Fld := ⟨0x0, 63, 63⟩
def SH_FLOW_CTRL_CLASS : Fld := ⟨0x0, 58, 56⟩
def SH_FLOW_CTRL_MAX_FRAMES : Fld := ⟨0x0, 47, 32⟩
def SH_FLOW_CTRL_WEIGHT : Fld := ⟨0x0, 7, 0⟩
def SH_FLOW_START_S : Fld := ⟨0x8, 63, 0⟩
def SH_FLOW_FINISH_F : Fld := ⟨0x10, 63, 0⟩
def SH_FLOW_DROP_COUNT : Fld := ⟨0x18, 63, 0⟩
/-! Fields of CL. -/
def CL_INFO_SUBST_ENTRIES : Fld := ⟨0x0, 31, 16⟩
def CL_INFO_CELLS : Fld := ⟨0x0, 11, 0⟩
def CL_MX_SEL_BANK : Fld := ⟨0x8, 31, 30⟩
def CL_MX_SEL_AUTO_INC : Fld := ⟨0x8, 29, 29⟩
def CL_MX_SEL_CELL : Fld := ⟨0x8, 26, 16⟩
def CL_MX_SEL_CYCLE : Fld := ⟨0x8, 13, 8⟩
def CL_MX_SEL_WINDOW : Fld := ⟨0x8, 7, 0⟩
def CL_MX_W0_ENTRY0 : Fld := ⟨0x10, 63, 0⟩
def CL_MX_W1_ENTRY1 : Fld := ⟨0x20, 63, 0⟩
def CL_MX_CYC_WINDOWS : Fld := ⟨0x30, 40, 32⟩
def CL_MX_CYC_LEN_NS : Fld := ⟨0x30, 26, 0⟩
def CL_MX_HDR_CYCLES : Fld := ⟨0x40, 6, 0⟩
def CL_MX_CMD_TAG : Fld := ⟨0x50, 31, 16⟩
def CL_MX_CMD_CELL : Fld := ⟨0x50, 12, 2⟩
def CL_MX_CMD_OP : Fld := ⟨0x50, 1, 0⟩
def CL_MX_RESULT_TAG : Fld := ⟨0x60, 63, 48⟩
def CL_MX_RESULT_RESULT_SEQ : Fld := ⟨0x60, 47, 40⟩
def CL_MX_RESULT_FAIL_CYCLE : Fld := ⟨0x60, 39, 34⟩
def CL_MX_RESULT_FAIL_WINDOW : Fld := ⟨0x60, 33, 26⟩
def CL_MX_RESULT_REPLACED : Fld := ⟨0x60, 16, 16⟩
def CL_MX_RESULT_STATUS : Fld := ⟨0x60, 7, 0⟩
def CL_MX_EFF_SEC_SEC : Fld := ⟨0x68, 47, 0⟩
def CL_MX_EFF_NS_NS : Fld := ⟨0x70, 63, 32⟩
def CL_MARK_SEL_CELL : Fld := ⟨0x78, 14, 4⟩
def CL_MARK_SEL_MARK : Fld := ⟨0x78, 3, 0⟩
def CL_MARK_CFG_EN : Fld := ⟨0x80, 63, 63⟩
def CL_MARK_CFG_EVERY : Fld := ⟨0x80, 62, 62⟩
def CL_MARK_CFG_CYCLE : Fld := ⟨0x80, 61, 56⟩
def CL_MARK_CFG_CORE : Fld := ⟨0x80, 55, 55⟩
def CL_MARK_CFG_HOST : Fld := ⟨0x80, 54, 54⟩
def CL_MARK_CFG_PIN_EN : Fld := ⟨0x80, 53, 53⟩
def CL_MARK_CFG_PIN : Fld := ⟨0x80, 47, 44⟩
def CL_MARK_CFG_OFFSET_NS : Fld := ⟨0x80, 26, 0⟩
def CL_MARK_STATUS_FIRED : Fld := ⟨0x88, 63, 32⟩
def CL_MARK_STATUS_STATUS : Fld := ⟨0x88, 7, 0⟩
def CL_NODE_SEL_NODE : Fld := ⟨0x90, 13, 0⟩
def CL_NODE_CFG_VALID : Fld := ⟨0x98, 63, 63⟩
def CL_NODE_CFG_CELL : Fld := ⟨0x98, 62, 52⟩
def CL_NODE_CFG_A_EN : Fld := ⟨0x98, 51, 51⟩
def CL_NODE_CFG_PORT_A : Fld := ⟨0x98, 50, 42⟩
def CL_NODE_CFG_B_EN : Fld := ⟨0x98, 41, 41⟩
def CL_NODE_CFG_PORT_B : Fld := ⟨0x98, 40, 32⟩
def CL_NODE_CFG_STATUS : Fld := ⟨0x98, 7, 0⟩
def CL_CNT_MARK_LOST_COUNT : Fld := ⟨0xA0, 63, 0⟩
/-! Fields of CLC. -/
def CL_CELL_CTRL_STAR_DELAY_NS : Fld := ⟨0x0, 47, 32⟩
def CL_CELL_CTRL_MARGIN_NS : Fld := ⟨0x0, 31, 16⟩
def CL_CELL_CTRL_WARN_EVENT : Fld := ⟨0x0, 7, 7⟩
def CL_CELL_CTRL_MASTER : Fld := ⟨0x0, 1, 1⟩
def CL_CELL_CTRL_EN : Fld := ⟨0x0, 0, 0⟩
def CL_GUARD_DRIFT_WARN_NS : Fld := ⟨0x8, 31, 16⟩
def CL_GUARD_CORR_LIMIT_NS : Fld := ⟨0x8, 15, 0⟩
def CL_CS_CTRL_CS_LEN_NS : Fld := ⟨0x10, 63, 48⟩
def CL_CS_CTRL_CS_RELAY_NS : Fld := ⟨0x10, 47, 32⟩
def CL_CS_CTRL_START_OFFSET_NS : Fld := ⟨0x10, 31, 8⟩
def CL_CS_CTRL_LOSS_CYCLES : Fld := ⟨0x10, 7, 4⟩
def CL_CS_CTRL_RANKS : Fld := ⟨0x10, 3, 0⟩
def CL_CS_RANK_LO_RANK0_3 : Fld := ⟨0x18, 63, 0⟩
def CL_CS_RANK_HI_RANK4_7 : Fld := ⟨0x20, 63, 0⟩
def CL_BASE_SEC_SEC : Fld := ⟨0x28, 47, 0⟩
def CL_BASE_NS_NS : Fld := ⟨0x38, 63, 32⟩
def CL_STATUS_BASIC_CYCLE : Fld := ⟨0x48, 55, 48⟩
def CL_STATUS_CYCLES : Fld := ⟨0x48, 47, 40⟩
def CL_STATUS_CONFIG_PENDING : Fld := ⟨0x48, 32, 32⟩
def CL_STATUS_STATE : Fld := ⟨0x48, 1, 0⟩
def CL_MATRIX_LEN_NS : Fld := ⟨0x50, 63, 0⟩
def CL_MATRIX_COUNT_COUNT : Fld := ⟨0x58, 63, 0⟩
def CL_CORR_C : Fld := ⟨0x60, 63, 0⟩
def CL_CORR_LAST_DELTA : Fld := ⟨0x68, 63, 0⟩
def CL_CNT_CS_SUPPRESSED_COUNT : Fld := ⟨0x70, 63, 0⟩
def CL_CNT_CS_IGNORED_COUNT : Fld := ⟨0x78, 63, 0⟩
def CL_CNT_SUBST_COUNT : Fld := ⟨0x80, 63, 0⟩
def CL_CNT_SYNC_LOST_COUNT : Fld := ⟨0x88, 63, 0⟩
def CL_EVENT_FLAGS : Fld := ⟨0x90, 5, 0⟩
/-! Fields of GD. -/
def GD_NODE_SEL_CHANNEL : Fld := ⟨0x0, 14, 14⟩
def GD_NODE_SEL_NODE : Fld := ⟨0x0, 13, 0⟩
def GD_NODE_DRIFT_EST_NS : Fld := ⟨0x8, 63, 32⟩
def GD_NODE_DRIFT_LAST_NS : Fld := ⟨0x8, 31, 0⟩
def GD_NODE_STAT_FRAMES : Fld := ⟨0x10, 63, 32⟩
def GD_NODE_STAT_VALID : Fld := ⟨0x10, 16, 16⟩
def GD_NODE_STAT_SAMPLES : Fld := ⟨0x10, 15, 8⟩
def GD_NODE_STAT_WARN_SEEN : Fld := ⟨0x10, 1, 1⟩
def GD_NODE_STAT_WARN : Fld := ⟨0x10, 0, 0⟩
def GD_NODE_RANGE_MIN_NS : Fld := ⟨0x18, 63, 32⟩
def GD_NODE_RANGE_MAX_NS : Fld := ⟨0x18, 31, 0⟩
def GD_NODE_CLEAR_CLEAR : Fld := ⟨0x20, 0, 0⟩
/-! Fields of GDP. -/
def GD_PORT_CTRL_CELL : Fld := ⟨0x0, 31, 21⟩
def GD_PORT_CTRL_CHANNEL : Fld := ⟨0x0, 20, 20⟩
def GD_PORT_CTRL_EN : Fld := ⟨0x0, 0, 0⟩
def GD_CNT_ACCEPTED_COUNT : Fld := ⟨0x8, 63, 0⟩
def GD_CNT_TRUNCATED_COUNT : Fld := ⟨0x10, 63, 0⟩
def GD_CNT_EARLY_COUNT : Fld := ⟨0x18, 63, 0⟩
def GD_CNT_LATE_COUNT : Fld := ⟨0x20, 63, 0⟩
def GD_CNT_WRONG_SENDER_COUNT : Fld := ⟨0x28, 63, 0⟩
def GD_CNT_OUTSIDE_COUNT : Fld := ⟨0x30, 63, 0⟩
def GD_CNT_ARB_LOST_COUNT : Fld := ⟨0x38, 63, 0⟩
def GD_CNT_UNSYNC_COUNT : Fld := ⟨0x40, 63, 0⟩
def GD_EVENT_FLAGS : Fld := ⟨0x48, 2, 0⟩
def GD_CNT_CS_FORWARDED_COUNT : Fld := ⟨0x50, 63, 0⟩
def GD_CNT_CS_SUPPRESSED_COUNT : Fld := ⟨0x58, 63, 0⟩
def GD_CNT_CS_IGNORED_COUNT : Fld := ⟨0x60, 63, 0⟩
/-! Fields of PR. -/
def PR_CTRL_GENEVE_PORT : Fld := ⟨0x0, 63, 48⟩
def PR_CTRL_VXLAN_PORT : Fld := ⟨0x0, 47, 32⟩
def PR_CTRL_TPID_X : Fld := ⟨0x0, 31, 16⟩
def PR_CTRL_GRE_EN : Fld := ⟨0x0, 11, 11⟩
def PR_CTRL_IPV4_CSUM : Fld := ⟨0x0, 10, 10⟩
def PR_CTRL_MPLS_GUESS : Fld := ⟨0x0, 9, 9⟩
def PR_CTRL_DEPTH : Fld := ⟨0x0, 8, 0⟩
def PR_SLOW_CTRL_RATE : Fld := ⟨0x8, 51, 32⟩
def PR_SLOW_CTRL_RING : Fld := ⟨0x8, 15, 8⟩
def PR_SLOW_CTRL_EN : Fld := ⟨0x8, 0, 0⟩
def PR_CNT_RECIRC_COUNT : Fld := ⟨0x10, 63, 0⟩
def PR_CNT_RECIRC_DROP_COUNT : Fld := ⟨0x18, 63, 0⟩
def PR_CNT_SLOW_COUNT : Fld := ⟨0x20, 63, 0⟩
def PR_CNT_SLOW_DROP_COUNT : Fld := ⟨0x28, 63, 0⟩
def PR_CNT_SHORT_COUNT : Fld := ⟨0x30, 63, 0⟩
def PR_CNT_TERMINATED_COUNT : Fld := ⟨0x38, 63, 0⟩
/-! Fields of CF. -/
def CF_INFO_SLOTS : Fld := ⟨0x0, 16, 0⟩
def CF_EPOCH_RETIRING : Fld := ⟨0x8, 1, 1⟩
def CF_EPOCH_CURRENT : Fld := ⟨0x8, 0, 0⟩
def CF_TABLE_VALID (k : Nat) : Fld := ⟨0x40 + 0x8 * k, 63, 63⟩
def CF_TABLE_WIDTH (k : Nat) : Fld := ⟨0x40 + 0x8 * k, 51, 50⟩
def CF_TABLE_SIZE (k : Nat) : Fld := ⟨0x40 + 0x8 * k, 49, 33⟩
def CF_TABLE_BASE (k : Nat) : Fld := ⟨0x40 + 0x8 * k, 15, 0⟩
def CF_SLOT_SLOT : Fld := ⟨0x80, 15, 0⟩
def CF_ECMD_STATUS : Fld := ⟨0x88, 15, 8⟩
def CF_ECMD_OP : Fld := ⟨0x88, 2, 0⟩
def CF_EA_ACTION : Fld := ⟨0x90, 63, 0⟩
def CF_EIN_IN : Fld := ⟨0x98, 1, 0⟩
def CF_EHITS_HITS : Fld := ⟨0xA0, 63, 0⟩
def CF_EK_VALUE (k : Nat) : Fld := ⟨0x100 + 0x8 * k, 63, 0⟩
def CF_EM_MASK (k : Nat) : Fld := ⟨0x180 + 0x8 * k, 63, 0⟩
/-! Fields of CFP. -/
def CF_PORT_CTRL_DEF_STREAM : Fld := ⟨0x0, 63, 46⟩
def CF_PORT_CTRL_DEF_PORT : Fld := ⟨0x0, 45, 37⟩
def CF_PORT_CTRL_TABLE2 : Fld := ⟨0x0, 6, 4⟩
def CF_PORT_CTRL_TABLE1 : Fld := ⟨0x0, 2, 0⟩
def CF_PORT_PCP_MAP : Fld := ⟨0x8, 23, 0⟩
def CF_PORT_DEF_ACTIONS : Fld := ⟨0x10, 15, 0⟩
def CF_CNT_REASON_COUNT (k : Nat) : Fld := ⟨0x20 + 0x8 * k, 63, 0⟩
/-! Fields of ST. -/
def ST_INFO_ENTRIES : Fld := ⟨0x0, 18, 0⟩
def ST_CTRL_APPLY_LEAD_NS : Fld := ⟨0x8, 31, 0⟩
def ST_IDX_INDEX : Fld := ⟨0x10, 17, 0⟩
def ST_W_W (k : Nat) : Fld := ⟨0x18 + 0x8 * k, 63, 0⟩
def ST_CMD_TAG : Fld := ⟨0x38, 31, 16⟩
def ST_CMD_OP : Fld := ⟨0x38, 2, 0⟩
def ST_RESULT_TAG : Fld := ⟨0x40, 63, 48⟩
def ST_RESULT_STAGED : Fld := ⟨0x40, 47, 32⟩
def ST_RESULT_FAIL_INDEX : Fld := ⟨0x40, 31, 14⟩
def ST_RESULT_STATUS : Fld := ⟨0x40, 7, 0⟩
def ST_EPOCH_COMMITTED : Fld := ⟨0x48, 63, 32⟩
def ST_EPOCH_APPLIED : Fld := ⟨0x48, 31, 0⟩
def ST_APPLY_NS : Fld := ⟨0x50, 31, 0⟩
def ST_CNT_LATE_APPLY_COUNT : Fld := ⟨0x58, 63, 0⟩
def ST_CNT_REPAIR_COUNT : Fld := ⟨0x60, 63, 0⟩
def ST_CNT_W_COUNT (k : Nat) : Fld := ⟨0x80 + 0x8 * k, 63, 0⟩
def ST_GRP_IDX_GROUP : Fld := ⟨0x100, 11, 0⟩
def ST_GRP_CMD_STATUS : Fld := ⟨0x108, 15, 8⟩
def ST_GRP_CMD_OP : Fld := ⟨0x108, 1, 0⟩
def ST_GRP_W_LANES (k : Nat) : Fld := ⟨0x110 + 0x8 * k, 63, 0⟩
def ST_SG_SEL_BANK : Fld := ⟨0x200, 35, 34⟩
def ST_SG_SEL_AUTO_INC : Fld := ⟨0x200, 33, 33⟩
def ST_SG_SEL_INDEX : Fld := ⟨0x200, 25, 16⟩
def ST_SG_SEL_GATE : Fld := ⟨0x200, 15, 0⟩
def ST_SG_CTRL_OCT_CLOSE_EN : Fld := ⟨0x208, 7, 7⟩
def ST_SG_CTRL_INV_RX_EN : Fld := ⟨0x208, 6, 6⟩
def ST_SG_CTRL_INIT_IPV_EN : Fld := ⟨0x208, 5, 5⟩
def ST_SG_CTRL_INIT_IPV : Fld := ⟨0x208, 4, 2⟩
def ST_SG_CTRL_INIT_STATE : Fld := ⟨0x208, 1, 1⟩
def ST_SG_CTRL_EN : Fld := ⟨0x208, 0, 0⟩
def ST_SG_BASE_SEC_SEC : Fld := ⟨0x210, 47, 0⟩
def ST_SG_BASE_NS_NS : Fld := ⟨0x220, 63, 32⟩
def ST_SG_CYCLE_NS : Fld := ⟨0x230, 31, 0⟩
def ST_SG_EXT_NS : Fld := ⟨0x240, 31, 0⟩
def ST_SG_LEN_LEN : Fld := ⟨0x250, 10, 0⟩
def ST_SG_DATA_ENTRY : Fld := ⟨0x260, 63, 0⟩
def ST_SG_CMD_TAG : Fld := ⟨0x270, 31, 16⟩
def ST_SG_CMD_OP : Fld := ⟨0x270, 1, 0⟩
def ST_SG_RESULT_TAG : Fld := ⟨0x280, 47, 32⟩
def ST_SG_RESULT_RESULT_SEQ : Fld := ⟨0x280, 31, 24⟩
def ST_SG_RESULT_REPLACED : Fld := ⟨0x280, 9, 9⟩
def ST_SG_RESULT_BASE_ADJUSTED : Fld := ⟨0x280, 8, 8⟩
def ST_SG_RESULT_STATUS : Fld := ⟨0x280, 7, 0⟩
def ST_SG_STATUS_CONFIG_PENDING : Fld := ⟨0x288, 35, 35⟩
def ST_SG_STATUS_CLOSED_OCTETS : Fld := ⟨0x288, 34, 34⟩
def ST_SG_STATUS_CLOSED_INV_RX : Fld := ⟨0x288, 33, 33⟩
def ST_SG_STATUS_OPEN : Fld := ⟨0x288, 32, 32⟩
def ST_SG_STATUS_CUR_ENTRY : Fld := ⟨0x288, 9, 0⟩
def ST_SG_CCT_SEC_SEC : Fld := ⟨0x290, 47, 0⟩
def ST_SG_CCT_NS_NS : Fld := ⟨0x298, 63, 32⟩
def ST_SG_POOL_PENDING_USED : Fld := ⟨0x2A0, 50, 32⟩
def ST_SG_POOL_OPER_USED : Fld := ⟨0x2A0, 18, 0⟩
def ST_FM_IDX_METER : Fld := ⟨0x300, 15, 0⟩
def ST_FM_CMD_STATUS : Fld := ⟨0x308, 15, 8⟩
def ST_FM_CMD_OP : Fld := ⟨0x308, 1, 0⟩
def ST_FM_W0_CIR_KBPS : Fld := ⟨0x310, 63, 32⟩
def ST_FM_W0_CBS : Fld := ⟨0x310, 31, 0⟩
def ST_FM_W1_EIR_KBPS : Fld := ⟨0x318, 63, 32⟩
def ST_FM_W1_EBS : Fld := ⟨0x318, 31, 0⟩
def ST_FM_W2_MARK_RED : Fld := ⟨0x320, 5, 5⟩
def ST_FM_W2_MARK_RED_EN : Fld := ⟨0x320, 4, 4⟩
def ST_FM_W2_DROP_YELLOW : Fld := ⟨0x320, 3, 3⟩
def ST_FM_W2_CM : Fld := ⟨0x320, 2, 2⟩
def ST_FM_W2_CF : Fld := ⟨0x320, 1, 1⟩
/-! Fields of FR. -/
def FR_INFO_RECOVERY : Fld := ⟨0x0, 48, 32⟩
def FR_INFO_GENERATION : Fld := ⟨0x0, 16, 0⟩
def FR_GEN_IDX_INDEX : Fld := ⟨0x8, 15, 0⟩
def FR_GEN_CMD_STATUS : Fld := ⟨0x10, 15, 8⟩
def FR_GEN_CMD_OP : Fld := ⟨0x10, 1, 0⟩
def FR_GEN_W0_EN : Fld := ⟨0x18, 63, 63⟩
def FR_GEN_W0_MODE : Fld := ⟨0x18, 62, 62⟩
def FR_GEN_W0_NEXT : Fld := ⟨0x18, 15, 0⟩
def FR_GEN_W1_COUNT : Fld := ⟨0x20, 63, 0⟩
def FR_REC_IDX_INDEX : Fld := ⟨0x40, 15, 0⟩
def FR_REC_CMD_STATUS : Fld := ⟨0x48, 15, 8⟩
def FR_REC_CMD_OP : Fld := ⟨0x48, 2, 0⟩
def FR_REC_W0_EN : Fld := ⟨0x50, 63, 63⟩
def FR_REC_W0_ALGO : Fld := ⟨0x50, 62, 62⟩
def FR_REC_W0_TAKE_NO_SEQ : Fld := ⟨0x50, 61, 61⟩
def FR_REC_W0_POP : Fld := ⟨0x50, 60, 60⟩
def FR_REC_W0_LAT_EN : Fld := ⟨0x50, 59, 59⟩
def FR_REC_W0_HISTORY : Fld := ⟨0x50, 55, 48⟩
def FR_REC_W0_RESET_MS : Fld := ⟨0x50, 47, 32⟩
def FR_REC_W0_LAT_PATHS : Fld := ⟨0x50, 27, 24⟩
def FR_REC_W1_LAT_DIFF : Fld := ⟨0x58, 63, 32⟩
def FR_REC_W1_LAT_PERIOD_MS : Fld := ⟨0x58, 31, 16⟩
def FR_REC_W1_LAT_RESET_S : Fld := ⟨0x58, 15, 0⟩
def FR_REC_W2_VALID : Fld := ⟨0x60, 63, 63⟩
def FR_REC_W2_LATENT : Fld := ⟨0x60, 62, 62⟩
def FR_REC_W2_REC_SEQ : Fld := ⟨0x60, 15, 0⟩
def FR_REC_W3_PASSED : Fld := ⟨0x68, 63, 0⟩
def FR_REC_W4_DISCARDED : Fld := ⟨0x70, 63, 0⟩
def FR_REC_W5_OUT_OF_ORDER : Fld := ⟨0x78, 63, 0⟩
def FR_REC_W6_ROGUE : Fld := ⟨0x80, 63, 0⟩
def FR_REC_W7_LOST : Fld := ⟨0x88, 63, 0⟩
def FR_REC_W8_TAGLESS : Fld := ⟨0x90, 63, 0⟩
def FR_REC_W9_RESETS : Fld := ⟨0x98, 63, 0⟩
def FR_REC_W10_LATENT_ERRORS : Fld := ⟨0xA0, 63, 0⟩
def FR_EVENT_FLAGS : Fld := ⟨0x100, 1, 0⟩
/-! Fields of UP. -/
def UP_CTRL_ETHERTYPE : Fld := ⟨0x0, 63, 48⟩
def UP_CTRL_PAIR_WAIT_MS : Fld := ⟨0x0, 47, 32⟩
def UP_CTRL_FILL_MS : Fld := ⟨0x0, 31, 20⟩
def UP_CTRL_DIGEST_LIMIT : Fld := ⟨0x0, 19, 8⟩
def UP_CTRL_HB_LOSS : Fld := ⟨0x0, 7, 4⟩
def UP_CTRL_REVERT_EN : Fld := ⟨0x0, 1, 1⟩
def UP_CTRL_EN : Fld := ⟨0x0, 0, 0⟩
def UP_CLAIM_CLAIM : Fld := ⟨0x8, 15, 0⟩
def UP_REVERT_HOLD_MS : Fld := ⟨0x18, 31, 0⟩
def UP_PARTNER_ID_ID : Fld := ⟨0x20, 63, 0⟩
def UP_PEN_WEIGHT (k : Nat) : Fld := ⟨0x40 + 0x8 * k, 15, 0⟩
def UP_STATUS_STEPPED : Fld := ⟨0xC0, 9, 9⟩
def UP_STATUS_REVERT_PENDING : Fld := ⟨0xC0, 8, 8⟩
def UP_STATUS_CLEAN : Fld := ⟨0xC0, 7, 7⟩
def UP_STATUS_SYNCED : Fld := ⟨0xC0, 6, 6⟩
def UP_STATUS_PARTNER_HEARD : Fld := ⟨0xC0, 5, 5⟩
def UP_STATUS_LINK_B_UP : Fld := ⟨0xC0, 4, 4⟩
def UP_STATUS_LINK_A_UP : Fld := ⟨0xC0, 3, 3⟩
def UP_STATUS_ROLE : Fld := ⟨0xC0, 2, 0⟩
def UP_CLAIM_STATUS_CLAIM : Fld := ⟨0xC8, 63, 48⟩
def UP_CLAIM_STATUS_PENALTY : Fld := ⟨0xC8, 47, 32⟩
def UP_CLAIM_STATUS_DEFERENCE : Fld := ⟨0xC8, 31, 16⟩
def UP_CLAIM_STATUS_EFF : Fld := ⟨0xC8, 15, 0⟩
def UP_PARTNER_CLAIM_CLAIM : Fld := ⟨0xD0, 63, 48⟩
def UP_PARTNER_CLAIM_PENALTY : Fld := ⟨0xD0, 47, 32⟩
def UP_PARTNER_CLAIM_EFF : Fld := ⟨0xD0, 31, 16⟩
def UP_PARTNER_CLAIM_ROLE : Fld := ⟨0xD0, 7, 0⟩
def UP_PEN_ACTIVE_ITEMS : Fld := ⟨0xD8, 15, 0⟩
def UP_CLEAN_SINCE_MS : Fld := ⟨0xE0, 31, 0⟩
def UP_HANDOVER_MS_INDEX : Fld := ⟨0xE8, 31, 0⟩
def UP_DIGEST_DIGEST : Fld := ⟨0xF0, 63, 0⟩
def UP_DIGEST_PARTNER_DIGEST : Fld := ⟨0xF8, 63, 0⟩
def UP_DIGEST_MS_MS_INDEX : Fld := ⟨0x100, 31, 0⟩
def UP_CNT_HB_BAD_COUNT : Fld := ⟨0x108, 63, 0⟩
def UP_CNT_HB_LOST_COUNT : Fld := ⟨0x110, 63, 0⟩
def UP_CNT_TAKEOVER_COUNT : Fld := ⟨0x118, 63, 0⟩
def UP_CNT_YIELD_COUNT : Fld := ⟨0x120, 63, 0⟩
def UP_CNT_DIGEST_MISMATCH_COUNT : Fld := ⟨0x128, 63, 0⟩
def UP_CNT_STATE_LATE_COUNT : Fld := ⟨0x130, 63, 0⟩
def UP_CNT_STATE_RETX_COUNT : Fld := ⟨0x138, 63, 0⟩
def UP_CNT_GRANT_DIFF_COUNT : Fld := ⟨0x140, 63, 0⟩
def UP_CNT_SPLIT_COUNT : Fld := ⟨0x148, 63, 0⟩
def UP_CNT_FOREIGN_COUNT : Fld := ⟨0x150, 63, 0⟩
def UP_EVENT_FLAGS : Fld := ⟨0x158, 5, 0⟩
def UP_CMD_RESYNC : Fld := ⟨0x160, 0, 0⟩
def UP_HEALTH_W_WORD (k : Nat) : Fld := ⟨0x180 + 0x8 * k, 63, 0⟩
/-! Fields of CP. -/
def CP_CTRL_EN : Fld := ⟨0x0, 0, 0⟩
def CP_CNT_MODULE_DROP_COUNT : Fld := ⟨0x10, 63, 0⟩
def CP_CNT_SLICE_DROP_COUNT (k : Nat) : Fld := ⟨0x40 + 0x8 * k, 63, 0⟩
/-! Fields of CPF. -/
def CP_PROF_CTRL_EN : Fld := ⟨0x0, 63, 63⟩
def CP_PROF_CTRL_PASSED : Fld := ⟨0x0, 62, 62⟩
def CP_PROF_CTRL_DROPPED : Fld := ⟨0x0, 61, 61⟩
def CP_PROF_CTRL_TO_RING : Fld := ⟨0x0, 60, 60⟩
def CP_PROF_CTRL_TO_EXPORT : Fld := ⟨0x0, 59, 59⟩
def CP_PROF_CTRL_SHORT : Fld := ⟨0x0, 58, 58⟩
def CP_PROF_CTRL_RING : Fld := ⟨0x0, 55, 48⟩
def CP_PROF_CTRL_SNAP_LEN : Fld := ⟨0x0, 45, 32⟩
def CP_PROF_CTRL_SAMPLE : Fld := ⟨0x0, 19, 0⟩
def CP_PROF_EXP_LANE : Fld := ⟨0x8, 63, 55⟩
def CP_PROF_EXP_IPV6 : Fld := ⟨0x8, 54, 54⟩
def CP_PROF_EXP_FLOW : Fld := ⟨0x8, 53, 48⟩
def CP_PROF_EXP_DPORT : Fld := ⟨0x8, 47, 32⟩
def CP_PROF_EXP_REWRITE_ID : Fld := ⟨0x8, 31, 16⟩
def CP_PROF_EXP_ID_STREAM_ID : Fld := ⟨0x10, 31, 0⟩
def CP_PROF_IP_HI_ADDR : Fld := ⟨0x18, 63, 0⟩
def CP_PROF_IP_LO_ADDR : Fld := ⟨0x20, 63, 0⟩
def CP_PROF_MAC_MAC : Fld := ⟨0x28, 47, 0⟩
def CP_PROF_REC_COUNT : Fld := ⟨0x30, 63, 0⟩
def CP_PROF_DROP_COUNT : Fld := ⟨0x38, 63, 0⟩
def CP_PROF_EXP_CNT_COUNT : Fld := ⟨0x40, 63, 0⟩
def CP_PROF_EXP_DROP_COUNT : Fld := ⟨0x48, 63, 0⟩
/-! Fields of CPR. -/
def CP_RDATA_BASE_DA : Fld := ⟨0x0, 43, 0⟩
def CP_RDATA_SIZE_LOG2 : Fld := ⟨0x8, 5, 0⟩
def CP_RDATA_USED_BYTES : Fld := ⟨0x10, 34, 0⟩
def CP_RDATA_DROP_COUNT : Fld := ⟨0x18, 63, 0⟩
/-! Fields of CPP. -/
def CP_PORT_CAP_ERRORED : Fld := ⟨0x0, 4, 4⟩
def CP_PORT_PROFILE : Fld := ⟨0x0, 3, 0⟩
/-! Fields of JR. -/
def JR_CTRL_EV_EN : Fld := ⟨0x0, 23, 23⟩
def JR_CTRL_EV_SEV : Fld := ⟨0x0, 22, 21⟩
def JR_CTRL_EV_CHANNEL : Fld := ⟨0x0, 20, 18⟩
def JR_CTRL_RING : Fld := ⟨0x0, 15, 8⟩
def JR_CTRL_SHORT : Fld := ⟨0x0, 1, 1⟩
def JR_CTRL_EN : Fld := ⟨0x0, 0, 0⟩
def JR_SEQ_NEXT : Fld := ⟨0x8, 63, 0⟩
def JR_CNT_ENTRIES_COUNT : Fld := ⟨0x10, 63, 0⟩
def JR_CNT_COALESCED_COUNT : Fld := ⟨0x18, 63, 0⟩
def JR_CNT_EV_LOST_COUNT : Fld := ⟨0x20, 63, 0⟩
def JR_STATUS_BUSY : Fld := ⟨0x28, 26, 16⟩
def JR_STATUS_DDR_DOWN : Fld := ⟨0x28, 1, 1⟩
def JR_STATUS_RING_FULL : Fld := ⟨0x28, 0, 0⟩
/-! Fields of JRS. -/
def JR_SRC_CTRL_BURST : Fld := ⟨0x0, 47, 32⟩
def JR_SRC_CTRL_RATE : Fld := ⟨0x0, 31, 0⟩
def JR_SRC_COAL_COUNT : Fld := ⟨0x8, 63, 32⟩
def JR_SRC_COAL_LOST : Fld := ⟨0x8, 31, 0⟩
def JR_SRC_FIRST_SEC_SEC : Fld := ⟨0x10, 47, 0⟩
def JR_SRC_FIRST_NS_NS : Fld := ⟨0x18, 63, 32⟩
def JR_SRC_LAST_SEC_SEC : Fld := ⟨0x20, 47, 0⟩
def JR_SRC_LAST_NS_NS : Fld := ⟨0x28, 63, 32⟩
def JR_SRC_STATE_BUSY : Fld := ⟨0x30, 16, 16⟩
def JR_SRC_STATE_CODE : Fld := ⟨0x30, 15, 0⟩
def JR_SRC_CNT_COUNT : Fld := ⟨0x38, 63, 0⟩
/-! Fields of XP. -/
def XP_CTRL_EV_RETX_US : Fld := ⟨0x0, 31, 12⟩
def XP_CTRL_WINDOW : Fld := ⟨0x0, 7, 3⟩
def XP_CTRL_EV_SLOT : Fld := ⟨0x0, 2, 0⟩
def XP_BOOT_ID_BOOT_ID : Fld := ⟨0x8, 31, 0⟩
def XP_CNT_MALFORMED_COUNT : Fld := ⟨0x40, 63, 0⟩
def XP_CNT_AUTH_FAIL_COUNT : Fld := ⟨0x48, 63, 0⟩
def XP_CNT_BOOT_MISMATCH_COUNT : Fld := ⟨0x50, 63, 0⟩
def XP_CNT_REPLAY_COUNT : Fld := ⟨0x58, 63, 0⟩
def XP_CNT_SEQ_DROP_COUNT : Fld := ⟨0x60, 63, 0⟩
def XP_CNT_RETX_RESP_COUNT : Fld := ⟨0x68, 63, 0⟩
def XP_CNT_DENIED_COUNT : Fld := ⟨0x70, 63, 0⟩
def XP_CNT_EV_RETX_COUNT : Fld := ⟨0x78, 63, 0⟩
def XP_EVENT_FLAGS : Fld := ⟨0x80, 2, 0⟩
/-! Fields of XPL. -/
def XP_LANE_MAC_MAC : Fld := ⟨0x0, 47, 0⟩
def XP_LANE_IP_HI_ADDR : Fld := ⟨0x8, 63, 0⟩
def XP_LANE_IP_LO_ADDR : Fld := ⟨0x10, 63, 0⟩
def XP_LANE_CFG_UDP_PORT : Fld := ⟨0x18, 31, 16⟩
def XP_LANE_CFG_IPV6 : Fld := ⟨0x18, 1, 1⟩
def XP_LANE_CFG_LINK_UP : Fld := ⟨0x18, 0, 0⟩
def XP_LANE_RX_COUNT : Fld := ⟨0x20, 63, 0⟩
def XP_LANE_RX_DROP_COUNT : Fld := ⟨0x28, 63, 0⟩
def XP_LANE_DOWN_COUNT : Fld := ⟨0x30, 63, 0⟩
/-! Fields of XPS. -/
def XP_SLOT_STATUS_KEYED : Fld := ⟨0x0, 63, 63⟩
def XP_SLOT_STATUS_GEN : Fld := ⟨0x0, 62, 62⟩
def XP_SLOT_STATUS_NEXT_KEY : Fld := ⟨0x0, 61, 61⟩
def XP_SLOT_STATUS_EV_LANE : Fld := ⟨0x0, 60, 60⟩
def XP_SLOT_CTR_COUNTER : Fld := ⟨0x8, 63, 0⟩
def XP_SLOT_DEST_HI_ADDR : Fld := ⟨0x10, 63, 0⟩
def XP_SLOT_DEST_LO_ADDR : Fld := ⟨0x18, 63, 0⟩
def XP_SLOT_DPORT_PORT : Fld := ⟨0x20, 15, 0⟩
def XP_CH_SEQ_NEXT (k : Nat) : Fld := ⟨0x40 + 0x10 * k, 63, 32⟩
def XP_CH_SEQ_EV_NEXT (k : Nat) : Fld := ⟨0x40 + 0x10 * k, 31, 0⟩
def XP_CH_ACK_EV_ACKED (k : Nat) : Fld := ⟨0x48 + 0x10 * k, 63, 32⟩
def XP_CH_ACK_BUFFERED (k : Nat) : Fld := ⟨0x48 + 0x10 * k, 4, 0⟩
/-! Fields of RG. -/
def RG_INFO_RINGS : Fld := ⟨0x0, 8, 0⟩
/-! Fields of RGR. -/
def RG_BASE_DA : Fld := ⟨0x0, 43, 0⟩
def RG_CFG_KIND : Fld := ⟨0x8, 63, 63⟩
def RG_CFG_POLICY : Fld := ⟨0x8, 62, 61⟩
def RG_CFG_LOG2_SIZE : Fld := ⟨0x8, 60, 56⟩
def RG_CFG_RESULT_RING : Fld := ⟨0x8, 55, 48⟩
def RG_CFG_RESULT_EN : Fld := ⟨0x8, 47, 47⟩
def RG_CFG_ENGINE_KIND : Fld := ⟨0x8, 46, 44⟩
def RG_CFG_ENGINE : Fld := ⟨0x8, 43, 42⟩
def RG_CFG_CHANNEL : Fld := ⟨0x8, 41, 37⟩
def RG_CFG_TX_SLICE : Fld := ⟨0x8, 36, 34⟩
def RG_CFG_ROLE : Fld := ⟨0x8, 33, 31⟩
def RG_CFG_OWNER : Fld := ⟨0x8, 30, 27⟩
def RG_PROD_PROD : Fld := ⟨0x10, 31, 0⟩
def RG_CONS_CONS : Fld := ⟨0x18, 31, 0⟩
def RG_DONE_PUSH_DONE : Fld := ⟨0x20, 63, 32⟩
def RG_DONE_DONE : Fld := ⟨0x20, 31, 0⟩
def RG_STATE_ERR_CODE : Fld := ⟨0x28, 63, 56⟩
def RG_STATE_ERR_PUSH : Fld := ⟨0x28, 55, 55⟩
def RG_STATE_PUSH_FILL : Fld := ⟨0x28, 50, 48⟩
def RG_STATE_STATE : Fld := ⟨0x28, 2, 0⟩
def RG_ERR_INDEX_INDEX : Fld := ⟨0x30, 31, 0⟩
def RG_CMD_STATUS : Fld := ⟨0x38, 15, 8⟩
def RG_CMD_OP : Fld := ⟨0x38, 2, 0⟩
def RG_NOTIFY_THRESH : Fld := ⟨0x40, 47, 32⟩
def RG_NOTIFY_TIMER_US : Fld := ⟨0x40, 31, 0⟩
def RG_CNT_DONE_COUNT : Fld := ⟨0x48, 63, 0⟩
def RG_CNT_DROP_COUNT : Fld := ⟨0x50, 63, 0⟩
def RG_CNT_ERROR_COUNT : Fld := ⟨0x58, 63, 0⟩
def RG_RES_SEQ_NEXT : Fld := ⟨0x60, 63, 0⟩
def RG_EVENT_FLAGS : Fld := ⟨0x68, 3, 0⟩
/-! Fields of DM. -/
def DM_INFO_MOVERS : Fld := ⟨0x0, 23, 16⟩
def DM_INFO_CHANNELS : Fld := ⟨0x0, 15, 8⟩
def DM_INFO_ENGINES : Fld := ⟨0x0, 7, 0⟩
def DM_CTRL_DRAIN_LIMIT_US : Fld := ⟨0x8, 31, 0⟩
def DM_POWER_DRAINING : Fld := ⟨0x10, 63, 63⟩
def DM_POWER_CALDERA_BANKS : Fld := ⟨0x10, 47, 32⟩
def DM_POWER_DDR : Fld := ⟨0x10, 23, 8⟩
def DM_POWER_SLICES : Fld := ⟨0x10, 7, 0⟩
/-! Fields of DME. -/
def DM_ENG_CTRL_RETRY_LIMIT : Fld := ⟨0x0, 10, 8⟩
def DM_ENG_CTRL_EN : Fld := ⟨0x0, 0, 0⟩
def DM_ENG_STATUS_LOADED : Fld := ⟨0x8, 13, 8⟩
def DM_ENG_STATUS_FAULT : Fld := ⟨0x8, 0, 0⟩
def DM_ENG_MOVERS_BUSY : Fld := ⟨0x10, 2, 0⟩
def DM_ENG_FAULT_ADDR_DA : Fld := ⟨0x18, 43, 0⟩
def DM_ENG_CMD_CLEAR : Fld := ⟨0x20, 0, 0⟩
def DM_ENG_BYTES_COUNT : Fld := ⟨0x28, 63, 0⟩
def DM_ENG_RETRIES_COUNT : Fld := ⟨0x30, 63, 0⟩
def DM_ENG_EVENT_FLAGS : Fld := ⟨0x38, 2, 0⟩
/-! Fields of DMC. -/
def DM_CH_CTRL_BOUND : Fld := ⟨0x0, 16, 16⟩
def DM_CH_CTRL_RING : Fld := ⟨0x0, 15, 8⟩
def DM_CH_CTRL_PRIO : Fld := ⟨0x0, 1, 0⟩
def DM_CH_SH_W_WORD (k : Nat) : Fld := ⟨0x8 + 0x8 * k, 63, 0⟩
def DM_CH_GO_GO : Fld := ⟨0x48, 0, 0⟩
def DM_CH_STATUS_DONE_SEQ : Fld := ⟨0x50, 63, 32⟩
def DM_CH_STATUS_GO_STATUS : Fld := ⟨0x50, 23, 16⟩
def DM_CH_STATUS_STATUS : Fld := ⟨0x50, 15, 8⟩
def DM_CH_STATUS_DIR : Fld := ⟨0x50, 4, 4⟩
def DM_CH_STATUS_PENDING : Fld := ⟨0x50, 3, 3⟩
def DM_CH_STATUS_STATE : Fld := ⟨0x50, 2, 0⟩
def DM_CH_COUNT_BYTES : Fld := ⟨0x58, 63, 0⟩
def DM_CH_DETAIL_DETAIL : Fld := ⟨0x60, 63, 0⟩
def DM_CH_WORK_SRC_DA : Fld := ⟨0x68, 43, 0⟩
def DM_CH_WORK_DST_DA : Fld := ⟨0x70, 43, 0⟩
def DM_CH_WORK_LEN_OPCODE : Fld := ⟨0x78, 63, 40⟩
def DM_CH_WORK_LEN_LEN : Fld := ⟨0x78, 31, 0⟩
def DM_CH_RETRIES_COUNT : Fld := ⟨0x80, 63, 0⟩
def DM_CH_CMD_CLEAR_HALT : Fld := ⟨0x88, 0, 0⟩
/-! Fields of MS. -/
def MS_INFO_SHADOW_WORDS : Fld := ⟨0x0, 31, 16⟩
def MS_INFO_BANKS : Fld := ⟨0x0, 7, 0⟩
def MS_SNAP_SRC_DA : Fld := ⟨0x8, 43, 0⟩
def MS_SNAP_SHAPE_STRIDE : Fld := ⟨0x10, 63, 40⟩
def MS_SNAP_SHAPE_WORDS_PER : Fld := ⟨0x10, 39, 28⟩
def MS_SNAP_SHAPE_INSTANCES : Fld := ⟨0x10, 27, 15⟩
def MS_SNAP_CMD_TAG : Fld := ⟨0x18, 31, 16⟩
def MS_SNAP_CMD_STATUS : Fld := ⟨0x18, 15, 8⟩
def MS_SNAP_CMD_BANK : Fld := ⟨0x18, 7, 4⟩
def MS_SNAP_CMD_OP : Fld := ⟨0x18, 1, 0⟩
def MS_OVF_FLAGS : Fld := ⟨0x20, 15, 0⟩
/-! Fields of MSB. -/
def MS_BANK_INFO_TAG : Fld := ⟨0x0, 63, 48⟩
def MS_BANK_INFO_WORDS : Fld := ⟨0x0, 47, 32⟩
def MS_BANK_INFO_STATUS : Fld := ⟨0x0, 7, 0⟩
def MS_BANK_SRC_DA : Fld := ⟨0x8, 43, 0⟩
def MS_BANK_SEC_SEC : Fld := ⟨0x10, 47, 0⟩
def MS_BANK_NS_NS : Fld := ⟨0x18, 63, 32⟩
def MS_BANK_NS_FRAC : Fld := ⟨0x18, 31, 16⟩
/-! Fields of MSD. -/
def MS_LS_BASE_DA : Fld := ⟨0x0, 43, 0⟩
def MS_QS_BASE_DA : Fld := ⟨0x20, 43, 0⟩
def MS_LS_SIZE_LOG2 : Fld := ⟨0x8, 5, 0⟩
def MS_QS_SIZE_LOG2 : Fld := ⟨0x28, 5, 0⟩
def MS_LS_WR_WR : Fld := ⟨0x10, 31, 0⟩
def MS_QS_WR_WR : Fld := ⟨0x30, 31, 0⟩
def MS_LS_RD_RD : Fld := ⟨0x18, 31, 0⟩
def MS_QS_RD_RD : Fld := ⟨0x38, 31, 0⟩
def MS_DRAIN_CTRL_QS_EN : Fld := ⟨0x40, 1, 1⟩
def MS_DRAIN_CTRL_LS_EN : Fld := ⟨0x40, 0, 0⟩
def MS_DRAIN_EVENT_FLAGS : Fld := ⟨0x48, 2, 0⟩
/-! Fields of MSS. -/
def MSS_OVF_FLAGS : Fld := ⟨0x0, 13, 0⟩
def MSS_LS_FILL_ENTRIES : Fld := ⟨0x8, 13, 0⟩
def MSS_LS_LOST_COUNT : Fld := ⟨0x10, 63, 0⟩
def MSS_LS_SEQ_NEXT : Fld := ⟨0x18, 63, 0⟩
def MSS_OVERRUN_COUNT (k : Nat) : Fld := ⟨0x40 + 0x8 * k, 63, 0⟩
def MSS_LINK_RETRY_HD_COUNT : Fld := ⟨0x80, 63, 0⟩
def MSS_LINK_RETRY_CT_COUNT : Fld := ⟨0x88, 63, 0⟩
def MSS_EVC_CTRL_EN (k : Nat) : Fld := ⟨0x100 + 0x10 * k, 63, 63⟩
def MSS_EVC_CTRL_RECONFIGURED (k : Nat) : Fld := ⟨0x100 + 0x10 * k, 62, 62⟩
def MSS_EVC_CTRL_LANE (k : Nat) : Fld := ⟨0x100 + 0x10 * k, 53, 48⟩
def MSS_EVC_CTRL_ALL_PORTS (k : Nat) : Fld := ⟨0x100 + 0x10 * k, 47, 47⟩
def MSS_EVC_CTRL_CLASSES (k : Nat) : Fld := ⟨0x100 + 0x10 * k, 39, 32⟩
def MSS_EVC_CTRL_EVENT (k : Nat) : Fld := ⟨0x100 + 0x10 * k, 7, 0⟩
def MSS_EVC_COUNT (k : Nat) : Fld := ⟨0x108 + 0x10 * k, 63, 0⟩
/-! Fields of MSP. -/
def MSS_RX_FRAMES_COUNT : Fld := ⟨0x0, 63, 0⟩
def MSS_RX_BYTES_COUNT : Fld := ⟨0x8, 63, 0⟩
def MSS_RX_FCS_ERR_COUNT : Fld := ⟨0x10, 63, 0⟩
def MSS_RX_PRE_SERVICE_COUNT : Fld := ⟨0x18, 63, 0⟩
def MSS_TX_FRAMES_COUNT : Fld := ⟨0x20, 63, 0⟩
def MSS_TX_BYTES_COUNT : Fld := ⟨0x28, 63, 0⟩
def MSS_BW_CTRL_EN : Fld := ⟨0x40, 63, 63⟩
def MSS_BW_CTRL_WINDOW_NS : Fld := ⟨0x40, 61, 32⟩
def MSS_BW_CTRL_EV1 : Fld := ⟨0x40, 31, 24⟩
def MSS_BW_CTRL_EV0 : Fld := ⟨0x40, 23, 16⟩
def MSS_BW_CTRL_EV_CLASSES : Fld := ⟨0x40, 15, 8⟩
def MSS_BW_STATUS_NEXT : Fld := ⟨0x48, 63, 32⟩
def MSS_BW_STATUS_PENDING : Fld := ⟨0x48, 0, 0⟩
def MSS_LS_PORT_EN : Fld := ⟨0x50, 63, 63⟩
def MSS_LS_PORT_N : Fld := ⟨0x50, 20, 0⟩
def MSS_BW_REC_WORD (k : Nat) : Fld := ⟨0x1000 + 0x40 * k, 63, 0⟩
/-! Fields of SY. -/
def SY_ID_PART : Fld := ⟨0x0, 63, 48⟩
def SY_ID_REVISION : Fld := ⟨0x0, 47, 32⟩
def SY_SERIAL_SERIAL : Fld := ⟨0x8, 63, 0⟩
def SY_BOOT_ATTEMPTS : Fld := ⟨0x10, 39, 32⟩
def SY_BOOT_LAST_FAIL : Fld := ⟨0x10, 31, 24⟩
def SY_BOOT_PHASE : Fld := ⟨0x10, 23, 16⟩
def SY_BOOT_BOOT_SEL : Fld := ⟨0x10, 3, 2⟩
def SY_BOOT_SOURCE : Fld := ⟨0x10, 1, 1⟩
def SY_BOOT_SLOT : Fld := ⟨0x10, 0, 0⟩
def SY_BOOT_TIME_US : Fld := ⟨0x18, 31, 0⟩
def SY_AMAP_LOCK_LOCKED : Fld := ⟨0x20, 0, 0⟩
def SY_AMAP_REFUSED_COUNT : Fld := ⟨0x28, 63, 0⟩
def SY_AMAP_INFO_ENTRIES : Fld := ⟨0x30, 9, 0⟩
def SY_SECVER_MIN : Fld := ⟨0x38, 31, 0⟩
def SY_SECVER_RAISE_VERSION : Fld := ⟨0x40, 31, 0⟩
def SY_ANCHOR_STATUS_ACTIVE : Fld := ⟨0x50, 9, 8⟩
def SY_ANCHOR_STATUS_REVOKED : Fld := ⟨0x50, 7, 4⟩
def SY_ANCHOR_STATUS_PRESENT : Fld := ⟨0x50, 3, 0⟩
def SY_ANCHOR_REVOKE_MASK : Fld := ⟨0x58, 3, 0⟩
def SY_KEK_ID_ID : Fld := ⟨0x68, 63, 0⟩
def SY_SEC_STATUS_STATUS : Fld := ⟨0x70, 7, 0⟩
def SY_AMAP_E0_WORD0 (k : Nat) : Fld := ⟨0x1000 + 0x10 * k, 63, 0⟩
def SY_AMAP_E1_WORD1 (k : Nat) : Fld := ⟨0x1008 + 0x10 * k, 63, 0⟩
/-! Fields of IM. -/
def IM_STAGE_BASE_DA : Fld := ⟨0x0, 43, 0⟩
def IM_CMD_TAG : Fld := ⟨0x8, 31, 16⟩
def IM_CMD_OP : Fld := ⟨0x8, 1, 0⟩
def IM_RESULT_TAG : Fld := ⟨0x10, 63, 48⟩
def IM_RESULT_RESULT_SEQ : Fld := ⟨0x10, 47, 40⟩
def IM_RESULT_BUSY : Fld := ⟨0x10, 16, 16⟩
def IM_RESULT_FAIL : Fld := ⟨0x10, 15, 8⟩
def IM_RESULT_STATUS : Fld := ⟨0x10, 7, 0⟩
def IM_FAIL_AT_SECTION : Fld := ⟨0x18, 39, 32⟩
def IM_FAIL_AT_OFFSET : Fld := ⟨0x18, 31, 0⟩
def IM_HDR_SEC_VERSION : Fld := ⟨0x20, 63, 32⟩
def IM_HDR_FLAGS : Fld := ⟨0x20, 31, 0⟩
def IM_BUILD_BUILD_ID : Fld := ⟨0x28, 63, 0⟩
def IM_MODULE_HASH_HASH (k : Nat) : Fld := ⟨0x30 + 0x8 * k, 63, 0⟩
def IM_CONST_ERRORS : Fld := ⟨0x60, 63, 32⟩
def IM_CONST_HELD : Fld := ⟨0x60, 12, 0⟩
/-! Fields of MD. -/
def MD_STATUS_SINCE : Fld := ⟨0x0, 63, 32⟩
def MD_STATUS_CAUSE : Fld := ⟨0x0, 31, 24⟩
def MD_STATUS_RETURN_MODE : Fld := ⟨0x0, 23, 16⟩
def MD_STATUS_PREV_MODE : Fld := ⟨0x0, 15, 8⟩
def MD_STATUS_MODE : Fld := ⟨0x0, 7, 0⟩
def MD_CMD_TAG : Fld := ⟨0x8, 31, 16⟩
def MD_CMD_STATUS : Fld := ⟨0x8, 15, 8⟩
def MD_CMD_OP : Fld := ⟨0x8, 3, 0⟩
def MD_FENCE_CMD_TAG : Fld := ⟨0x10, 31, 16⟩
def MD_FENCE_CMD_STATUS : Fld := ⟨0x10, 15, 8⟩
def MD_FENCE_CMD_KIND : Fld := ⟨0x10, 7, 7⟩
def MD_FENCE_CMD_TARGET : Fld := ⟨0x10, 6, 3⟩
def MD_FENCE_CMD_OP : Fld := ⟨0x10, 2, 0⟩
def MD_DDR_FENCE_CHANNELS : Fld := ⟨0x18, 15, 0⟩
def MD_SLICE_STATE_SINCE (k : Nat) : Fld := ⟨0x40 + 0x8 * k, 63, 32⟩
def MD_SLICE_STATE_CAUSE (k : Nat) : Fld := ⟨0x40 + 0x8 * k, 15, 8⟩
def MD_SLICE_STATE_STATE (k : Nat) : Fld := ⟨0x40 + 0x8 * k, 2, 0⟩
def MD_FW_CTRL_AUTO : Fld := ⟨0x80, 0, 0⟩
def MD_FW_CMD_TAG : Fld := ⟨0x88, 31, 16⟩
def MD_FW_CMD_STATUS : Fld := ⟨0x88, 15, 8⟩
def MD_FW_CMD_OP : Fld := ⟨0x88, 1, 0⟩
def MD_FW_STATUS_CORES_NEW : Fld := ⟨0x90, 63, 48⟩
def MD_FW_STATUS_SLICES_NEW : Fld := ⟨0x90, 47, 40⟩
def MD_FW_STATUS_FUMAROLE_NEW : Fld := ⟨0x90, 39, 39⟩
def MD_FW_STATUS_STATE : Fld := ⟨0x90, 2, 0⟩
def MD_FW_REL_ACTIVE (k : Nat) : Fld := ⟨0x98 + 0x8 * k, 63, 32⟩
def MD_FW_REL_STANDBY (k : Nat) : Fld := ⟨0x98 + 0x8 * k, 31, 0⟩
def MD_TEST_CMD_TICKET : Fld := ⟨0xC0, 63, 48⟩
def MD_TEST_CMD_TAG : Fld := ⟨0xC0, 47, 32⟩
def MD_TEST_CMD_OP : Fld := ⟨0xC0, 17, 16⟩
def MD_TEST_CMD_TARGET : Fld := ⟨0xC0, 15, 8⟩
def MD_TEST_CMD_ITEM : Fld := ⟨0xC0, 7, 0⟩
def MD_TEST_RESULT_TAG : Fld := ⟨0xC8, 63, 48⟩
def MD_TEST_RESULT_TICKET : Fld := ⟨0xC8, 47, 32⟩
def MD_TEST_RESULT_RESULT_SEQ : Fld := ⟨0xC8, 31, 24⟩
def MD_TEST_RESULT_STATUS : Fld := ⟨0xC8, 7, 0⟩
def MD_TEST_STATUS_QUEUED : Fld := ⟨0xD0, 15, 8⟩
def MD_TEST_STATUS_RUNNING : Fld := ⟨0xD0, 7, 0⟩
def MD_CNT_TRANSITIONS_COUNT : Fld := ⟨0xD8, 63, 0⟩
def MD_CNT_PARK_DISCARD_COUNT : Fld := ⟨0xE0, 63, 0⟩
def MD_EVENT_FLAGS : Fld := ⟨0xE8, 4, 0⟩
/-! Fields of BG. -/
def BG_BUDGET_DDR_PERMILLE : Fld := ⟨0x0, 15, 8⟩
def BG_BUDGET_TABLE_PERMILLE : Fld := ⟨0x0, 7, 0⟩
def BG_STATUS_PAUSED : Fld := ⟨0x8, 16, 16⟩
def BG_STATUS_ACTIVE : Fld := ⟨0x8, 15, 0⟩
/-! Fields of BGT. -/
def BG_TASK_CTRL_EN : Fld := ⟨0x0, 63, 63⟩
def BG_TASK_CTRL_MANDATORY : Fld := ⟨0x0, 62, 62⟩
def BG_TASK_CTRL_PERIOD_MS : Fld := ⟨0x0, 31, 0⟩
def BG_TASK_STAT_PASSES : Fld := ⟨0x8, 63, 32⟩
def BG_TASK_STAT_OVERRUNS : Fld := ⟨0x8, 31, 0⟩
def BG_TASK_LAST_END : Fld := ⟨0x10, 63, 32⟩
def BG_TASK_LAST_DURATION_US : Fld := ⟨0x10, 31, 0⟩
def BG_TASK_FOUND_COUNT : Fld := ⟨0x18, 63, 0⟩
/-! Fields of PW. -/
def PW_STATUS_THERM : Fld := ⟨0x0, 7, 6⟩
def PW_STATUS_VAUX_OK : Fld := ⟨0x0, 2, 2⟩
def PW_STATUS_VIN_OK : Fld := ⟨0x0, 1, 1⟩
def PW_STATUS_RAILS_GOOD : Fld := ⟨0x0, 0, 0⟩
def PW_INPUT_VIN_MV : Fld := ⟨0x8, 63, 48⟩
def PW_INPUT_IIN_10MA : Fld := ⟨0x8, 47, 32⟩
def PW_INPUT_POWER_W : Fld := ⟨0x8, 31, 16⟩
def PW_INPUT_VAUX_MV : Fld := ⟨0x8, 15, 0⟩
def PW_ENERGY_MJ : Fld := ⟨0x10, 63, 0⟩
def PW_CAP_LIMIT_W : Fld := ⟨0x18, 15, 0⟩
def PW_CAP_STATUS_TIME_MS : Fld := ⟨0x20, 63, 32⟩
def PW_CAP_STATUS_STEP : Fld := ⟨0x20, 2, 0⟩
def PW_THERM_SHUT_C : Fld := ⟨0x28, 31, 24⟩
def PW_THERM_CAP_C : Fld := ⟨0x28, 23, 16⟩
def PW_THERM_WARN_C : Fld := ⟨0x28, 7, 0⟩
def PW_TJ_MAX (k : Nat) : Fld := ⟨0x40 + 0x8 * k, 63, 48⟩
def PW_TJ_NOW (k : Nat) : Fld := ⟨0x40 + 0x8 * k, 15, 0⟩
def PW_DOMAIN_DDR : Fld := ⟨0xA0, 39, 24⟩
def PW_DOMAIN_BANKS : Fld := ⟨0xA0, 23, 8⟩
def PW_DOMAIN_SLICES : Fld := ⟨0xA0, 7, 0⟩
def PW_DOMAIN_CMD_STATUS : Fld := ⟨0xA8, 15, 8⟩
def PW_DOMAIN_CMD_GROUP : Fld := ⟨0xA8, 7, 4⟩
def PW_DOMAIN_CMD_OP : Fld := ⟨0xA8, 1, 0⟩
def PW_AVS_VID_MV (k : Nat) : Fld := ⟨0xC0 + 0x8 * k, 63, 48⟩
def PW_AVS_AGING_MV (k : Nat) : Fld := ⟨0xC0 + 0x8 * k, 31, 16⟩
def PW_AVS_VCORE_MV (k : Nat) : Fld := ⟨0xC0 + 0x8 * k, 15, 0⟩
def PW_AGING_SLOW_PPM (k : Nat) : Fld := ⟨0x120 + 0x8 * k, 63, 32⟩
def PW_AGING_SINCE_STEP_PPM (k : Nat) : Fld := ⟨0x120 + 0x8 * k, 31, 0⟩
def PW_LIFE_EQ_HOURS : Fld := ⟨0x180, 63, 32⟩
def PW_LIFE_HOURS : Fld := ⟨0x180, 31, 0⟩
def PW_LIFE_TAVG_TJ : Fld := ⟨0x188, 15, 0⟩
def PW_EVENT_FLAGS : Fld := ⟨0x190, 5, 0⟩
def PW_CNT_CAP_COUNT : Fld := ⟨0x198, 63, 0⟩
def PW_PMB_ADDR : Fld := ⟨0x1A0, 6, 0⟩
/-! Fields of FI. -/
def FI_INFO_ACTIVE : Fld := ⟨0x0, 8, 8⟩
def FI_INFO_INJECTORS : Fld := ⟨0x0, 7, 0⟩
/-! Fields of FII. -/
def FI_INJ_CTRL_LIMIT : Fld := ⟨0x0, 63, 32⟩
def FI_INJ_CTRL_EVERY : Fld := ⟨0x0, 31, 24⟩
def FI_INJ_CTRL_START_EN : Fld := ⟨0x0, 4, 4⟩
def FI_INJ_CTRL_DIR : Fld := ⟨0x0, 3, 3⟩
def FI_INJ_CTRL_ACTION : Fld := ⟨0x0, 2, 1⟩
def FI_INJ_CTRL_ARM : Fld := ⟨0x0, 0, 0⟩
def FI_INJ_MATCH_KIND : Fld := ⟨0x8, 63, 62⟩
def FI_INJ_MATCH_STREAM : Fld := ⟨0x8, 61, 44⟩
def FI_INJ_MATCH_SLOT : Fld := ⟨0x8, 39, 24⟩
def FI_INJ_MATCH_CLASSES : Fld := ⟨0x8, 23, 16⟩
def FI_INJ_PARAM_OFFSET : Fld := ⟨0x10, 63, 48⟩
def FI_INJ_PARAM_BIT : Fld := ⟨0x10, 47, 45⟩
def FI_INJ_PARAM_FCS_BAD : Fld := ⟨0x10, 44, 44⟩
def FI_INJ_PARAM_K : Fld := ⟨0x10, 39, 32⟩
def FI_INJ_PARAM_DELAY_NS : Fld := ⟨0x10, 31, 0⟩
def FI_INJ_START_SEC_SEC : Fld := ⟨0x18, 47, 0⟩
def FI_INJ_START_NS_NS : Fld := ⟨0x20, 63, 32⟩
def FI_INJ_COUNT_INJECTED : Fld := ⟨0x28, 63, 0⟩
def FI_INJ_STATUS_MATCHED : Fld := ⟨0x30, 63, 32⟩
def FI_INJ_STATUS_HOLDING : Fld := ⟨0x30, 2, 2⟩
def FI_INJ_STATUS_DONE : Fld := ⟨0x30, 1, 1⟩
def FI_INJ_STATUS_ACTIVE : Fld := ⟨0x30, 0, 0⟩
/-! Fields of FIT. -/
def FI_TSKEW_TX_NS : Fld := ⟨0x0, 63, 48⟩
def FI_TSKEW_RX_SKEW : Fld := ⟨0x0, 47, 16⟩
def FI_TSKEW_PDELAY : Fld := ⟨0x0, 3, 3⟩
def FI_TSKEW_EVENT : Fld := ⟨0x0, 2, 2⟩
def FI_TSKEW_RX_EN : Fld := ⟨0x0, 1, 1⟩
def FI_TSKEW_TX_EN : Fld := ⟨0x0, 0, 0⟩
def FI_TSKEW_CNT_COUNT : Fld := ⟨0x8, 63, 0⟩
/-! Fields of SD. -/
def SD_INFO_PORTS : Fld := ⟨0x0, 47, 40⟩
def SD_INFO_TABLES : Fld := ⟨0x0, 35, 32⟩
def SD_INFO_SLICE : Fld := ⟨0x0, 2, 0⟩
def SD_LINK_CT_UP : Fld := ⟨0x8, 33, 33⟩
def SD_LINK_HD_UP : Fld := ⟨0x8, 32, 32⟩
def SD_CNT_LINK_DOWN_COUNT : Fld := ⟨0x10, 63, 0⟩
def SD_LANE_IN_PORT (k : Nat) : Fld := ⟨0x10000 + 0x8 * k, 15, 15⟩
def SD_LANE_FIRST (k : Nat) : Fld := ⟨0x10000 + 0x8 * k, 14, 14⟩
def SD_LANE_FIRST_LANE (k : Nat) : Fld := ⟨0x10000 + 0x8 * k, 13, 8⟩
def SD_LANE_LANES (k : Nat) : Fld := ⟨0x10000 + 0x8 * k, 7, 4⟩
def SD_LANE_POWERED (k : Nat) : Fld := ⟨0x10000 + 0x8 * k, 3, 3⟩
def SD_LANE_RATE (k : Nat) : Fld := ⟨0x10000 + 0x8 * k, 2, 0⟩

/-- Register groups of TB. -/
def groupsTB : List RegGroup :=
  [ ⟨.plain, 0x1000000, [], [⟨0x0, 0x3000, 0x7FF117, 0x0, 0x0, 0x0, 0x0, [⟨15, 12, 1, 15, 1, false⟩, ⟨2, 0, 0, 2, 1, false⟩]⟩, ⟨0x8, 0xFFFF0000, 0x0, 0x0, 0x0, 0x0, 0x0, []⟩, ⟨0x10, 0x0, 0x0, 0x0, 0x0, 0x0, 0x0, []⟩, ⟨0x18, 0x0, 0x0, 0x0, 0x0, 0x0, 0x0, []⟩, ⟨0x20, 0x0, 0xFFFFFFFFFFFF, 0x0, 0x0, 0x0, 0x0, []⟩, ⟨0x28, 0x0, 0xFFFFFFFFFFFF0000, 0x0, 0x0, 0x0, 0x0, [⟨63, 32, 0, 999999999, 1, false⟩]⟩, ⟨0x30, 0x0, 0x0, 0x0, 0x0, 0x1, 0x0, []⟩, ⟨0x40, 0x100000000, 0x0, 0x0, 0x0, 0x0, 0xFFFFFFFFFFFFFFFF, [⟨63, 0, 4292819812, 4297114780, 1, false⟩]⟩, ⟨0x50, 0x100000000, 0x0, 0x0, 0x0, 0x0, 0x0, []⟩, ⟨0x58, 0x3204004000, 0xFFFFFFFFFFFF, 0x0, 0x0, 0x0, 0x0, [⟨47, 32, 1, 65535, 1, false⟩]⟩, ⟨0x60, 0x0, 0x0, 0x0, 0x0, 0x0, 0x0, []⟩, ⟨0x68, 0x0, 0x0, 0x0, 0x0, 0x0, 0x0, []⟩]⟩
  , ⟨.plain, 0x1000000, [], [⟨0x70, 0xFFFF0000, 0x0, 0x0, 0x0, 0x0, 0x0, []⟩, ⟨0x78, 0x0, 0x0, 0x0, 0x0, 0x0, 0x0, []⟩, ⟨0x80, 0x0, 0x0, 0x0, 0x0, 0x0, 0x0, []⟩, ⟨0x88, 0x0, 0x0, 0x0, 0x0, 0x0, 0x0, []⟩, ⟨0x90, 0x0, 0x0, 0x0, 0x0, 0x0, 0xFFFFFFFF, []⟩, ⟨0xA0, 0x0, 0x0, 0x0, 0x0, 0x0, 0x0, []⟩, ⟨0xA8, 0x0, 0x0, 0x0, 0x0, 0x0, 0x0, []⟩, ⟨0xB0, 0x186A0, 0xFFFFFFFF, 0x0, 0x0, 0x0, 0x0, [⟨31, 0, 1, 100000, 1, false⟩]⟩, ⟨0xB8, 0xFFFFFFFFFFFF, 0xFFFFFFFFFFFF, 0x0, 0x0, 0x0, 0x0, []⟩, ⟨0xC0, 0x64, 0xFFFFFFFF, 0x0, 0x0, 0x0, 0x0, []⟩, ⟨0xC8, 0x5F5E100, 0x7FFFFFFFF, 0x0, 0x0, 0x0, 0x0, [⟨31, 0, 8, 999999999, 1, false⟩]⟩, ⟨0xD0, 0x0, 0x0, 0x0, 0x0, 0x0, 0x0, []⟩]⟩
  , ⟨.plain, 0x1000000, [], [⟨0xD8, 0x0, 0x0, 0xFF, 0x0, 0x0, 0x0, []⟩]⟩
  , ⟨.tbPort, 0x1010000, [(0x40, 512)], [⟨0x0, 0x140000D000, 0xFFFF0000FF37, 0x0, 0x0, 0x0, 0x0, [⟨47, 32, 1, 65535, 1, false⟩, ⟨15, 12, 9, 1, 1, false⟩, ⟨11, 8, 12, 3, 1, false⟩, ⟨5, 4, 0, 2, 1, false⟩]⟩, ⟨0x8, 0x0, 0xFFFFFFFFFFFFFFFF, 0x0, 0x0, 0x0, 0x0, []⟩, ⟨0x10, 0x0, 0x0, 0x0, 0x0, 0x0, 0x0, []⟩, ⟨0x18, 0x0, 0x0, 0x0, 0x0, 0x0, 0x0, []⟩, ⟨0x20, 0x0, 0x0, 0x0, 0x0, 0x0, 0x0, []⟩, ⟨0x28, 0x0, 0x0, 0x0, 0x0, 0x3, 0x0, []⟩, ⟨0x30, 0x0, 0x0, 0x0, 0x0, 0x0, 0x0, []⟩]⟩
  , ⟨.plain, 0x1018000, [(0x40, 2)], [⟨0x0, 0x1400000000, 0xFFFF00000034, 0x0, 0x0, 0x0, 0x0, [⟨47, 32, 1, 65535, 1, false⟩, ⟨5, 4, 0, 2, 1, false⟩]⟩, ⟨0x8, 0x0, 0xFFFFFFFFFFFFFFFF, 0x0, 0x0, 0x0, 0x0, []⟩, ⟨0x10, 0x0, 0x0, 0x0, 0x0, 0x0, 0x0, []⟩, ⟨0x18, 0x0, 0x0, 0x0, 0x0, 0x0, 0x0, []⟩, ⟨0x20, 0x0, 0x0, 0x0, 0x0, 0x0, 0x0, []⟩, ⟨0x28, 0x0, 0x0, 0x0, 0x0, 0x3, 0x0, []⟩, ⟨0x30, 0x0, 0x0, 0x0, 0x0, 0x0, 0x0, []⟩]⟩ ]

/-- Register groups of TP. -/
def groupsTP : List RegGroup :=
  [ ⟨.pin, 0x1F00000, [(0x40, 16)], [⟨0x0, 0x0, 0x3F, 0x0, 0x100, 0x200, 0x0, [⟨2, 0, 0, 4, 1, false⟩]⟩, ⟨0x8, 0x0, 0xFFFFFFFFFFFF, 0x0, 0x0, 0x0, 0x0, []⟩, ⟨0x10, 0x0, 0xFFFFFFFFFFFF0000, 0x0, 0x0, 0x0, 0x0, [⟨63, 32, 0, 999999999, 1, false⟩]⟩, ⟨0x18, 0x3B9ACA00, 0xFFFFFFFFFFFF, 0x0, 0x0, 0x0, 0x0, []⟩, ⟨0x20, 0x3E8, 0xFFFFFFFF, 0x0, 0x0, 0x0, 0x0, []⟩, ⟨0x28, 0x0, 0x0, 0xE, 0x0, 0x0, 0x0, []⟩, ⟨0x30, 0x0, 0x0, 0x0, 0x0, 0x0, 0x0, []⟩, ⟨0x38, 0x0, 0x0, 0x0, 0x0, 0x0, 0x0, []⟩]⟩ ]

/-- Register groups of SC. -/
def groupsSC : List RegGroup :=
  [ ⟨.plain, 0x1100000, [], [⟨0x0, 0x100000, 0x0, 0x0, 0x0, 0x0, 0x0, []⟩]⟩
  , ⟨.scCell, 0x1110000, [(0x800, 2048)], [⟨0x0, 0xD0100, 0xFF7F0F, 0x0, 0x0, 0x0, 0x0, [⟨23, 20, 13, 3, 1, false⟩, ⟨19, 16, 9, 1, 1, false⟩]⟩, ⟨0x8, 0x1F40, 0xFFFFFFFF, 0x0, 0x0, 0x0, 0x0, [⟨31, 0, 2000, 32000, 1, false⟩]⟩, ⟨0x10, 0x0, 0x0, 0x0, 0x0, 0x0, 0x0, []⟩, ⟨0x18, 0x0, 0x0, 0x0, 0x0, 0x0, 0x0, []⟩, ⟨0x20, 0x0, 0x0, 0x0, 0x0, 0x0, 0x0, []⟩, ⟨0x28, 0x0, 0x0, 0x0, 0x0, 0x0, 0x0, []⟩, ⟨0x30, 0x0, 0x0, 0x0, 0x0, 0x0, 0x0, []⟩, ⟨0x38, 0x0, 0x0, 0x0, 0x0, 0x0, 0x0, []⟩, ⟨0x40, 0x0, 0x0, 0x0, 0x0, 0x0, 0x0, []⟩, ⟨0x48, 0x0, 0x0, 0x0, 0x0, 0x0, 0x0, []⟩, ⟨0x50, 0x0, 0x0, 0x0, 0x0, 0x0, 0xFFFFFFFFFFFF, []⟩, ⟨0x60, 0x0, 0x0, 0x0, 0x0, 0x0, 0xFFFFFFFFFFFF0000, [⟨63, 32, 0, 999999999, 1, false⟩]⟩]⟩
  , ⟨.scCell, 0x1110000, [(0x800, 2048)], [⟨0x70, 0x0, 0x0, 0x0, 0x0, 0x0, 0xFFFFFFFFFFFF, []⟩, ⟨0x80, 0x0, 0x0, 0x0, 0x0, 0x0, 0xFFFFFFFFFFFF0000, [⟨63, 32, 0, 999999999, 1, false⟩]⟩, ⟨0x90, 0x100000000, 0x0, 0x0, 0x0, 0x0, 0xFFFFFFFFFFFFFFFF, []⟩, ⟨0xA0, 0x0, 0x0, 0x0, 0x0, 0x0, 0xFFFF00F3, []⟩, ⟨0xB0, 0x0, 0x0, 0x0, 0x0, 0x0, 0x0, []⟩, ⟨0xB8, 0x0, 0x0, 0x0, 0x0, 0x0, 0x0, []⟩, ⟨0xC0, 0x0, 0x0, 0x0, 0x0, 0x0, 0x0, []⟩, ⟨0xC8, 0x904E5DFEF8, 0xFFFFFFFFFF, 0x0, 0x0, 0x0, 0x0, []⟩, ⟨0xD0, 0x0, 0x0, 0x0, 0x0, 0x0, 0x0, []⟩, ⟨0xD8, 0x0, 0x0, 0x0, 0x0, 0x0, 0x0, []⟩, ⟨0xE0, 0x0, 0x0, 0x0, 0x0, 0x0, 0x0, []⟩, ⟨0xE8, 0x0, 0x0, 0x0, 0x0, 0x0, 0x0, []⟩]⟩
  , ⟨.scCell, 0x1110000, [(0x800, 2048)], [⟨0xF0, 0x0, 0x0, 0x0, 0x0, 0x0, 0x0, []⟩, ⟨0xF8, 0x0, 0x0, 0x0, 0x0, 0x0, 0x0, []⟩, ⟨0x100, 0x0, 0x0, 0x3F, 0x0, 0x0, 0x0, []⟩]⟩
  , ⟨.scCell, 0x1110400, [(0x800, 2048), (0x40, 16)], [⟨0x0, 0x0, 0x0, 0x0, 0x0, 0x0, 0x0, []⟩, ⟨0x8, 0x0, 0x0, 0x0, 0x0, 0x0, 0x0, []⟩, ⟨0x10, 0x0, 0x0, 0x0, 0x0, 0x0, 0x0, []⟩, ⟨0x18, 0x0, 0x0, 0x0, 0x0, 0x0, 0x0, []⟩, ⟨0x20, 0x0, 0x0, 0x0, 0x0, 0x0, 0x0, []⟩, ⟨0x28, 0x0, 0x0, 0x0, 0x0, 0x0, 0x0, []⟩]⟩ ]

/-- Register groups of FD. -/
def groupsFD : List RegGroup :=
  [ ⟨.plain, 0x10B00000, [(0x1000000, 8)], [⟨0x0, 0xB799B798000E, 0xFFFFFFFF000F, 0x0, 0x0, 0x0, 0x0, []⟩, ⟨0x8, 0x0, 0xFFFFFFFFFFFFFFFF, 0x0, 0x0, 0x0, 0x0, []⟩, ⟨0x10, 0x0, 0xFFFFFFFFFFFFFFFF, 0x0, 0x0, 0x0, 0x0, []⟩, ⟨0x18, 0x0, 0xFFFFFFFF, 0x0, 0x0, 0x0, 0x0, []⟩, ⟨0x20, 0x0, 0xFFFFFFFFFFFF, 0x0, 0x0, 0x0, 0x0, []⟩, ⟨0x40, 0x0, 0x0, 0x0, 0x0, 0x0, 0x0, []⟩, ⟨0x48, 0x0, 0x0, 0x0, 0x0, 0x0, 0x0, []⟩, ⟨0x50, 0x0, 0x0, 0x0, 0x0, 0x0, 0x0, []⟩, ⟨0x58, 0x0, 0x0, 0x0, 0x0, 0x0, 0x0, []⟩, ⟨0x60, 0x0, 0x0, 0x0, 0x0, 0x0, 0x0, []⟩, ⟨0x68, 0x0, 0x0, 0x0, 0x0, 0x0, 0x0, []⟩, ⟨0x70, 0x0, 0x0, 0x0, 0x0, 0x0, 0x0, []⟩]⟩
  , ⟨.plain, 0x10B00000, [(0x1000000, 8)], [⟨0x78, 0x0, 0x0, 0x0, 0x0, 0x0, 0x0, []⟩, ⟨0x80, 0x0, 0x0, 0x0, 0x0, 0x0, 0x0, []⟩, ⟨0x88, 0x0, 0x0, 0x0, 0x0, 0x0, 0x0, []⟩, ⟨0x90, 0x0, 0x0, 0x0, 0x0, 0x0, 0x0, []⟩, ⟨0x98, 0x0, 0x0, 0x0, 0x0, 0x0, 0x0, []⟩, ⟨0xA0, 0x0, 0x0, 0x0, 0x0, 0x0, 0x0, []⟩]⟩
  , ⟨.plain, 0x10B10000, [(0x1000000, 8), (0x40, 512)], [⟨0x0, 0x1F403E80000002, 0xFFFFFFFFFFF000F, 0x0, 0x0, 0x0, 0x0, [⟨59, 40, 1000, 1000000, 1, false⟩, ⟨39, 28, 1, 4095, 1, false⟩]⟩, ⟨0x8, 0x0, 0xFFFFFFFFFFFFFFFF, 0x0, 0x0, 0x0, 0x0, []⟩, ⟨0x10, 0x0, 0xFFFFFFFFFFFFFFFF, 0x0, 0x0, 0x0, 0x0, []⟩, ⟨0x18, 0xB799, 0xFFFFFFFF, 0x0, 0x0, 0x0, 0x0, []⟩, ⟨0x20, 0x0, 0xFFFFFFFFFFFF, 0x0, 0x0, 0x0, 0x0, []⟩, ⟨0x28, 0x0, 0x0, 0x0, 0x0, 0x0, 0x0, []⟩]⟩ ]

/-- Register groups of HM. -/
def groupsHM : List RegGroup :=
  [ ⟨.plain, 0x18000000, [], [⟨0x0, 0x200000, 0x0, 0x0, 0x0, 0x0, 0x0, []⟩, ⟨0x8, 0x505A, 0xFFFF, 0x0, 0x0, 0x0, 0x0, []⟩, ⟨0x10, 0x0, 0x0, 0x0, 0x0, 0x0, 0x0, []⟩, ⟨0x18, 0x0, 0x3FFFF, 0x0, 0x0, 0x0, 0x0, []⟩, ⟨0x20, 0x0, 0x0, 0x0, 0x0, 0x7, 0x0, []⟩, ⟨0x40, 0x5DC003000000, 0xE000FFFFFFFFF000, 0x0, 0x0, 0x0, 0x0, []⟩, ⟨0x48, 0x186A0, 0xFFFFFFFFFFFFFFFF, 0x0, 0x0, 0x0, 0x0, []⟩, ⟨0x50, 0x7D000000000, 0xFFFFFFFF003FFFFF, 0x0, 0x0, 0x0, 0x0, []⟩, ⟨0x58, 0x0, 0x0, 0x0, 0x0, 0x0, 0x0, []⟩, ⟨0x60, 0x0, 0x0, 0x0, 0x0, 0x0, 0x0, []⟩, ⟨0x68, 0x0, 0x0, 0x0, 0x0, 0x0, 0x0, []⟩, ⟨0x70, 0x0, 0x0, 0x0, 0x0, 0x0, 0x0, []⟩]⟩
  , ⟨.plain, 0x18000000, [], [⟨0x78, 0x0, 0x0, 0x0, 0x0, 0x0, 0x0, []⟩, ⟨0x80, 0x0, 0x0, 0x0, 0x0, 0x0, 0x0, []⟩, ⟨0x88, 0x0, 0x0, 0x0, 0x0, 0x0, 0x0, []⟩, ⟨0x90, 0x0, 0x0, 0x0, 0x0, 0x0, 0x0, []⟩, ⟨0x98, 0x0, 0x0, 0x0, 0x0, 0x0, 0x0, []⟩, ⟨0xA0, 0x0, 0x0, 0x0, 0x0, 0x0, 0x0, []⟩, ⟨0xA8, 0x0, 0x0, 0x0, 0x0, 0x0, 0x0, []⟩, ⟨0xB0, 0x0, 0x0, 0x0, 0x0, 0x0, 0x0, []⟩, ⟨0xB8, 0x0, 0x0, 0x0, 0x0, 0x0, 0x0, []⟩]⟩
  , ⟨.portM, 0x18010000, [(0x40, 512)], [⟨0x0, 0x0, 0x0, 0x0, 0x0, 0x0, 0x0, []⟩, ⟨0x8, 0x0, 0x0, 0x0, 0x0, 0x0, 0x0, []⟩, ⟨0x10, 0x0, 0x0, 0x0, 0x0, 0x0, 0x0, []⟩, ⟨0x18, 0x0, 0x0, 0x0, 0x0, 0x0, 0x0, []⟩, ⟨0x20, 0x0, 0x3FFFFF, 0x0, 0x0, 0x0, 0x0, []⟩, ⟨0x28, 0x0, 0x0, 0x0, 0x0, 0x0, 0x0, []⟩, ⟨0x30, 0x0, 0x0, 0x0, 0x0, 0x0, 0x0, []⟩, ⟨0x38, 0x0, 0x0, 0x0, 0x0, 0x0, 0x0, []⟩]⟩ ]

/-- Register groups of LN. -/
def groupsLN : List RegGroup :=
  [ ⟨.plain, 0x10400000, [(0x1000000, 8)], [⟨0x0, 0x0, 0x0, 0x0, 0x0, 0x0, 0x0, []⟩, ⟨0x8, 0x0, 0xFFF, 0x0, 0x0, 0x0, 0x0, []⟩, ⟨0x10, 0x0, 0x0, 0x0, 0x0, 0x3, 0x0, []⟩, ⟨0x20, 0x0, 0xFFFFFFFFFFFFFFFF, 0x0, 0x0, 0x0, 0x0, []⟩, ⟨0x28, 0x0, 0xFFFFFFFFFFFFFFFF, 0x0, 0x0, 0x0, 0x0, []⟩, ⟨0x30, 0x0, 0xFFFFFFFFFFFFFFFF, 0x0, 0x0, 0x0, 0x0, []⟩, ⟨0x38, 0x0, 0xFFFFFFFFFFFFFFFF, 0x0, 0x0, 0x0, 0x0, []⟩]⟩
  , ⟨.port, 0x10410000, [(0x1000000, 8), (0x100, 64)], [⟨0x0, 0x0, 0xFFFF00000001, 0x0, 0x0, 0x0, 0x0, []⟩, ⟨0x8, 0x0, 0x0, 0x0, 0x0, 0x0, 0x0, []⟩, ⟨0x10, 0x0, 0x0, 0x0, 0x0, 0x0, 0x0, []⟩, ⟨0x18, 0x0, 0x0, 0x0, 0x0, 0x0, 0x0, []⟩, ⟨0x20, 0x0, 0x0, 0x0, 0x0, 0x0, 0x0, []⟩, ⟨0x28, 0x0, 0x0, 0x0, 0x0, 0x0, 0x0, []⟩, ⟨0x30, 0x0, 0x0, 0x0, 0x0, 0x0, 0x0, []⟩, ⟨0x38, 0x0, 0xFFFFFFFF, 0x0, 0x0, 0x0, 0x0, []⟩, ⟨0x40, 0x0, 0x0, 0x0, 0x0, 0x0, 0x0, []⟩, ⟨0x48, 0x0, 0x0, 0x0, 0x0, 0x0, 0x0, []⟩, ⟨0x50, 0x0, 0x0, 0x0, 0x0, 0x0, 0x0, []⟩, ⟨0x58, 0x0, 0x0, 0x1F, 0x0, 0x0, 0x0, []⟩]⟩
  , ⟨.port, 0x10410000, [(0x1000000, 8), (0x100, 64)], [⟨0x60, 0x0, 0x0, 0x0, 0x0, 0x0, 0x0, []⟩]⟩ ]

/-- Register groups of GC. -/
def groupsGC : List RegGroup :=
  [ ⟨.plain, 0x10500000, [(0x1000000, 8)], [⟨0x0, 0x7D000001000, 0x0, 0x0, 0x0, 0x0, 0x0, []⟩]⟩
  , ⟨.port, 0x10510000, [(0x1000000, 8), (0x200, 64)], [⟨0x0, 0x80000, 0xFFFF0001, 0x0, 0x0, 0x0, 0x0, []⟩, ⟨0x10, 0x0, 0x0, 0x0, 0x0, 0x0, 0xFFFFFFFFFFFF, []⟩, ⟨0x20, 0x0, 0x0, 0x0, 0x0, 0x0, 0xFFFFFFFF00000000, [⟨63, 32, 0, 999999999, 1, false⟩]⟩, ⟨0x30, 0xF4240, 0x0, 0x0, 0x0, 0x0, 0xFFFFFFFF, []⟩, ⟨0x40, 0x0, 0x0, 0x0, 0x0, 0x0, 0xFFFFFFFF, []⟩, ⟨0x50, 0x0, 0x0, 0x0, 0x0, 0x0, 0x1FFF, []⟩, ⟨0x60, 0x0, 0x31FFF, 0x0, 0x0, 0x0, 0x0, [⟨17, 16, 0, 2, 1, false⟩]⟩, ⟨0x70, 0x0, 0x0, 0x0, 0x0, 0x0, 0xFFFFFFFFFFFFFFFF, []⟩, ⟨0x80, 0x0, 0x0, 0x0, 0x0, 0x0, 0xFFFF0003, []⟩, ⟨0x90, 0x0, 0x0, 0x0, 0x0, 0x0, 0x0, []⟩, ⟨0xA0, 0x0, 0x0, 0x0, 0x0, 0x0, 0x0, []⟩, ⟨0xA8, 0x0, 0x0, 0x0, 0x0, 0x0, 0x0, []⟩]⟩
  , ⟨.port, 0x10510000, [(0x1000000, 8), (0x200, 64)], [⟨0xB0, 0x0, 0x0, 0x0, 0x0, 0x0, 0x0, []⟩, ⟨0xB8, 0x0, 0x0, 0x0, 0x0, 0x0, 0x0, []⟩, ⟨0xC0, 0x0, 0x0, 0x0, 0x0, 0x0, 0x0, []⟩, ⟨0xC8, 0x0, 0x0, 0x0, 0x0, 0x0, 0x0, []⟩, ⟨0xD0, 0x0, 0x0, 0x0, 0x0, 0x0, 0x0, []⟩, ⟨0xD8, 0xFF, 0x0, 0x0, 0x0, 0x0, 0x0, []⟩, ⟨0xE0, 0x0, 0x0, 0x1F, 0x0, 0x0, 0x0, []⟩, ⟨0xE8, 0x0, 0x0, 0x0, 0x0, 0x0, 0x0, []⟩, ⟨0xF0, 0x0, 0x0, 0x0, 0x0, 0x0, 0x0, []⟩]⟩
  , ⟨.port, 0x10510100, [(0x1000000, 8), (0x200, 64), (0x20, 8)], [⟨0x0, 0x0, 0xFFFF, 0x0, 0x0, 0x0, 0x0, [⟨15, 0, 64, 16000, 1, true⟩]⟩, ⟨0x8, 0x8000000000000000, 0x0, 0x0, 0x0, 0x0, 0x0, []⟩, ⟨0x10, 0x0, 0x0, 0x0, 0x0, 0x0, 0x0, []⟩, ⟨0x18, 0x0, 0x0, 0x0, 0x0, 0x0, 0x0, []⟩]⟩ ]

/-- Register groups of PE. -/
def groupsPE : List RegGroup :=
  [ ⟨.port, 0x10610000, [(0x1000000, 8), (0x100, 64)], [⟨0x0, 0xA000000, 0xFFFF006F, 0x0, 0x0, 0x0, 0x0, [⟨31, 24, 1, 128, 1, false⟩]⟩, ⟨0x8, 0x0, 0x0, 0x0, 0x0, 0x0, 0x0, []⟩, ⟨0x10, 0x1E, 0xFFF, 0x0, 0x0, 0x0, 0x0, [⟨11, 0, 1, 3600, 1, false⟩]⟩, ⟨0x18, 0x0, 0x0, 0x0, 0x0, 0x0, 0x0, []⟩, ⟨0x20, 0x0, 0x0, 0x0, 0x0, 0x0, 0x0, []⟩, ⟨0x28, 0x0, 0x0, 0x0, 0x0, 0x0, 0x0, []⟩, ⟨0x30, 0x0, 0x0, 0x0, 0x0, 0x0, 0x0, []⟩, ⟨0x38, 0x0, 0x0, 0x0, 0x0, 0x0, 0x0, []⟩, ⟨0x40, 0x0, 0x0, 0x0, 0x0, 0x0, 0x0, []⟩, ⟨0x48, 0x0, 0x0, 0x0, 0x0, 0x0, 0x0, []⟩, ⟨0x50, 0x0, 0x0, 0x0, 0x0, 0x0, 0x0, []⟩, ⟨0x58, 0x0, 0x0, 0x7, 0x0, 0x0, 0x0, []⟩]⟩
  , ⟨.port, 0x10610000, [(0x1000000, 8), (0x100, 64)], [⟨0x60, 0x0, 0x0, 0x0, 0x0, 0x1, 0x0, []⟩]⟩ ]

/-- Register groups of SH. -/
def groupsSH : List RegGroup :=
  [ ⟨.plain, 0x10700000, [(0x1000000, 8)], [⟨0x0, 0x10000040, 0x0, 0x0, 0x0, 0x0, 0x0, []⟩, ⟨0x8, 0x0, 0x0, 0x0, 0x0, 0x0, 0x0, []⟩, ⟨0x10, 0x0, 0x0, 0x0, 0x0, 0x0, 0x0, []⟩, ⟨0x18, 0x0, 0x0, 0x0, 0x0, 0x0, 0x0, []⟩]⟩
  , ⟨.port, 0x10710000, [(0x1000000, 8), (0x1000, 64)], [⟨0x0, 0x6400000700, 0x3FF00FF0701, 0x0, 0x0, 0x0, 0x0, [⟨41, 32, 1, 1000, 1, false⟩]⟩, ⟨0x8, 0x0, 0x0, 0x0, 0x0, 0x0, 0x0, []⟩, ⟨0x10, 0x0, 0x0, 0x0, 0x0, 0x0, 0x0, []⟩]⟩
  , ⟨.port, 0x10710100, [(0x1000000, 8), (0x1000, 64), (0x40, 8)], [⟨0x0, 0x0, 0x3F0000000003, 0x0, 0x0, 0x0, 0x0, [⟨1, 0, 0, 2, 1, false⟩]⟩, ⟨0x8, 0x0, 0xFFFFFFFF, 0x0, 0x0, 0x0, 0x0, []⟩, ⟨0x10, 0x0, 0x0, 0x0, 0x0, 0x0, 0x0, []⟩, ⟨0x18, 0xFFFFFFFFFFFFFFFF, 0xFFFFFFFFFFFFFFFF, 0x0, 0x0, 0x0, 0x0, []⟩, ⟨0x20, 0x0, 0x0, 0x0, 0x0, 0x0, 0x0, []⟩, ⟨0x28, 0x0, 0x0, 0x0, 0x0, 0x0, 0x0, []⟩]⟩
  , ⟨.port, 0x10710400, [(0x1000000, 8), (0x1000, 64), (0x20, 64)], [⟨0x0, 0x1, 0x8700FFFF000000FF, 0x0, 0x0, 0x0, 0x0, [⟨7, 0, 1, 255, 1, false⟩]⟩, ⟨0x8, 0x0, 0x0, 0x0, 0x0, 0x0, 0x0, []⟩, ⟨0x10, 0x0, 0x0, 0x0, 0x0, 0x0, 0x0, []⟩, ⟨0x18, 0x0, 0x0, 0x0, 0x0, 0x0, 0x0, []⟩]⟩ ]

/-- Register groups of CL. -/
def groupsCL : List RegGroup :=
  [ ⟨.plain, 0x10800000, [(0x1000000, 8)], [⟨0x0, 0x10000000, 0x0, 0x0, 0x0, 0x0, 0x0, []⟩, ⟨0x8, 0x0, 0xE7FF3FFF, 0x0, 0x0, 0x0, 0x0, [⟨31, 30, 0, 2, 1, false⟩]⟩, ⟨0x10, 0x0, 0x0, 0x0, 0x0, 0x0, 0xFFFFFFFFFFFFFFFF, []⟩, ⟨0x20, 0x0, 0x0, 0x0, 0x0, 0x0, 0xFFFFFFFFFFFFFFFF, []⟩, ⟨0x30, 0xF4240, 0x0, 0x0, 0x0, 0x0, 0x1FF07FFFFFF, []⟩, ⟨0x40, 0x1, 0x0, 0x0, 0x0, 0x0, 0x7F, []⟩, ⟨0x50, 0x0, 0x0, 0x0, 0x0, 0x0, 0xFFFF1FFF, []⟩, ⟨0x60, 0x0, 0x0, 0x0, 0x0, 0x0, 0x0, []⟩, ⟨0x68, 0x0, 0x0, 0x0, 0x0, 0x0, 0x0, []⟩, ⟨0x70, 0x0, 0x0, 0x0, 0x0, 0x0, 0x0, []⟩, ⟨0x78, 0x0, 0x7FFF, 0x0, 0x0, 0x0, 0x0, []⟩, ⟨0x80, 0x0, 0xFFE0F00007FFFFFF, 0x0, 0x0, 0x0, 0x0, []⟩]⟩
  , ⟨.plain, 0x10800000, [(0x1000000, 8)], [⟨0x88, 0x0, 0x0, 0x0, 0x0, 0x0, 0x0, []⟩, ⟨0x90, 0x0, 0x3FFF, 0x0, 0x0, 0x0, 0x0, []⟩, ⟨0x98, 0x0, 0xFFFFFFFF00000000, 0x0, 0x0, 0x0, 0x0, []⟩, ⟨0xA0, 0x0, 0x0, 0x0, 0x0, 0x0, 0x0, []⟩]⟩
  , ⟨.clCell, 0x10810000, [(0x1000000, 8), (0x100, 2048)], [⟨0x0, 0x3E800FA0000, 0xFFFFFFFF0083, 0x0, 0x0, 0x0, 0x0, [⟨47, 32, 800, 65535, 1, false⟩]⟩, ⟨0x8, 0x32, 0xFFFFFFFF, 0x0, 0x0, 0x0, 0x0, [⟨15, 0, 1, 65535, 1, false⟩]⟩, ⟨0x10, 0x7D007D000271040, 0xFFFFFFFFFFFFFFFF, 0x0, 0x0, 0x0, 0x0, [⟨63, 48, 100, 65535, 1, false⟩, ⟨47, 32, 800, 65535, 1, false⟩, ⟨7, 4, 1, 15, 1, false⟩, ⟨3, 0, 0, 8, 1, false⟩]⟩, ⟨0x18, 0x0, 0xFFFFFFFFFFFFFFFF, 0x0, 0x0, 0x0, 0x0, []⟩, ⟨0x20, 0x0, 0xFFFFFFFFFFFFFFFF, 0x0, 0x0, 0x0, 0x0, []⟩, ⟨0x28, 0x0, 0x0, 0x0, 0x0, 0x0, 0xFFFFFFFFFFFF, []⟩, ⟨0x38, 0x0, 0x0, 0x0, 0x0, 0x0, 0xFFFFFFFF00000000, [⟨63, 32, 0, 999999999, 1, false⟩]⟩, ⟨0x48, 0x0, 0x0, 0x0, 0x0, 0x0, 0x0, []⟩, ⟨0x50, 0x0, 0x0, 0x0, 0x0, 0x0, 0x0, []⟩, ⟨0x58, 0x0, 0x0, 0x0, 0x0, 0x0, 0x0, []⟩, ⟨0x60, 0x0, 0x0, 0x0, 0x0, 0x0, 0x0, []⟩, ⟨0x68, 0x0, 0x0, 0x0, 0x0, 0x0, 0x0, []⟩]⟩
  , ⟨.clCell, 0x10810000, [(0x1000000, 8), (0x100, 2048)], [⟨0x70, 0x0, 0x0, 0x0, 0x0, 0x0, 0x0, []⟩, ⟨0x78, 0x0, 0x0, 0x0, 0x0, 0x0, 0x0, []⟩, ⟨0x80, 0x0, 0x0, 0x0, 0x0, 0x0, 0x0, []⟩, ⟨0x88, 0x0, 0x0, 0x0, 0x0, 0x0, 0x0, []⟩, ⟨0x90, 0x0, 0x0, 0x3F, 0x0, 0x0, 0x0, []⟩]⟩ ]

/-- Register groups of GD. -/
def groupsGD : List RegGroup :=
  [ ⟨.plain, 0x10900000, [(0x1000000, 8)], [⟨0x0, 0x0, 0x7FFF, 0x0, 0x0, 0x0, 0x0, []⟩, ⟨0x8, 0x0, 0x0, 0x0, 0x0, 0x0, 0x0, []⟩, ⟨0x10, 0x0, 0x0, 0x0, 0x0, 0x0, 0x0, []⟩, ⟨0x18, 0x0, 0x0, 0x0, 0x0, 0x0, 0x0, []⟩, ⟨0x20, 0x0, 0x0, 0x0, 0x0, 0x1, 0x0, []⟩]⟩
  , ⟨.gdPort, 0x10910000, [(0x1000000, 8), (0x100, 64)], [⟨0x0, 0x0, 0x1, 0x0, 0x0, 0x0, 0x0, []⟩, ⟨0x8, 0x0, 0x0, 0x0, 0x0, 0x0, 0x0, []⟩, ⟨0x10, 0x0, 0x0, 0x0, 0x0, 0x0, 0x0, []⟩, ⟨0x18, 0x0, 0x0, 0x0, 0x0, 0x0, 0x0, []⟩, ⟨0x20, 0x0, 0x0, 0x0, 0x0, 0x0, 0x0, []⟩, ⟨0x28, 0x0, 0x0, 0x0, 0x0, 0x0, 0x0, []⟩, ⟨0x30, 0x0, 0x0, 0x0, 0x0, 0x0, 0x0, []⟩, ⟨0x38, 0x0, 0x0, 0x0, 0x0, 0x0, 0x0, []⟩, ⟨0x40, 0x0, 0x0, 0x0, 0x0, 0x0, 0x0, []⟩, ⟨0x48, 0x0, 0x0, 0x7, 0x0, 0x0, 0x0, []⟩, ⟨0x50, 0x0, 0x0, 0x0, 0x0, 0x0, 0x0, []⟩, ⟨0x58, 0x0, 0x0, 0x0, 0x0, 0x0, 0x0, []⟩]⟩
  , ⟨.gdPort, 0x10910000, [(0x1000000, 8), (0x100, 64)], [⟨0x60, 0x0, 0x0, 0x0, 0x0, 0x0, 0x0, []⟩]⟩ ]

/-- Register groups of PR. -/
def groupsPR : List RegGroup :=
  [ ⟨.plain, 0x10100000, [(0x1000000, 8)], [⟨0x0, 0x17C112B591000F00, 0xFFFFFFFFFFFF0FFF, 0x0, 0x0, 0x0, 0x0, [⟨8, 0, 64, 256, 16, false⟩]⟩, ⟨0x8, 0xC35000000000, 0xFFFFF0000FF01, 0x0, 0x0, 0x0, 0x0, [⟨51, 32, 0, 1000000, 1, false⟩]⟩, ⟨0x10, 0x0, 0x0, 0x0, 0x0, 0x0, 0x0, []⟩, ⟨0x18, 0x0, 0x0, 0x0, 0x0, 0x0, 0x0, []⟩, ⟨0x20, 0x0, 0x0, 0x0, 0x0, 0x0, 0x0, []⟩, ⟨0x28, 0x0, 0x0, 0x0, 0x0, 0x0, 0x0, []⟩, ⟨0x30, 0x0, 0x0, 0x0, 0x0, 0x0, 0x0, []⟩, ⟨0x38, 0x0, 0x0, 0x0, 0x0, 0x0, 0x0, []⟩]⟩ ]

/-- Register groups of CF. -/
def groupsCF : List RegGroup :=
  [ ⟨.plain, 0x10200040, [(0x1000000, 8), (0x8, 8)], [⟨0x0, 0x0, 0x0, 0x0, 0x0, 0x0, 0x0, []⟩]⟩
  , ⟨.plain, 0x10200100, [(0x1000000, 8), (0x8, 10)], [⟨0x0, 0x0, 0xFFFFFFFFFFFFFFFF, 0x0, 0x0, 0x0, 0x0, []⟩]⟩
  , ⟨.plain, 0x10200180, [(0x1000000, 8), (0x8, 10)], [⟨0x0, 0x0, 0xFFFFFFFFFFFFFFFF, 0x0, 0x0, 0x0, 0x0, []⟩]⟩
  , ⟨.plain, 0x10200000, [(0x1000000, 8)], [⟨0x0, 0x10000, 0x0, 0x0, 0x0, 0x0, 0x0, []⟩, ⟨0x8, 0x0, 0x0, 0x0, 0x0, 0x0, 0x0, []⟩, ⟨0x80, 0x0, 0xFFFF, 0x0, 0x0, 0x0, 0x0, []⟩, ⟨0x88, 0x0, 0x0, 0x0, 0x0, 0x7, 0x0, []⟩, ⟨0x90, 0x0, 0xFFFFFFFFFFFFFFFF, 0x0, 0x0, 0x0, 0x0, []⟩, ⟨0x98, 0x0, 0x0, 0x0, 0x0, 0x0, 0x0, []⟩, ⟨0xA0, 0x0, 0x0, 0x0, 0x0, 0x0, 0x0, []⟩]⟩
  , ⟨.port, 0x10210020, [(0x1000000, 8), (0x100, 64), (0x8, 8)], [⟨0x0, 0x0, 0x0, 0x0, 0x0, 0x0, 0x0, []⟩]⟩
  , ⟨.port, 0x10210000, [(0x1000000, 8), (0x100, 64)], [⟨0x0, 0x0, 0xFFFFFFE000000077, 0x0, 0x0, 0x0, 0x0, []⟩, ⟨0x8, 0xFAC688, 0xFFFFFF, 0x0, 0x0, 0x0, 0x0, []⟩, ⟨0x10, 0x154, 0xFFFF, 0x0, 0x0, 0x0, 0x0, []⟩]⟩ ]

/-- Register groups of ST. -/
def groupsST : List RegGroup :=
  [ ⟨.plain, 0x10300018, [(0x1000000, 8), (0x8, 4)], [⟨0x0, 0x0, 0xFFFFFFFFFFFFFFFF, 0x0, 0x0, 0x0, 0x0, []⟩]⟩
  , ⟨.plain, 0x10300080, [(0x1000000, 8), (0x8, 6)], [⟨0x0, 0x0, 0x0, 0x0, 0x0, 0x0, 0x0, []⟩]⟩
  , ⟨.plain, 0x10300110, [(0x1000000, 8), (0x8, 8)], [⟨0x0, 0x0, 0xFFFFFFFFFFFFFFFF, 0x0, 0x0, 0x0, 0x0, []⟩]⟩
  , ⟨.plain, 0x10300000, [(0x1000000, 8)], [⟨0x0, 0x40000, 0x0, 0x0, 0x0, 0x0, 0x0, []⟩, ⟨0x8, 0x7D0, 0xFFFFFFFF, 0x0, 0x0, 0x0, 0x0, [⟨31, 0, 1000, 100000, 1, false⟩]⟩, ⟨0x10, 0x0, 0x3FFFF, 0x0, 0x0, 0x0, 0x0, []⟩, ⟨0x38, 0x0, 0x0, 0x0, 0x0, 0xFFFF0007, 0x0, []⟩, ⟨0x40, 0x0, 0x0, 0x0, 0x0, 0x0, 0x0, []⟩, ⟨0x48, 0x0, 0x0, 0x0, 0x0, 0x0, 0x0, []⟩, ⟨0x50, 0x0, 0x0, 0x0, 0x0, 0x0, 0x0, []⟩, ⟨0x58, 0x0, 0x0, 0x0, 0x0, 0x0, 0x0, []⟩, ⟨0x60, 0x0, 0x0, 0x0, 0x0, 0x0, 0x0, []⟩, ⟨0x100, 0x0, 0xFFF, 0x0, 0x0, 0x0, 0x0, []⟩, ⟨0x108, 0x0, 0x0, 0x0, 0x0, 0x3, 0x0, []⟩, ⟨0x200, 0x0, 0xE03FFFFFF, 0x0, 0x0, 0x0, 0x0, [⟨35, 34, 0, 2, 1, false⟩]⟩]⟩
  , ⟨.plain, 0x10300000, [(0x1000000, 8)], [⟨0x208, 0x2, 0xFF, 0x0, 0x0, 0x0, 0x0, []⟩, ⟨0x210, 0x0, 0x0, 0x0, 0x0, 0x0, 0xFFFFFFFFFFFF, []⟩, ⟨0x220, 0x0, 0x0, 0x0, 0x0, 0x0, 0xFFFFFFFF00000000, [⟨63, 32, 0, 999999999, 1, false⟩]⟩, ⟨0x230, 0xF4240, 0x0, 0x0, 0x0, 0x0, 0xFFFFFFFF, []⟩, ⟨0x240, 0x0, 0x0, 0x0, 0x0, 0x0, 0xFFFFFFFF, []⟩, ⟨0x250, 0x0, 0x0, 0x0, 0x0, 0x0, 0x7FF, []⟩, ⟨0x260, 0x0, 0x0, 0x0, 0x0, 0x0, 0xFFFFFFFFFFFFFFFF, []⟩, ⟨0x270, 0x0, 0x0, 0x0, 0x0, 0x0, 0xFFFF0003, []⟩, ⟨0x280, 0x0, 0x0, 0x0, 0x0, 0x0, 0x0, []⟩, ⟨0x288, 0x100000000, 0x0, 0x0, 0x0, 0x0, 0x0, []⟩, ⟨0x290, 0x0, 0x0, 0x0, 0x0, 0x0, 0x0, []⟩, ⟨0x298, 0x0, 0x0, 0x0, 0x0, 0x0, 0x0, []⟩]⟩
  , ⟨.plain, 0x10300000, [(0x1000000, 8)], [⟨0x2A0, 0x0, 0x0, 0x0, 0x0, 0x0, 0x0, []⟩, ⟨0x300, 0x0, 0xFFFF, 0x0, 0x0, 0x0, 0x0, []⟩, ⟨0x308, 0x0, 0x0, 0x0, 0x0, 0x3, 0x0, []⟩, ⟨0x310, 0x0, 0xFFFFFFFFFFFFFFFF, 0x0, 0x0, 0x0, 0x0, []⟩, ⟨0x318, 0x0, 0xFFFFFFFFFFFFFFFF, 0x0, 0x0, 0x0, 0x0, []⟩, ⟨0x320, 0x0, 0x1E, 0x0, 0x0, 0x0, 0x0, []⟩]⟩ ]

/-- Register groups of FR. -/
def groupsFR : List RegGroup :=
  [ ⟨.plain, 0x10A00000, [(0x1000000, 8)], [⟨0x0, 0x1000000010000, 0x0, 0x0, 0x0, 0x0, 0x0, []⟩, ⟨0x8, 0x0, 0xFFFF, 0x0, 0x0, 0x0, 0x0, []⟩, ⟨0x10, 0x0, 0x0, 0x0, 0x0, 0x3, 0x0, []⟩, ⟨0x18, 0x0, 0xC000000000000000, 0x0, 0x0, 0x0, 0x0, []⟩, ⟨0x20, 0x0, 0x0, 0x0, 0x0, 0x0, 0x0, []⟩, ⟨0x40, 0x0, 0xFFFF, 0x0, 0x0, 0x0, 0x0, []⟩, ⟨0x48, 0x0, 0x0, 0x0, 0x0, 0x7, 0x0, []⟩, ⟨0x50, 0x8006402000000, 0xF8FFFFFF0F000000, 0x0, 0x0, 0x0, 0x0, []⟩, ⟨0x58, 0x7D0001E, 0xFFFFFFFFFFFFFFFF, 0x0, 0x0, 0x0, 0x0, []⟩, ⟨0x60, 0x0, 0x0, 0x0, 0x0, 0x0, 0x0, []⟩, ⟨0x68, 0x0, 0x0, 0x0, 0x0, 0x0, 0x0, []⟩, ⟨0x70, 0x0, 0x0, 0x0, 0x0, 0x0, 0x0, []⟩]⟩
  , ⟨.plain, 0x10A00000, [(0x1000000, 8)], [⟨0x78, 0x0, 0x0, 0x0, 0x0, 0x0, 0x0, []⟩, ⟨0x80, 0x0, 0x0, 0x0, 0x0, 0x0, 0x0, []⟩, ⟨0x88, 0x0, 0x0, 0x0, 0x0, 0x0, 0x0, []⟩, ⟨0x90, 0x0, 0x0, 0x0, 0x0, 0x0, 0x0, []⟩, ⟨0x98, 0x0, 0x0, 0x0, 0x0, 0x0, 0x0, []⟩, ⟨0xA0, 0x0, 0x0, 0x0, 0x0, 0x0, 0x0, []⟩, ⟨0x100, 0x0, 0x0, 0x3, 0x0, 0x0, 0x0, []⟩]⟩ ]

/-- Register groups of UP. -/
def groupsUP : List RegGroup :=
  [ ⟨.plain, 0x3000180, [(0x8, 8)], [⟨0x0, 0x0, 0x0, 0x0, 0x0, 0x0, 0x0, []⟩]⟩
  , ⟨.plain, 0x3000000, [], [⟨0x0, 0x88B5006406406432, 0xFFFFFFFFFFFFFFF3, 0x0, 0x0, 0x0, 0x0, [⟨47, 32, 1, 65535, 1, false⟩, ⟨31, 20, 1, 4095, 1, false⟩, ⟨19, 8, 1, 4095, 1, false⟩, ⟨7, 4, 1, 15, 1, false⟩]⟩, ⟨0x8, 0x8000, 0x0, 0x0, 0x0, 0x0, 0xFFFF, []⟩, ⟨0x18, 0x2710, 0xFFFFFFFF, 0x0, 0x0, 0x0, 0x0, [⟨31, 0, 0, 3600000, 1, false⟩]⟩, ⟨0x20, 0x0, 0xFFFFFFFFFFFFFFFF, 0x0, 0x0, 0x0, 0x0, []⟩, ⟨0x40, 0x1000, 0xFFFF, 0x0, 0x0, 0x0, 0x0, []⟩, ⟨0x48, 0x400, 0xFFFF, 0x0, 0x0, 0x0, 0x0, []⟩, ⟨0x50, 0x800, 0xFFFF, 0x0, 0x0, 0x0, 0x0, []⟩, ⟨0x58, 0x2000, 0xFFFF, 0x0, 0x0, 0x0, 0x0, []⟩, ⟨0x60, 0x10, 0xFFFF, 0x0, 0x0, 0x0, 0x0, []⟩, ⟨0x68, 0x100, 0xFFFF, 0x0, 0x0, 0x0, 0x0, []⟩, ⟨0x70, 0x200, 0xFFFF, 0x0, 0x0, 0x0, 0x0, []⟩, ⟨0x78, 0x400, 0xFFFF, 0x0, 0x0, 0x0, 0x0, []⟩]⟩
  , ⟨.plain, 0x3000000, [], [⟨0x80, 0x800, 0xFFFF, 0x0, 0x0, 0x0, 0x0, []⟩, ⟨0x88, 0x0, 0xFFFF, 0x0, 0x0, 0x0, 0x0, []⟩, ⟨0x90, 0x0, 0xFFFF, 0x0, 0x0, 0x0, 0x0, []⟩, ⟨0x98, 0x0, 0xFFFF, 0x0, 0x0, 0x0, 0x0, []⟩, ⟨0xA0, 0x0, 0xFFFF, 0x0, 0x0, 0x0, 0x0, []⟩, ⟨0xA8, 0x0, 0xFFFF, 0x0, 0x0, 0x0, 0x0, []⟩, ⟨0xB0, 0x0, 0xFFFF, 0x0, 0x0, 0x0, 0x0, []⟩, ⟨0xB8, 0x0, 0xFFFF, 0x0, 0x0, 0x0, 0x0, []⟩, ⟨0xC0, 0x0, 0x0, 0x0, 0x0, 0x0, 0x0, []⟩, ⟨0xC8, 0x8000000000008000, 0x0, 0x0, 0x0, 0x0, 0x0, []⟩, ⟨0xD0, 0x0, 0x0, 0x0, 0x0, 0x0, 0x0, []⟩, ⟨0xD8, 0x0, 0x0, 0x0, 0x0, 0x0, 0x0, []⟩]⟩
  , ⟨.plain, 0x3000000, [], [⟨0xE0, 0x0, 0x0, 0x0, 0x0, 0x0, 0x0, []⟩, ⟨0xE8, 0xFFFFFFFF, 0x0, 0x0, 0x0, 0x0, 0x0, []⟩, ⟨0xF0, 0x0, 0x0, 0x0, 0x0, 0x0, 0x0, []⟩, ⟨0xF8, 0x0, 0x0, 0x0, 0x0, 0x0, 0x0, []⟩, ⟨0x100, 0x0, 0x0, 0x0, 0x0, 0x0, 0x0, []⟩, ⟨0x108, 0x0, 0x0, 0x0, 0x0, 0x0, 0x0, []⟩, ⟨0x110, 0x0, 0x0, 0x0, 0x0, 0x0, 0x0, []⟩, ⟨0x118, 0x0, 0x0, 0x0, 0x0, 0x0, 0x0, []⟩, ⟨0x120, 0x0, 0x0, 0x0, 0x0, 0x0, 0x0, []⟩, ⟨0x128, 0x0, 0x0, 0x0, 0x0, 0x0, 0x0, []⟩, ⟨0x130, 0x0, 0x0, 0x0, 0x0, 0x0, 0x0, []⟩, ⟨0x138, 0x0, 0x0, 0x0, 0x0, 0x0, 0x0, []⟩]⟩
  , ⟨.plain, 0x3000000, [], [⟨0x140, 0x0, 0x0, 0x0, 0x0, 0x0, 0x0, []⟩, ⟨0x148, 0x0, 0x0, 0x0, 0x0, 0x0, 0x0, []⟩, ⟨0x150, 0x0, 0x0, 0x0, 0x0, 0x0, 0x0, []⟩, ⟨0x158, 0x0, 0x0, 0x3F, 0x0, 0x0, 0x0, []⟩, ⟨0x160, 0x0, 0x0, 0x0, 0x0, 0x1, 0x0, []⟩]⟩ ]

/-- Register groups of CP. -/
def groupsCP : List RegGroup :=
  [ ⟨.plain, 0x2400040, [(0x8, 8)], [⟨0x0, 0x0, 0x0, 0x0, 0x0, 0x0, 0x0, []⟩]⟩
  , ⟨.plain, 0x2400000, [], [⟨0x0, 0x0, 0x1, 0x0, 0x0, 0x0, 0x0, []⟩, ⟨0x10, 0x0, 0x0, 0x0, 0x0, 0x0, 0x0, []⟩]⟩
  , ⟨.profile, 0x2410000, [(0x80, 16)], [⟨0x0, 0x50003E8000000001, 0xFCFF3FFF000FFFFF, 0x0, 0x0, 0x0, 0x0, [⟨45, 32, 64, 16000, 64, false⟩, ⟨19, 0, 1, 1048575, 1, false⟩]⟩, ⟨0x8, 0x40B79800000000, 0xFFFFFFFFFFFF0000, 0x0, 0x0, 0x0, 0x0, []⟩, ⟨0x10, 0x0, 0xFFFFFFFF, 0x0, 0x0, 0x0, 0x0, []⟩, ⟨0x18, 0x0, 0xFFFFFFFFFFFFFFFF, 0x0, 0x0, 0x0, 0x0, []⟩, ⟨0x20, 0x0, 0xFFFFFFFFFFFFFFFF, 0x0, 0x0, 0x0, 0x0, []⟩, ⟨0x28, 0x0, 0xFFFFFFFFFFFF, 0x0, 0x0, 0x0, 0x0, []⟩, ⟨0x30, 0x0, 0x0, 0x0, 0x0, 0x0, 0x0, []⟩, ⟨0x38, 0x0, 0x0, 0x0, 0x0, 0x0, 0x0, []⟩, ⟨0x40, 0x0, 0x0, 0x0, 0x0, 0x0, 0x0, []⟩, ⟨0x48, 0x0, 0x0, 0x0, 0x0, 0x0, 0x0, []⟩]⟩
  , ⟨.plain, 0x2420000, [(0x20, 256)], [⟨0x0, 0x0, 0xFFFFFFFFFFF, 0x0, 0x0, 0x0, 0x0, [⟨43, 0, 0, 17592186044415, 64, false⟩]⟩, ⟨0x8, 0x14, 0x3F, 0x0, 0x0, 0x0, 0x0, [⟨5, 0, 16, 34, 1, false⟩]⟩, ⟨0x10, 0x0, 0x0, 0x0, 0x0, 0x0, 0x0, []⟩, ⟨0x18, 0x0, 0x0, 0x0, 0x0, 0x0, 0x0, []⟩]⟩
  , ⟨.portM, 0x2430000, [(0x8, 512)], [⟨0x0, 0x0, 0x1F, 0x0, 0x0, 0x0, 0x0, []⟩]⟩ ]

/-- Register groups of JR. -/
def groupsJR : List RegGroup :=
  [ ⟨.plain, 0x2300000, [], [⟨0x0, 0x400000, 0xFCFF03, 0x0, 0x0, 0x0, 0x0, []⟩, ⟨0x8, 0x0, 0x0, 0x0, 0x0, 0x0, 0x0, []⟩, ⟨0x10, 0x0, 0x0, 0x0, 0x0, 0x0, 0x0, []⟩, ⟨0x18, 0x0, 0x0, 0x0, 0x0, 0x0, 0x0, []⟩, ⟨0x20, 0x0, 0x0, 0x0, 0x0, 0x0, 0x0, []⟩, ⟨0x28, 0x0, 0x0, 0x0, 0x0, 0x0, 0x0, []⟩]⟩
  , ⟨.plain, 0x2310000, [(0x40, 1024)], [⟨0x0, 0x10000003E8, 0xFFFFFFFFFFFF, 0x0, 0x0, 0x0, 0x0, [⟨47, 32, 1, 65535, 1, false⟩, ⟨31, 0, 0, 1000000, 1, false⟩]⟩, ⟨0x8, 0x0, 0x0, 0x0, 0x0, 0x0, 0x0, []⟩, ⟨0x10, 0x0, 0x0, 0x0, 0x0, 0x0, 0x0, []⟩, ⟨0x18, 0x0, 0x0, 0x0, 0x0, 0x0, 0x0, []⟩, ⟨0x20, 0x0, 0x0, 0x0, 0x0, 0x0, 0x0, []⟩, ⟨0x28, 0x0, 0x0, 0x0, 0x0, 0x0, 0x0, []⟩, ⟨0x30, 0x0, 0x0, 0x0, 0x0, 0x0, 0x0, []⟩, ⟨0x38, 0x0, 0x0, 0x0, 0x0, 0x0, 0x0, []⟩]⟩ ]

/-- Register groups of XP. -/
def groupsXP : List RegGroup :=
  [ ⟨.plain, 0x2000000, [], [⟨0x0, 0x3E8040, 0xFFFFF0FF, 0x0, 0x0, 0x0, 0x0, [⟨31, 12, 100, 1000000, 1, false⟩, ⟨7, 3, 1, 16, 1, false⟩]⟩, ⟨0x8, 0x0, 0x0, 0x0, 0x0, 0x0, 0x0, []⟩, ⟨0x40, 0x0, 0x0, 0x0, 0x0, 0x0, 0x0, []⟩, ⟨0x48, 0x0, 0x0, 0x0, 0x0, 0x0, 0x0, []⟩, ⟨0x50, 0x0, 0x0, 0x0, 0x0, 0x0, 0x0, []⟩, ⟨0x58, 0x0, 0x0, 0x0, 0x0, 0x0, 0x0, []⟩, ⟨0x60, 0x0, 0x0, 0x0, 0x0, 0x0, 0x0, []⟩, ⟨0x68, 0x0, 0x0, 0x0, 0x0, 0x0, 0x0, []⟩, ⟨0x70, 0x0, 0x0, 0x0, 0x0, 0x0, 0x0, []⟩, ⟨0x78, 0x0, 0x0, 0x0, 0x0, 0x0, 0x0, []⟩, ⟨0x80, 0x0, 0x0, 0x7, 0x0, 0x0, 0x0, []⟩]⟩
  , ⟨.plain, 0x2000100, [(0x40, 2)], [⟨0x0, 0x0, 0x0, 0x0, 0x0, 0x0, 0x0, []⟩, ⟨0x8, 0x0, 0x0, 0x0, 0x0, 0x0, 0x0, []⟩, ⟨0x10, 0x0, 0x0, 0x0, 0x0, 0x0, 0x0, []⟩, ⟨0x18, 0x0, 0x0, 0x0, 0x0, 0x0, 0x0, []⟩, ⟨0x20, 0x0, 0x0, 0x0, 0x0, 0x0, 0x0, []⟩, ⟨0x28, 0x0, 0x0, 0x0, 0x0, 0x0, 0x0, []⟩, ⟨0x30, 0x0, 0x0, 0x0, 0x0, 0x0, 0x0, []⟩]⟩
  , ⟨.plain, 0x2010040, [(0x100, 8), (0x10, 8)], [⟨0x0, 0x0, 0x0, 0x0, 0x0, 0x0, 0x0, []⟩]⟩
  , ⟨.plain, 0x2010048, [(0x100, 8), (0x10, 8)], [⟨0x0, 0x0, 0x0, 0x0, 0x0, 0x0, 0x0, []⟩]⟩
  , ⟨.plain, 0x2010000, [(0x100, 8)], [⟨0x0, 0x0, 0x0, 0x0, 0x0, 0x0, 0x0, []⟩, ⟨0x8, 0x0, 0x0, 0x0, 0x0, 0x0, 0x0, []⟩, ⟨0x10, 0x0, 0x0, 0x0, 0x0, 0x0, 0x0, []⟩, ⟨0x18, 0x0, 0x0, 0x0, 0x0, 0x0, 0x0, []⟩, ⟨0x20, 0x0, 0x0, 0x0, 0x0, 0x0, 0x0, []⟩]⟩ ]

/-- Register groups of RG. -/
def groupsRG : List RegGroup :=
  [ ⟨.plain, 0x2100000, [], [⟨0x0, 0x100, 0x0, 0x0, 0x0, 0x0, 0x0, []⟩]⟩
  , ⟨.plain, 0x2110000, [(0x80, 256)], [⟨0x0, 0x0, 0xFFFFFFFFFFF, 0x0, 0x0, 0x0, 0x0, []⟩, ⟨0x8, 0x400000000000000, 0xFFFFFFFC00000000, 0x0, 0x0, 0x0, 0x0, [⟨62, 61, 0, 2, 1, false⟩, ⟨60, 56, 4, 16, 1, false⟩, ⟨46, 44, 0, 2, 1, false⟩]⟩, ⟨0x10, 0x0, 0xFFFFFFFF, 0x0, 0x0, 0x0, 0x0, []⟩, ⟨0x18, 0x0, 0xFFFFFFFF, 0x0, 0x0, 0x0, 0x0, []⟩, ⟨0x20, 0x0, 0x0, 0x0, 0x0, 0x0, 0x0, []⟩, ⟨0x28, 0x0, 0x0, 0x0, 0x0, 0x0, 0x0, []⟩, ⟨0x30, 0x0, 0x0, 0x0, 0x0, 0x0, 0x0, []⟩, ⟨0x38, 0x0, 0x0, 0x0, 0x0, 0x7, 0x0, []⟩, ⟨0x40, 0x3E8, 0xFFFFFFFFFFFF, 0x0, 0x0, 0x0, 0x0, [⟨31, 0, 0, 1000000, 1, false⟩]⟩, ⟨0x48, 0x0, 0x0, 0x0, 0x0, 0x0, 0x0, []⟩, ⟨0x50, 0x0, 0x0, 0x0, 0x0, 0x0, 0x0, []⟩, ⟨0x58, 0x0, 0x0, 0x0, 0x0, 0x0, 0x0, []⟩]⟩
  , ⟨.plain, 0x2110000, [(0x80, 256)], [⟨0x60, 0x0, 0x0, 0x0, 0x0, 0x0, 0x0, []⟩, ⟨0x68, 0x0, 0x0, 0xF, 0x0, 0x0, 0x0, []⟩]⟩ ]

/-- Register groups of DM. -/
def groupsDM : List RegGroup :=
  [ ⟨.plain, 0x2200000, [], [⟨0x0, 0x42004, 0x0, 0x0, 0x0, 0x0, 0x0, []⟩, ⟨0x8, 0x64, 0xFFFFFFFF, 0x0, 0x0, 0x0, 0x0, [⟨31, 0, 1, 10000, 1, false⟩]⟩, ⟨0x10, 0x0, 0x0, 0x0, 0x0, 0x0, 0x0, []⟩]⟩
  , ⟨.plain, 0x2210000, [(0x10000, 4)], [⟨0x0, 0x300, 0x701, 0x0, 0x0, 0x0, 0x0, []⟩, ⟨0x8, 0x0, 0x0, 0x0, 0x0, 0x0, 0x0, []⟩, ⟨0x10, 0x0, 0x0, 0x0, 0x0, 0x0, 0x0, []⟩, ⟨0x18, 0x0, 0x0, 0x0, 0x0, 0x0, 0x0, []⟩, ⟨0x20, 0x0, 0x0, 0x0, 0x0, 0x1, 0x0, []⟩, ⟨0x28, 0x0, 0x0, 0x0, 0x0, 0x0, 0x0, []⟩, ⟨0x30, 0x0, 0x0, 0x0, 0x0, 0x0, 0x0, []⟩, ⟨0x38, 0x0, 0x0, 0x7, 0x0, 0x0, 0x0, []⟩]⟩
  , ⟨.plain, 0x2211008, [(0x10000, 4), (0x100, 32), (0x8, 8)], [⟨0x0, 0x0, 0xFFFFFFFFFFFFFFFF, 0x0, 0x0, 0x0, 0x0, []⟩]⟩
  , ⟨.plain, 0x2211000, [(0x10000, 4), (0x100, 32)], [⟨0x0, 0x0, 0x3, 0x0, 0x0, 0x0, 0x0, []⟩, ⟨0x48, 0x0, 0x0, 0x0, 0x0, 0x1, 0x0, []⟩, ⟨0x50, 0x0, 0x0, 0x0, 0x0, 0x0, 0x0, []⟩, ⟨0x58, 0x0, 0x0, 0x0, 0x0, 0x0, 0x0, []⟩, ⟨0x60, 0x0, 0x0, 0x0, 0x0, 0x0, 0x0, []⟩, ⟨0x68, 0x0, 0x0, 0x0, 0x0, 0x0, 0x0, []⟩, ⟨0x70, 0x0, 0x0, 0x0, 0x0, 0x0, 0x0, []⟩, ⟨0x78, 0x0, 0x0, 0x0, 0x0, 0x0, 0x0, []⟩, ⟨0x80, 0x0, 0x0, 0x0, 0x0, 0x0, 0x0, []⟩, ⟨0x88, 0x0, 0x0, 0x0, 0x0, 0x1, 0x0, []⟩]⟩ ]

/-- Register groups of MS. -/
def groupsMS : List RegGroup :=
  [ ⟨.plain, 0x3100000, [], [⟨0x0, 0x40000010, 0x0, 0x0, 0x0, 0x0, 0x0, []⟩, ⟨0x8, 0x0, 0xFFFFFFFFFFF, 0x0, 0x0, 0x0, 0x0, []⟩, ⟨0x10, 0x80010008000, 0xFFFFFFFFFFFF8000, 0x0, 0x0, 0x0, 0x0, []⟩, ⟨0x18, 0x0, 0x0, 0x0, 0x0, 0xFFFF00F3, 0x0, []⟩, ⟨0x20, 0x0, 0x0, 0xFFFF, 0x0, 0x0, 0x0, []⟩]⟩
  , ⟨.plain, 0x3110000, [(0x20, 16)], [⟨0x0, 0x0, 0x0, 0x0, 0x0, 0x0, 0x0, []⟩, ⟨0x8, 0x0, 0x0, 0x0, 0x0, 0x0, 0x0, []⟩, ⟨0x10, 0x0, 0x0, 0x0, 0x0, 0x0, 0x0, []⟩, ⟨0x18, 0x0, 0x0, 0x0, 0x0, 0x0, 0x0, []⟩]⟩
  , ⟨.plain, 0x3120000, [(0x80, 8)], [⟨0x0, 0x0, 0xFFFFFFFFFFF, 0x0, 0x0, 0x0, 0x0, []⟩, ⟨0x20, 0x0, 0xFFFFFFFFFFF, 0x0, 0x0, 0x0, 0x0, []⟩, ⟨0x8, 0x18, 0x3F, 0x0, 0x0, 0x0, 0x0, [⟨5, 0, 16, 34, 1, false⟩]⟩, ⟨0x28, 0x18, 0x3F, 0x0, 0x0, 0x0, 0x0, [⟨5, 0, 16, 34, 1, false⟩]⟩, ⟨0x10, 0x0, 0x0, 0x0, 0x0, 0x0, 0x0, []⟩, ⟨0x30, 0x0, 0x0, 0x0, 0x0, 0x0, 0x0, []⟩, ⟨0x18, 0x0, 0xFFFFFFFF, 0x0, 0x0, 0x0, 0x0, []⟩, ⟨0x38, 0x0, 0xFFFFFFFF, 0x0, 0x0, 0x0, 0x0, []⟩, ⟨0x40, 0x0, 0x3, 0x0, 0x0, 0x0, 0x0, []⟩, ⟨0x48, 0x0, 0x0, 0x7, 0x0, 0x0, 0x0, []⟩]⟩
  , ⟨.plain, 0x3200000, [(0x20000, 16), (0x8, 16384)], [⟨0, 0, 0, 0, 0, 0, 0, []⟩]⟩ ]

/-- Register groups of MSS. -/
def groupsMSS : List RegGroup :=
  [ ⟨.plain, 0x10D00040, [(0x1000000, 8), (0x8, 8)], [⟨0x0, 0x0, 0x0, 0x0, 0x0, 0x0, 0x0, []⟩]⟩
  , ⟨.plain, 0x10D00100, [(0x1000000, 8), (0x10, 64)], [⟨0x0, 0xFF00000000, 0x803F80FF000000FF, 0x4000000000000000, 0x0, 0x0, 0x0, []⟩]⟩
  , ⟨.plain, 0x10D00108, [(0x1000000, 8), (0x10, 64)], [⟨0x0, 0x0, 0x0, 0x0, 0x0, 0x0, 0x0, []⟩]⟩
  , ⟨.plain, 0x10D00000, [(0x1000000, 8)], [⟨0x0, 0x0, 0x0, 0x3FFF, 0x0, 0x0, 0x0, []⟩, ⟨0x8, 0x0, 0x0, 0x0, 0x0, 0x0, 0x0, []⟩, ⟨0x10, 0x0, 0x0, 0x0, 0x0, 0x0, 0x0, []⟩, ⟨0x18, 0x0, 0x0, 0x0, 0x0, 0x0, 0x0, []⟩, ⟨0x80, 0x0, 0x0, 0x0, 0x0, 0x0, 0x0, []⟩, ⟨0x88, 0x0, 0x0, 0x0, 0x0, 0x0, 0x0, []⟩]⟩
  , ⟨.port, 0x10D11000, [(0x1000000, 8), (0x2000, 64), (0x8, 512)], [⟨0x0, 0x0, 0x0, 0x0, 0x0, 0x0, 0x0, []⟩]⟩
  , ⟨.port, 0x10D10000, [(0x1000000, 8), (0x2000, 64)], [⟨0x0, 0x0, 0x0, 0x0, 0x0, 0x0, 0x0, []⟩, ⟨0x8, 0x0, 0x0, 0x0, 0x0, 0x0, 0x0, []⟩, ⟨0x10, 0x0, 0x0, 0x0, 0x0, 0x0, 0x0, []⟩, ⟨0x18, 0x0, 0x0, 0x0, 0x0, 0x0, 0x0, []⟩, ⟨0x20, 0x0, 0x0, 0x0, 0x0, 0x0, 0x0, []⟩, ⟨0x28, 0x0, 0x0, 0x0, 0x0, 0x0, 0x0, []⟩, ⟨0x40, 0xF42400000FF00, 0xBFFFFFFFFFFFFF00, 0x0, 0x0, 0x0, 0x0, [⟨61, 32, 1000, 1000000000, 1, false⟩]⟩, ⟨0x48, 0x0, 0x0, 0x0, 0x0, 0x0, 0x0, []⟩, ⟨0x50, 0x400, 0x80000000001FFFFF, 0x0, 0x0, 0x0, 0x0, [⟨20, 0, 1, 1048576, 1, false⟩]⟩]⟩ ]

/-- Register groups of SY. -/
def groupsSY : List RegGroup :=
  [ ⟨.plain, 0x1000, [(0x10, 512)], [⟨0x0, 0x0, 0x0, 0x0, 0x0, 0x0, 0x0, []⟩]⟩
  , ⟨.plain, 0x1008, [(0x10, 512)], [⟨0x0, 0x0, 0x0, 0x0, 0x0, 0x0, 0x0, []⟩]⟩
  , ⟨.plain, 0x0, [], [⟨0x0, 0x2048000000000000, 0x0, 0x0, 0x0, 0x0, 0x0, []⟩, ⟨0x8, 0x0, 0x0, 0x0, 0x0, 0x0, 0x0, []⟩, ⟨0x10, 0x0, 0x0, 0x0, 0x0, 0x0, 0x0, []⟩, ⟨0x18, 0x0, 0x0, 0x0, 0x0, 0x0, 0x0, []⟩, ⟨0x20, 0x0, 0x0, 0x0, 0x0, 0x0, 0x0, []⟩, ⟨0x28, 0x0, 0x0, 0x0, 0x0, 0x0, 0x0, []⟩, ⟨0x30, 0x0, 0x0, 0x0, 0x0, 0x0, 0x0, []⟩, ⟨0x38, 0x0, 0x0, 0x0, 0x0, 0x0, 0x0, []⟩, ⟨0x40, 0x0, 0x0, 0x0, 0x0, 0x0, 0xFFFFFFFF, []⟩, ⟨0x50, 0x0, 0x0, 0x0, 0x0, 0x0, 0x0, []⟩, ⟨0x58, 0x0, 0x0, 0x0, 0x0, 0x0, 0xF, []⟩, ⟨0x68, 0x0, 0x0, 0x0, 0x0, 0x0, 0x0, []⟩]⟩
  , ⟨.plain, 0x0, [], [⟨0x70, 0x0, 0x0, 0x0, 0x0, 0x0, 0x0, []⟩]⟩ ]

/-- Register groups of IM. -/
def groupsIM : List RegGroup :=
  [ ⟨.plain, 0x100030, [(0x8, 6)], [⟨0x0, 0x0, 0x0, 0x0, 0x0, 0x0, 0x0, []⟩]⟩
  , ⟨.plain, 0x100000, [], [⟨0x0, 0x40400000, 0xFFFFFFFFFFF, 0x0, 0x0, 0x0, 0x0, [⟨43, 0, 0, 17592186044415, 64, false⟩]⟩, ⟨0x8, 0x0, 0x0, 0x0, 0x0, 0xFFFF0003, 0x0, []⟩, ⟨0x10, 0x0, 0x0, 0x0, 0x0, 0x0, 0x0, []⟩, ⟨0x18, 0x0, 0x0, 0x0, 0x0, 0x0, 0x0, []⟩, ⟨0x20, 0x0, 0x0, 0x0, 0x0, 0x0, 0x0, []⟩, ⟨0x28, 0x0, 0x0, 0x0, 0x0, 0x0, 0x0, []⟩, ⟨0x60, 0x0, 0x0, 0x0, 0x0, 0x0, 0x0, []⟩]⟩ ]

/-- Register groups of MD. -/
def groupsMD : List RegGroup :=
  [ ⟨.plain, 0x200040, [(0x8, 8)], [⟨0x0, 0x6, 0x0, 0x0, 0x0, 0x0, 0x0, []⟩]⟩
  , ⟨.plain, 0x200098, [(0x8, 3)], [⟨0x0, 0x0, 0x0, 0x0, 0x0, 0x0, 0x0, []⟩]⟩
  , ⟨.plain, 0x200000, [], [⟨0x0, 0x0, 0x0, 0x0, 0x0, 0x0, 0x0, []⟩, ⟨0x8, 0x0, 0x0, 0x0, 0x0, 0xFFFF000F, 0x0, []⟩, ⟨0x10, 0x0, 0x0, 0x0, 0x0, 0xFFFF00FF, 0x0, []⟩, ⟨0x18, 0x0, 0x0, 0x0, 0x0, 0x0, 0x0, []⟩, ⟨0x80, 0x0, 0x1, 0x0, 0x0, 0x0, 0x0, []⟩, ⟨0x88, 0x0, 0x0, 0x0, 0x0, 0xFFFF0003, 0x0, []⟩, ⟨0x90, 0x0, 0x0, 0x0, 0x0, 0x0, 0x0, []⟩, ⟨0xC0, 0x0, 0x0, 0x0, 0x0, 0xFFFFFFFF0003FFFF, 0x0, []⟩, ⟨0xC8, 0x0, 0x0, 0x0, 0x0, 0x0, 0x0, []⟩, ⟨0xD0, 0x0, 0x0, 0x0, 0x0, 0x0, 0x0, []⟩, ⟨0xD8, 0x0, 0x0, 0x0, 0x0, 0x0, 0x0, []⟩, ⟨0xE0, 0x0, 0x0, 0x0, 0x0, 0x0, 0x0, []⟩]⟩
  , ⟨.plain, 0x200000, [], [⟨0xE8, 0x0, 0x0, 0x1F, 0x0, 0x0, 0x0, []⟩]⟩ ]

/-- Register groups of BG. -/
def groupsBG : List RegGroup :=
  [ ⟨.plain, 0x400000, [], [⟨0x0, 0xA05, 0xFFFF, 0x0, 0x0, 0x0, 0x0, [⟨15, 8, 0, 10, 1, false⟩, ⟨7, 0, 0, 5, 1, false⟩]⟩, ⟨0x8, 0x0, 0x0, 0x0, 0x0, 0x0, 0x0, []⟩]⟩
  , ⟨.plain, 0x400100, [], [⟨0x0, 0x8000000000000064, 0x80000000FFFFFFFF, 0x0, 0x0, 0x0, 0x0, []⟩, ⟨0x8, 0x0, 0x0, 0x0, 0x0, 0x0, 0x0, []⟩, ⟨0x10, 0x0, 0x0, 0x0, 0x0, 0x0, 0x0, []⟩, ⟨0x18, 0x0, 0x0, 0x0, 0x0, 0x0, 0x0, []⟩]⟩
  , ⟨.plain, 0x400120, [], [⟨0x0, 0x8000000000000064, 0x80000000FFFFFFFF, 0x0, 0x0, 0x0, 0x0, []⟩, ⟨0x8, 0x0, 0x0, 0x0, 0x0, 0x0, 0x0, []⟩, ⟨0x10, 0x0, 0x0, 0x0, 0x0, 0x0, 0x0, []⟩, ⟨0x18, 0x0, 0x0, 0x0, 0x0, 0x0, 0x0, []⟩]⟩
  , ⟨.plain, 0x400140, [], [⟨0x0, 0x80000000000003E8, 0x80000000FFFFFFFF, 0x0, 0x0, 0x0, 0x0, []⟩, ⟨0x8, 0x0, 0x0, 0x0, 0x0, 0x0, 0x0, []⟩, ⟨0x10, 0x0, 0x0, 0x0, 0x0, 0x0, 0x0, []⟩, ⟨0x18, 0x0, 0x0, 0x0, 0x0, 0x0, 0x0, []⟩]⟩
  , ⟨.plain, 0x400160, [], [⟨0x0, 0x80000000000003E8, 0x80000000FFFFFFFF, 0x0, 0x0, 0x0, 0x0, []⟩, ⟨0x8, 0x0, 0x0, 0x0, 0x0, 0x0, 0x0, []⟩, ⟨0x10, 0x0, 0x0, 0x0, 0x0, 0x0, 0x0, []⟩, ⟨0x18, 0x0, 0x0, 0x0, 0x0, 0x0, 0x0, []⟩]⟩
  , ⟨.plain, 0x400180, [], [⟨0x0, 0x8000000000000064, 0x80000000FFFFFFFF, 0x0, 0x0, 0x0, 0x0, []⟩, ⟨0x8, 0x0, 0x0, 0x0, 0x0, 0x0, 0x0, []⟩, ⟨0x10, 0x0, 0x0, 0x0, 0x0, 0x0, 0x0, []⟩, ⟨0x18, 0x0, 0x0, 0x0, 0x0, 0x0, 0x0, []⟩]⟩
  , ⟨.plain, 0x4001A0, [], [⟨0x0, 0xC0000000000003E8, 0x80000000FFFFFFFF, 0x0, 0x0, 0x0, 0x0, []⟩, ⟨0x8, 0x0, 0x0, 0x0, 0x0, 0x0, 0x0, []⟩, ⟨0x10, 0x0, 0x0, 0x0, 0x0, 0x0, 0x0, []⟩, ⟨0x18, 0x0, 0x0, 0x0, 0x0, 0x0, 0x0, []⟩]⟩
  , ⟨.plain, 0x4001C0, [], [⟨0x0, 0xC0000000000003E8, 0x80000000FFFFFFFF, 0x0, 0x0, 0x0, 0x0, []⟩, ⟨0x8, 0x0, 0x0, 0x0, 0x0, 0x0, 0x0, []⟩, ⟨0x10, 0x0, 0x0, 0x0, 0x0, 0x0, 0x0, []⟩, ⟨0x18, 0x0, 0x0, 0x0, 0x0, 0x0, 0x0, []⟩]⟩
  , ⟨.plain, 0x4001E0, [], [⟨0x0, 0x800000000000000A, 0x80000000FFFFFFFF, 0x0, 0x0, 0x0, 0x0, []⟩, ⟨0x8, 0x0, 0x0, 0x0, 0x0, 0x0, 0x0, []⟩, ⟨0x10, 0x0, 0x0, 0x0, 0x0, 0x0, 0x0, []⟩, ⟨0x18, 0x0, 0x0, 0x0, 0x0, 0x0, 0x0, []⟩]⟩
  , ⟨.plain, 0x400200, [], [⟨0x0, 0xC000000000000001, 0x80000000FFFFFFFF, 0x0, 0x0, 0x0, 0x0, []⟩, ⟨0x8, 0x0, 0x0, 0x0, 0x0, 0x0, 0x0, []⟩, ⟨0x10, 0x0, 0x0, 0x0, 0x0, 0x0, 0x0, []⟩, ⟨0x18, 0x0, 0x0, 0x0, 0x0, 0x0, 0x0, []⟩]⟩
  , ⟨.plain, 0x400220, [], [⟨0x0, 0xC000000000000001, 0x80000000FFFFFFFF, 0x0, 0x0, 0x0, 0x0, []⟩, ⟨0x8, 0x0, 0x0, 0x0, 0x0, 0x0, 0x0, []⟩, ⟨0x10, 0x0, 0x0, 0x0, 0x0, 0x0, 0x0, []⟩, ⟨0x18, 0x0, 0x0, 0x0, 0x0, 0x0, 0x0, []⟩]⟩
  , ⟨.plain, 0x400240, [], [⟨0x0, 0x80000000000927C0, 0x80000000FFFFFFFF, 0x0, 0x0, 0x0, 0x0, []⟩, ⟨0x8, 0x0, 0x0, 0x0, 0x0, 0x0, 0x0, []⟩, ⟨0x10, 0x0, 0x0, 0x0, 0x0, 0x0, 0x0, []⟩, ⟨0x18, 0x0, 0x0, 0x0, 0x0, 0x0, 0x0, []⟩]⟩
  , ⟨.plain, 0x400260, [], [⟨0x0, 0x800000000036EE80, 0x80000000FFFFFFFF, 0x0, 0x0, 0x0, 0x0, []⟩, ⟨0x8, 0x0, 0x0, 0x0, 0x0, 0x0, 0x0, []⟩, ⟨0x10, 0x0, 0x0, 0x0, 0x0, 0x0, 0x0, []⟩, ⟨0x18, 0x0, 0x0, 0x0, 0x0, 0x0, 0x0, []⟩]⟩
  , ⟨.plain, 0x400280, [], [⟨0x0, 0x80000000000003E8, 0x80000000FFFFFFFF, 0x0, 0x0, 0x0, 0x0, []⟩, ⟨0x8, 0x0, 0x0, 0x0, 0x0, 0x0, 0x0, []⟩, ⟨0x10, 0x0, 0x0, 0x0, 0x0, 0x0, 0x0, []⟩, ⟨0x18, 0x0, 0x0, 0x0, 0x0, 0x0, 0x0, []⟩]⟩ ]

/-- Register groups of PW. -/
def groupsPW : List RegGroup :=
  [ ⟨.plain, 0x300040, [(0x8, 10)], [⟨0x0, 0x0, 0xFFFF000000000000, 0x0, 0x0, 0x0, 0x0, []⟩]⟩
  , ⟨.plain, 0x3000C0, [(0x8, 10)], [⟨0x0, 0x0, 0x0, 0x0, 0x0, 0x0, 0x0, []⟩]⟩
  , ⟨.plain, 0x300120, [(0x8, 10)], [⟨0x0, 0x0, 0x0, 0x0, 0x0, 0x0, 0x0, []⟩]⟩
  , ⟨.plain, 0x300000, [], [⟨0x0, 0x0, 0x0, 0x0, 0x0, 0x0, 0x0, []⟩, ⟨0x8, 0x0, 0x0, 0x0, 0x0, 0x0, 0x0, []⟩, ⟨0x10, 0x0, 0x0, 0x0, 0x0, 0x0, 0x0, []⟩, ⟨0x18, 0x0, 0xFFFF, 0x0, 0x0, 0x0, 0x0, [⟨15, 0, 700, 1500, 1, true⟩]⟩, ⟨0x20, 0x0, 0x0, 0x0, 0x0, 0x0, 0x0, []⟩, ⟨0x28, 0x73690064, 0xFF, 0x0, 0x0, 0x0, 0x0, [⟨7, 0, 80, 104, 1, false⟩]⟩, ⟨0xA0, 0x0, 0x0, 0x0, 0x0, 0x0, 0x0, []⟩, ⟨0xA8, 0x0, 0x0, 0x0, 0x0, 0xF3, 0x0, []⟩, ⟨0x180, 0x0, 0x0, 0x0, 0x0, 0x0, 0x0, []⟩, ⟨0x188, 0x0, 0x0, 0x0, 0x0, 0x0, 0x0, []⟩, ⟨0x190, 0x0, 0x0, 0x3F, 0x0, 0x0, 0x0, []⟩, ⟨0x198, 0x0, 0x0, 0x0, 0x0, 0x0, 0x0, []⟩]⟩
  , ⟨.plain, 0x300000, [], [⟨0x1A0, 0x0, 0x0, 0x0, 0x0, 0x0, 0x0, []⟩]⟩ ]

/-- Register groups of FI. -/
def groupsFI : List RegGroup :=
  [ ⟨.plain, 0x10C00000, [(0x1000000, 8)], [⟨0x0, 0x4, 0x0, 0x0, 0x0, 0x0, 0x0, []⟩]⟩
  , ⟨.port, 0x10C10000, [(0x1000000, 8), (0x200, 64), (0x40, 4)], [⟨0x0, 0x1000000, 0xFFFFFFFFFF00001F, 0x0, 0x0, 0x0, 0x0, [⟨31, 24, 1, 255, 1, false⟩]⟩, ⟨0x8, 0x0, 0xFFFFF0FFFFFF0000, 0x0, 0x0, 0x0, 0x0, []⟩, ⟨0x10, 0x1000003E8, 0xFFFFF0FFFFFFFFFF, 0x0, 0x0, 0x0, 0x0, [⟨63, 48, 0, 15999, 1, false⟩, ⟨39, 32, 1, 255, 1, false⟩, ⟨31, 0, 0, 1000000, 1, false⟩]⟩, ⟨0x18, 0x0, 0xFFFFFFFFFFFF, 0x0, 0x0, 0x0, 0x0, []⟩, ⟨0x20, 0x0, 0xFFFFFFFF00000000, 0x0, 0x0, 0x0, 0x0, [⟨63, 32, 0, 999999999, 1, false⟩]⟩, ⟨0x28, 0x0, 0x0, 0x0, 0x0, 0x0, 0x0, []⟩, ⟨0x30, 0x0, 0x0, 0x0, 0x0, 0x0, 0x0, []⟩]⟩
  , ⟨.port, 0x10C10100, [(0x1000000, 8), (0x200, 64)], [⟨0x0, 0x0, 0xFFFFFFFFFFFF000F, 0x0, 0x0, 0x0, 0x0, []⟩, ⟨0x8, 0x0, 0x0, 0x0, 0x0, 0x0, 0x0, []⟩]⟩ ]

/-- Register groups of SD. -/
def groupsSD : List RegGroup :=
  [ ⟨.loaded, 0x10000000, [], [⟨0x0, 0x0, 0x0, 0x0, 0x0, 0x0, 0x0, []⟩]⟩
  , ⟨.loaded, 0x11000000, [], [⟨0x0, 0x1, 0x0, 0x0, 0x0, 0x0, 0x0, []⟩]⟩
  , ⟨.loaded, 0x12000000, [], [⟨0x0, 0x2, 0x0, 0x0, 0x0, 0x0, 0x0, []⟩]⟩
  , ⟨.loaded, 0x13000000, [], [⟨0x0, 0x3, 0x0, 0x0, 0x0, 0x0, 0x0, []⟩]⟩
  , ⟨.loaded, 0x14000000, [], [⟨0x0, 0x4, 0x0, 0x0, 0x0, 0x0, 0x0, []⟩]⟩
  , ⟨.loaded, 0x15000000, [], [⟨0x0, 0x5, 0x0, 0x0, 0x0, 0x0, 0x0, []⟩]⟩
  , ⟨.loaded, 0x16000000, [], [⟨0x0, 0x6, 0x0, 0x0, 0x0, 0x0, 0x0, []⟩]⟩
  , ⟨.loaded, 0x17000000, [], [⟨0x0, 0x7, 0x0, 0x0, 0x0, 0x0, 0x0, []⟩]⟩
  , ⟨.loaded, 0x10010000, [(0x1000000, 8), (0x8, 64)], [⟨0x0, 0x0, 0x0, 0x0, 0x0, 0x0, 0x0, []⟩]⟩
  , ⟨.loaded, 0x10000000, [(0x1000000, 8)], [⟨0x8, 0x0, 0x0, 0x0, 0x0, 0x0, 0x0, []⟩, ⟨0x10, 0x0, 0x0, 0x0, 0x0, 0x0, 0x0, []⟩]⟩ ]

/-- Register groups of tables. -/
def groupsTables : List RegGroup :=
  [ ⟨.table, 0x100000000000, [(0x100, 262144)], [⟨0x40, 0x5DC003000000, 0xE000FFFFFFFFF000, 0x0, 0x0, 0x0, 0x0, []⟩, ⟨0x48, 0x186A0, 0xFFFFFFFFFFFFFFFF, 0x0, 0x0, 0x0, 0x0, []⟩, ⟨0x50, 0x7D000000000, 0xFFFFFFFF003FFFFF, 0x0, 0x0, 0x0, 0x0, []⟩, ⟨0x58, 0x0, 0x0, 0x0, 0x0, 0x0, 0x0, []⟩, ⟨0x60, 0x0, 0x0, 0x0, 0x0, 0x0, 0x0, []⟩, ⟨0x68, 0x0, 0x0, 0x0, 0x0, 0x0, 0x0, []⟩, ⟨0x70, 0x0, 0x0, 0x0, 0x0, 0x0, 0x0, []⟩, ⟨0x78, 0x0, 0x0, 0x0, 0x0, 0x0, 0x0, []⟩, ⟨0x80, 0x0, 0x0, 0x0, 0x0, 0x0, 0x0, []⟩, ⟨0x88, 0x0, 0x0, 0x0, 0x0, 0x0, 0x0, []⟩, ⟨0x90, 0x0, 0x0, 0x0, 0x0, 0x0, 0x0, []⟩, ⟨0x98, 0x0, 0x0, 0x0, 0x0, 0x0, 0x0, []⟩]⟩
  , ⟨.table, 0x100000000000, [(0x100, 262144)], [⟨0xA0, 0x0, 0x0, 0x0, 0x0, 0x0, 0x0, []⟩, ⟨0xA8, 0x0, 0x0, 0x0, 0x0, 0x0, 0x0, []⟩, ⟨0xB0, 0x0, 0x0, 0x0, 0x0, 0x0, 0x0, []⟩, ⟨0xB8, 0x0, 0x0, 0x0, 0x0, 0x0, 0x0, []⟩]⟩
  , ⟨.table, 0x110000000000, [(0x1000000, 8), (0x100, 4096)], [⟨0x20, 0x0, 0xFFFFFFFFFFFFFFFF, 0x0, 0x0, 0x0, 0x0, []⟩, ⟨0x28, 0x0, 0xFFFFFFFFFFFFFFFF, 0x0, 0x0, 0x0, 0x0, []⟩, ⟨0x30, 0x0, 0xFFFFFFFFFFFFFFFF, 0x0, 0x0, 0x0, 0x0, []⟩, ⟨0x38, 0x0, 0xFFFFFFFFFFFFFFFF, 0x0, 0x0, 0x0, 0x0, []⟩]⟩
  , ⟨.table, 0x120000000000, [(0x10000000, 8), (0x200, 65536)], [⟨0x90, 0x0, 0xFFFFFFFFFFFFFFFF, 0x0, 0x0, 0x0, 0x0, []⟩, ⟨0x98, 0x0, 0x0, 0x0, 0x0, 0x0, 0x0, []⟩, ⟨0xA0, 0x0, 0x0, 0x0, 0x0, 0x0, 0x0, []⟩, ⟨0x100, 0x0, 0xFFFFFFFFFFFFFFFF, 0x0, 0x0, 0x0, 0x0, []⟩, ⟨0x108, 0x0, 0xFFFFFFFFFFFFFFFF, 0x0, 0x0, 0x0, 0x0, []⟩, ⟨0x110, 0x0, 0xFFFFFFFFFFFFFFFF, 0x0, 0x0, 0x0, 0x0, []⟩, ⟨0x118, 0x0, 0xFFFFFFFFFFFFFFFF, 0x0, 0x0, 0x0, 0x0, []⟩, ⟨0x120, 0x0, 0xFFFFFFFFFFFFFFFF, 0x0, 0x0, 0x0, 0x0, []⟩, ⟨0x128, 0x0, 0xFFFFFFFFFFFFFFFF, 0x0, 0x0, 0x0, 0x0, []⟩, ⟨0x130, 0x0, 0xFFFFFFFFFFFFFFFF, 0x0, 0x0, 0x0, 0x0, []⟩, ⟨0x138, 0x0, 0xFFFFFFFFFFFFFFFF, 0x0, 0x0, 0x0, 0x0, []⟩, ⟨0x140, 0x0, 0xFFFFFFFFFFFFFFFF, 0x0, 0x0, 0x0, 0x0, []⟩]⟩
  , ⟨.table, 0x120000000000, [(0x10000000, 8), (0x200, 65536)], [⟨0x148, 0x0, 0xFFFFFFFFFFFFFFFF, 0x0, 0x0, 0x0, 0x0, []⟩, ⟨0x180, 0x0, 0xFFFFFFFFFFFFFFFF, 0x0, 0x0, 0x0, 0x0, []⟩, ⟨0x188, 0x0, 0xFFFFFFFFFFFFFFFF, 0x0, 0x0, 0x0, 0x0, []⟩, ⟨0x190, 0x0, 0xFFFFFFFFFFFFFFFF, 0x0, 0x0, 0x0, 0x0, []⟩, ⟨0x198, 0x0, 0xFFFFFFFFFFFFFFFF, 0x0, 0x0, 0x0, 0x0, []⟩, ⟨0x1A0, 0x0, 0xFFFFFFFFFFFFFFFF, 0x0, 0x0, 0x0, 0x0, []⟩, ⟨0x1A8, 0x0, 0xFFFFFFFFFFFFFFFF, 0x0, 0x0, 0x0, 0x0, []⟩, ⟨0x1B0, 0x0, 0xFFFFFFFFFFFFFFFF, 0x0, 0x0, 0x0, 0x0, []⟩, ⟨0x1B8, 0x0, 0xFFFFFFFFFFFFFFFF, 0x0, 0x0, 0x0, 0x0, []⟩, ⟨0x1C0, 0x0, 0xFFFFFFFFFFFFFFFF, 0x0, 0x0, 0x0, 0x0, []⟩, ⟨0x1C8, 0x0, 0xFFFFFFFFFFFFFFFF, 0x0, 0x0, 0x0, 0x0, []⟩]⟩
  , ⟨.table, 0x130000000000, [(0x10000000, 8), (0x100, 262144)], [⟨0x18, 0x0, 0xFFFFFFFFFFFFFFFF, 0x0, 0x0, 0x0, 0x0, []⟩, ⟨0x20, 0x0, 0xFFFFFFFFFFFFFFFF, 0x0, 0x0, 0x0, 0x0, []⟩, ⟨0x28, 0x0, 0xFFFFFFFFFFFFFFFF, 0x0, 0x0, 0x0, 0x0, []⟩, ⟨0x30, 0x0, 0xFFFFFFFFFFFFFFFF, 0x0, 0x0, 0x0, 0x0, []⟩]⟩
  , ⟨.table, 0x140000000000, [(0x10000000, 8), (0x100, 262144)], [⟨0x80, 0x0, 0x0, 0x0, 0x0, 0x0, 0x0, []⟩, ⟨0x88, 0x0, 0x0, 0x0, 0x0, 0x0, 0x0, []⟩, ⟨0x90, 0x0, 0x0, 0x0, 0x0, 0x0, 0x0, []⟩, ⟨0x98, 0x0, 0x0, 0x0, 0x0, 0x0, 0x0, []⟩, ⟨0xA0, 0x0, 0x0, 0x0, 0x0, 0x0, 0x0, []⟩, ⟨0xA8, 0x0, 0x0, 0x0, 0x0, 0x0, 0x0, []⟩]⟩
  , ⟨.table, 0x150000000000, [(0x10000000, 8), (0x200, 4096)], [⟨0x110, 0x0, 0xFFFFFFFFFFFFFFFF, 0x0, 0x0, 0x0, 0x0, []⟩, ⟨0x118, 0x0, 0xFFFFFFFFFFFFFFFF, 0x0, 0x0, 0x0, 0x0, []⟩, ⟨0x120, 0x0, 0xFFFFFFFFFFFFFFFF, 0x0, 0x0, 0x0, 0x0, []⟩, ⟨0x128, 0x0, 0xFFFFFFFFFFFFFFFF, 0x0, 0x0, 0x0, 0x0, []⟩, ⟨0x130, 0x0, 0xFFFFFFFFFFFFFFFF, 0x0, 0x0, 0x0, 0x0, []⟩, ⟨0x138, 0x0, 0xFFFFFFFFFFFFFFFF, 0x0, 0x0, 0x0, 0x0, []⟩, ⟨0x140, 0x0, 0xFFFFFFFFFFFFFFFF, 0x0, 0x0, 0x0, 0x0, []⟩, ⟨0x148, 0x0, 0xFFFFFFFFFFFFFFFF, 0x0, 0x0, 0x0, 0x0, []⟩]⟩
  , ⟨.table, 0x160000000000, [(0x10000000, 8), (0x400, 65536)], [⟨0x208, 0x2, 0xFF, 0x0, 0x0, 0x0, 0x0, []⟩, ⟨0x210, 0x0, 0x0, 0x0, 0x0, 0x0, 0xFFFFFFFFFFFF, []⟩, ⟨0x220, 0x0, 0x0, 0x0, 0x0, 0x0, 0xFFFFFFFF00000000, [⟨63, 32, 0, 999999999, 1, false⟩]⟩, ⟨0x230, 0xF4240, 0x0, 0x0, 0x0, 0x0, 0xFFFFFFFF, []⟩, ⟨0x240, 0x0, 0x0, 0x0, 0x0, 0x0, 0xFFFFFFFF, []⟩, ⟨0x250, 0x0, 0x0, 0x0, 0x0, 0x0, 0x7FF, []⟩, ⟨0x280, 0x0, 0x0, 0x0, 0x0, 0x0, 0x0, []⟩, ⟨0x288, 0x100000000, 0x0, 0x0, 0x0, 0x0, 0x0, []⟩, ⟨0x290, 0x0, 0x0, 0x0, 0x0, 0x0, 0x0, []⟩, ⟨0x298, 0x0, 0x0, 0x0, 0x0, 0x0, 0x0, []⟩]⟩
  , ⟨.table, 0x170000000000, [(0x10000000, 8), (0x400, 65536)], [⟨0x310, 0x0, 0xFFFFFFFFFFFFFFFF, 0x0, 0x0, 0x0, 0x0, []⟩, ⟨0x318, 0x0, 0xFFFFFFFFFFFFFFFF, 0x0, 0x0, 0x0, 0x0, []⟩, ⟨0x320, 0x0, 0x1E, 0x0, 0x0, 0x0, 0x0, []⟩]⟩
  , ⟨.table, 0x180000000000, [(0x10000000, 8), (0x100, 65536)], [⟨0x18, 0x0, 0xC000000000000000, 0x0, 0x0, 0x0, 0x0, []⟩, ⟨0x20, 0x0, 0x0, 0x0, 0x0, 0x0, 0x0, []⟩]⟩
  , ⟨.table, 0x190000000000, [(0x10000000, 8), (0x100, 65536)], [⟨0x50, 0x8006402000000, 0xF8FFFFFF0F000000, 0x0, 0x0, 0x0, 0x0, []⟩, ⟨0x58, 0x7D0001E, 0xFFFFFFFFFFFFFFFF, 0x0, 0x0, 0x0, 0x0, []⟩, ⟨0x60, 0x0, 0x0, 0x0, 0x0, 0x0, 0x0, []⟩, ⟨0x68, 0x0, 0x0, 0x0, 0x0, 0x0, 0x0, []⟩, ⟨0x70, 0x0, 0x0, 0x0, 0x0, 0x0, 0x0, []⟩, ⟨0x78, 0x0, 0x0, 0x0, 0x0, 0x0, 0x0, []⟩, ⟨0x80, 0x0, 0x0, 0x0, 0x0, 0x0, 0x0, []⟩, ⟨0x88, 0x0, 0x0, 0x0, 0x0, 0x0, 0x0, []⟩, ⟨0x90, 0x0, 0x0, 0x0, 0x0, 0x0, 0x0, []⟩, ⟨0x98, 0x0, 0x0, 0x0, 0x0, 0x0, 0x0, []⟩, ⟨0xA0, 0x0, 0x0, 0x0, 0x0, 0x0, 0x0, []⟩]⟩
  , ⟨.table, 0x1A0000000000, [(0x1000, 2048), (0x100, 16)], [⟨0x80, 0x0, 0xFFE0F00007FFFFFF, 0x0, 0x0, 0x0, 0x0, []⟩, ⟨0x88, 0x0, 0x0, 0x0, 0x0, 0x0, 0x0, []⟩]⟩
  , ⟨.table, 0x1B0000000000, [(0x100, 16384)], [⟨0x98, 0x0, 0xFFFFFFFF00000000, 0x0, 0x0, 0x0, 0x0, []⟩]⟩
  , ⟨.table, 0x1C0000000000, [(0x10000000, 8), (0x200, 16384), (0x100, 2)], [⟨0x8, 0x0, 0x0, 0x0, 0x0, 0x0, 0x0, []⟩, ⟨0x10, 0x0, 0x0, 0x0, 0x0, 0x0, 0x0, []⟩, ⟨0x18, 0x0, 0x0, 0x0, 0x0, 0x0, 0x0, []⟩]⟩ ]

/-! ## Finding a register -/

/-- A register found at an address: the kind of its group, the instance indices, and the register. -/
structure Found where
  kind : RegKind
  idx : List Nat
  reg : RegDef
  deriving DecidableEq, Repr

/-- Split an offset over a group's dimensions; `none` where an index is past its count. -/
def splitDims : List (Nat × Nat) → Nat → List Nat → Option (List Nat × Nat)
  | [], rel, acc => some (acc.reverse, rel)
  | (stride, count) :: ds, rel, acc =>
    if rel / stride < count then splitDims ds (rel % stride) (rel / stride :: acc) else none

/-- The register of group `g` at address `a`. -/
def findInGroup (g : RegGroup) (a : Nat) : Option Found :=
  if a < g.base then none
  else
    match splitDims g.dims (a - g.base) [] with
    | none => none
    | some (idx, rel) =>
      match g.regs.find? (fun r => r.off == rel) with
      | none => none
      | some r => some ⟨g.kind, idx, r⟩

/-- The register at address `a` in a list of groups. -/
def findInGroups : List RegGroup → Nat → Option Found
  | [], _ => none
  | g :: gs, a =>
    match findInGroup g a with
    | some f => some f
    | none => findInGroups gs a

/-- The slice blocks by block number (R455, "Slice register index"). -/
def sliceBlockGroups : Nat → List RegGroup
  | 0 => groupsSD | 1 => groupsPR | 2 => groupsCF | 3 => groupsST | 4 => groupsLN | 5 => groupsGC | 6 => groupsPE
  | 7 => groupsSH | 8 => groupsCL | 9 => groupsGD | 10 => groupsFR | 11 => groupsFD | 12 => groupsFI | 13 => groupsMSS
  | _ => []

/-- The module blocks by their 1 MiB page ("Module register index"); SC spans five pages and MS four. -/
def moduleBlockGroups (page : Nat) : List RegGroup :=
  if page = 0x00 then groupsSY else if page = 0x01 then groupsIM else if page = 0x02 then groupsMD
  else if page = 0x03 then groupsPW else if page = 0x04 then groupsBG else if page = 0x10 then groupsTB
  else if 0x11 ≤ page ∧ page ≤ 0x15 then groupsSC else if page = 0x1F then groupsTP
  else if page = 0x20 then groupsXP else if page = 0x21 then groupsRG else if page = 0x22 then groupsDM
  else if page = 0x23 then groupsJR else if page = 0x24 then groupsCP else if page = 0x30 then groupsUP
  else if 0x31 ≤ page ∧ page ≤ 0x34 then groupsMS else if page = 0x180 then groupsHM
  else []

/-- The groups that may hold the word at key `a`. -/
def groupsAt (a : Nat) : List RegGroup :=
  if 2 ^ 44 ≤ a then groupsTables
  else if 0x10000000 ≤ a ∧ a < 0x18000000 then sliceBlockGroups (a / 0x100000 % 16)
  else moduleBlockGroups (a / 0x100000)

/-- The register at address `a`; `none` for a reserved word and for an address of no block (R450). -/
def findReg (a : Nat) : Option Found := findInGroups (groupsAt a) a

/-- An address lies in the span of some block (R450, the index tables). -/
def inSpan (a : Nat) : Bool := !(groupsAt a).isEmpty

/-- The word an address holds while nothing has changed it: the Reset column (R7); 0 for a reserved word. -/
def resetWord (a : Nat) : Word :=
  match findReg a with
  | some f => BitVec.ofNat 64 f.reg.rst
  | none => 0

end Sys2Proof.Machine
end

