-- ==== Sys2Proof/Machine/State.lean ====
section
/-!
DEFINITION. The state of the module, the reasons a step can stop, and the state right after power-on.
-/

namespace Sys2Proof.Machine

/-- Why a step stops with a fault: never. The module reports every error by a status, a counter, a journal entry or
a mode change, so no meaning of this model ends in a fault. -/
inductive Fault where
  deriving DecidableEq, Repr

/-- Why a command has no meaning here. -/
inductive Refusal where
  /-- Raised by the dispatcher for a command whose meaning is not written yet; safe, since nothing is claimed of it. -/
  | notModelled (mnemonic : String)
  deriving DecidableEq, Repr

/-- The whole state of the block. -/
structure State where
  /-- Every register at its device address, and the entries behind the register windows at keys from 2^44 up
  (RegMap.lean); an unlisted key reads as its Reset column. -/
  words : SMap Word := []
  /-- DDR5, control SRAM and the hold memory window, byte by byte. -/
  mem : List Host.Cell := []
  /-- The time base. -/
  time : TimeBase := {}
  /-- Armed complement pairs by the address of their value (R9). -/
  arms : SMap (Option Arm) := []
  /-- Servo, inputs, steps and pins beyond their registers. -/
  sync : TimeSync := {}
  /-- The journal, its coalescers, and the event queue. -/
  journal : Journal := {}
  /-- The image in force, as parsed records. -/
  image : Image := {}
  /-- What the carrier board fixes. -/
  board : Board := {}
  /-- The unit pair beyond its registers. -/
  pair : Pair := {}
  /-- Online self-test items failed since the last clear (R263). -/
  testFails : Nat := 0
  /-- Scene clocks by number. -/
  scenes : SMap SceneState := []
  /-- Held frames not yet converted, in filing order. -/
  held : List Held := []
  /-- Converted frames in calendar order. -/
  launches : List Launch := []
  /-- Feed state by stream table index. -/
  feeds : SMap FeedState := []
  /-- One more than the tick of the latest accepted envelope (0: none), and the tick of the latest grants, by slice × 512 +
  source entry. -/
  sources : SMap (Nat × Nat) := []
  /-- Egress queues of STRICT and CBS classes by lane × 8 + class. -/
  queues : SMap (List EgFrame) := []
  /-- Queues of the fair flows by lane × 64 + flow. -/
  flows : SMap (List EgFrame) := []
  /-- Wires by lane. -/
  wires : SMap Wire := []
  /-- Credits and class sampling by lane × 8 + class. -/
  credits : SMap Credit := []
  /-- Gate control lists by lane. -/
  gates : SMap GateLists := []
  /-- MAC merge state by lane. -/
  merges : SMap MergeState := []
  /-- The module has entered Service or Mirror since the last Reset (R24). -/
  everServed : Bool := false
  /-- Cells by number. -/
  cells : SMap CellState := []
  /-- Drift by node × 2 + channel. -/
  drifts : SMap Drift := []
  /-- Ticks of the latest host mark event messages within one second, and how many (R213). -/
  markSecond : Nat × Nat := (0, 0)
  /-- Bandwidth windows in progress by lane. -/
  windows : SMap (Option Window) := []
  /-- Event counters by slice × 64 + counter. -/
  evcs : SMap EvcState := []
  /-- Launch sampling by lane. -/
  samplers : SMap Sampler := []
  /-- Launch sample and queue sample buffers of each slice, oldest record first. -/
  lsBuf : SMap (List (List Nat)) := []
  qsBuf : SMap (List (List Nat)) := []
  /-- Fault injectors by lane × 4 + injector. -/
  injectors : SMap Injector := []
  /-- Launch digests by millisecond (R274). -/
  digests : SMap Nat := []
  /-- Recirculation queues by slice × 8 + pipeline. -/
  recirc : SMap (List Recirc) := []
  /-- Live frames in Caldera by egress slice, oldest first. -/
  crossing : SMap (List Crossing) := []
  /-- Frames that wait for their capture record, their slow-path record, and their export. -/
  captures : List CapFrame := []
  slow : List CapFrame := []
  exports : List CapFrame := []
  /-- Capture rings by ring, and the next export sequence by profile × 2^20 + stream + 1 (+ 0 without a stream). -/
  capRings : SMap CapRing := []
  exportSeqs : SMap Nat := []
  /-- Frames selected since the latest capture, by slice × 16 + profile. -/
  capCounts : SMap Nat := []
  /-- Slow-path tokens in billionths and their tick plus one, by slice; the bucket is full before its first use. -/
  slowBuckets : SMap (Nat × Nat) := []
  /-- Stream gates and flow meters by slice × 65,536 + number. -/
  sgates : SMap SGate := []
  meters : SMap Meter := []
  /-- The stream table batch being staged, and the committed one until every slice has applied it. -/
  batch : List BatchItem := []
  update : Option Update := none
  /-- Recovery instances by slice × 65,536 + function. -/
  recs : SMap RecState := []
  /-- Rings beyond their registers. -/
  rings : SMap RingState := []
  /-- The transport beyond its registers. -/
  xp : Transport := {}
  /-- DMA channels by engine × 32 + channel, the channel each engine started last plus one, power-downs in progress. -/
  channels : SMap DmaChan := []
  lastStart : SMap Nat := []
  drains : List Drain := []
  /-- What MRAM keeps. -/
  mram : Mram := {}
  boot : Boot := {}
  firmware : Firmware := {}
  tests : Tests := {}
  power : Power := {}
  contacts : Contacts := {}
  /-- The state of the slices that Park saved. -/
  saved : Saved := {}
  /-- Memories whose contents are undefined where nothing has been stored since, by number (DDR5 channel c: c; bank
  group b: 16 + b; control SRAM: 32): one more than the free value they read as (log entry 3). -/
  undef : SMap Nat := []
  /-- Everything the module has sent at its contacts, oldest first: the model's own record. -/
  out : List Output := []
  /-- The model's own counter of free values used (log entry 1). -/
  free : Nat := 0
  /-- Commands waiting, first in, first out. -/
  pending : List Instr := []
  deriving DecidableEq, Repr

/-- The module at power-on: mode Reset, every register at its Reset column but SY_ANCHOR_STATUS, which shows anchor 0
(R366); nothing stored, nothing waiting. -/
def State.reset : State := { words := [(A.sy + 0x50, 1)] }

end Sys2Proof.Machine
end

