-- ==== Sys2Proof/Machine/Ops.lean ====
section
/-!
DEFINITION. The named operations over registers, time, byte strings and memory. Every meaning reads and writes the
state through them.
-/

namespace Sys2Proof.Machine

/-! ## Registers (R8, R448) -/

/-- The stored word at key `a`: what was last stored, else the Reset column (R7). -/
def State.word (s : State) (a : Nat) : Word := SMap.get (resetWord a) s.words a

/-- Store word `v` at key `a`; a word equal to its reset word is stored as no entry. -/
def State.setWord (s : State) (a : Nat) (v : Word) : State :=
  { s with words := SMap.set (resetWord a) a v s.words }

/-- Field `f` of the register group at base `b`. -/
def State.get (s : State) (b : Nat) (f : Fld) : Nat := bitsOf (s.word (b + f.off)).toNat f.hi f.lo

/-- Store `v` (cut to the field's width) in field `f` of the register group at base `b`. -/
def State.put (s : State) (b : Nat) (f : Fld) (v : Nat) : State :=
  s.setWord (b + f.off) (BitVec.ofNat 64 (withBits (s.word (b + f.off)).toNat f.hi f.lo v))

/-- A one-bit field as a truth value. -/
def State.on (s : State) (b : Nat) (f : Fld) : Bool := s.get b f == 1

/-- Add `n` to a free-running index field, which wraps at its width. -/
def State.inc (s : State) (b : Nat) (f : Fld) (n : Nat) : State := s.put b f (s.get b f + n)

/-- A field read as a signed number. -/
def State.getI (s : State) (b : Nat) (f : Fld) : Int := sext (f.hi + 1 - f.lo) (s.get b f)

/-- Store a signed number in a field. -/
def State.putI (s : State) (b : Nat) (f : Fld) (i : Int) : State := s.put b f (toTwos (f.hi + 1 - f.lo) i)

/-- Put every register word of the keys in `ks` back to its Reset column. -/
def State.clearWords (s : State) (p : Nat → Bool) : State :=
  { s with words := s.words.filter (fun e => !p e.1) }

/-! ## Truth values as bits -/

/-- 1 for true, 0 for false. -/
def bit (b : Bool) : Nat := if b then 1 else 0

/-! ## Byte strings (R11) -/

/-- `v` in `n` bytes, most significant first (wire formats). -/
def be : Nat → Nat → Bytes
  | 0, _ => []
  | n + 1, v => BitVec.ofNat 8 (v / 256 ^ n) :: be n v

/-- The number a big-endian byte string spells. -/
def beNat (b : Bytes) : Nat := b.foldl (fun a x => a * 256 + x.toNat) 0

/-- `v` in `n` bytes, least significant first (memory words). -/
def le : Nat → Nat → Bytes
  | 0, _ => []
  | n + 1, v => BitVec.ofNat 8 v :: le n (v / 256)

/-- The number a little-endian byte string spells. -/
def leNat (b : Bytes) : Nat := b.foldr (fun x a => x.toNat + 256 * a) 0

/-- Bytes `off` to `off + n - 1` of `b`; shorter where `b` ends. -/
def slice (b : Bytes) (off n : Nat) : Bytes := (b.drop off).take n

/-- The big-endian number in bytes `off` to `off + n - 1`; 0 bytes are read past the end. -/
def rd (b : Bytes) (off n : Nat) : Nat :=
  let x := slice b off n
  beNat x * 256 ^ (n - x.length)

/-- `b` with the bytes at `off` replaced by `v`; bytes past the end are not written. -/
def wr (b : Bytes) (off : Nat) (v : Bytes) : Bytes :=
  b.take off ++ (v.take (b.length - off)) ++ b.drop (off + v.length)

/-- A word as eight little-endian bytes. -/
def wordLE (w : Nat) : Bytes := le 8 w

/-! ## Checksums -/

/-- One bit step of a reflected 32-bit CRC with polynomial `poly`. -/
def crcBit (poly c : BitVec 32) : BitVec 32 := if c.getLsbD 0 then (c >>> 1) ^^^ poly else c >>> 1

/-- One byte step of a reflected 32-bit CRC. -/
def crcByte (poly c : BitVec 32) (b : Byte) : BitVec 32 :=
  let c := c ^^^ (b.setWidth 32)
  crcBit poly (crcBit poly (crcBit poly (crcBit poly (crcBit poly (crcBit poly (crcBit poly (crcBit poly c)))))))

/-- The reflected CRC of a byte string: initial value and final inversion all ones. -/
def crc (poly : BitVec 32) (b : Bytes) : Nat := (~~~ b.foldl (crcByte poly) (BitVec.allOnes 32)).toNat

/-- The frame check sequence of IEEE 802.3 over a frame without it, as the four bytes sent (log entry 5). -/
def fcsOf (b : Bytes) : Bytes := le 4 (crc 0xEDB88320 b)

/-- The frame check sequence at the end of a frame is right. -/
def fcsOk (b : Bytes) : Bool := 4 ≤ b.length && fcsOf (b.take (b.length - 4)) == b.drop (b.length - 4)

/-- A frame with its frame check sequence appended. -/
def withFcs (b : Bytes) : Bytes := b ++ fcsOf b

/-- CRC-32C (Castagnoli) of a byte string (R94). -/
def crc32c (b : Bytes) : Nat := crc 0x82F63B78 b

/-! ## Stamps (R1, R4, R31) -/

/-- Units of 2^-16 ns in one second. -/
def secQ : Nat := 1000000000 * 65536

/-- `n` nanoseconds in units of 2^-16 ns. -/
def nsQ (n : Nat) : Nat := n * 65536

/-- Seconds of an instant, 48 bits. -/
def secOf (q : Nat) : Nat := q / secQ % 2 ^ 48

/-- Nanoseconds of an instant within its second. -/
def nsOf (q : Nat) : Nat := q / 65536 % 1000000000

/-- Binary fraction of an instant. -/
def fracOf (q : Nat) : Nat := q % 65536

/-- The instant of a full stamp. -/
def ofStamp (sec ns frac : Nat) : Nat := sec * secQ + ns * 65536 + frac

/-- The short stamp of an instant: nanoseconds modulo 2^32 (R4). -/
def shortOf (q : Nat) : Nat := q / 65536 % 2 ^ 32

/-- A full stamp as 96 bits (R1). -/
def stampBits (q : Nat) : Nat := secOf q * 2 ^ 48 + nsOf q * 65536 + fracOf q

/-- The instant that 96 stamp bits spell. -/
def ofStampBits (w : Nat) : Nat := ofStamp (w / 2 ^ 48 % 2 ^ 48) (w / 65536 % 2 ^ 32) (w % 65536)

/-- The word of an _NS register: nanoseconds in [63:32], fraction in [31:16]. -/
def nsWord (q : Nat) : Nat := nsOf q * 2 ^ 32 + fracOf q * 65536

/-- Physical time now, in units of 2^-16 ns: the internal fraction is truncated to its upper 16 bits (R31). -/
def State.nowQ (s : State) : Nat := s.time.now / 65536

/-- Physical time now in whole nanoseconds. -/
def State.nowNs (s : State) : Nat := s.nowQ / 65536

/-- An instant moved by a signed step; never below 0. -/
def moveQ (q : Nat) (d : Int) : Nat := (q + d).toNat

/-- Nanoseconds elapsed since tick `t`. -/
def State.since (s : State) (t : Nat) : Nat := s.time.clk - t

/-! ## Free values (log entry 1) -/

/-- The next free value, and the state that has used it. -/
def State.fresh (s : State) : Word × State := (Config.freeWord s.free, { s with free := s.free + 1 })

/-! ## Sending -/

/-- Record something sent at a contact. -/
def State.emit (s : State) (o : Output) : State := { s with out := s.out ++ [o] }

/-! ## Mode (R381) -/

/-- The module's mode code. -/
def State.mode (s : State) : Nat := s.get A.md MD_STATUS_MODE

/-- The modes in which traffic is served: Service, Mirror and Reshape. -/
def State.serving (s : State) : Bool := s.mode == 6 || s.mode == 7 || s.mode == 8

/-- Frames are forwarded, launched and captured: Service, Mirror and Reshape, and Diagnostic once the module has been in
Service or Mirror (R24, R381). -/
def State.datapath (s : State) : Bool := s.serving || (s.mode == 10 && s.everServed)

/-- The state code of slice `n` in MD_SLICE_STATE. -/
def State.sliceState (s : State) (n : Nat) : Nat := s.get A.md (MD_SLICE_STATE_STATE n)

/-- An offline self-test item runs on slice `n`: LANE_BIST or PIPELINE_BIST. -/
def State.sliceTested (s : State) (n : Nat) : Bool :=
  s.tests.running.any (fun x => (x.item == 16 || x.item == 19) && x.target == n)

/-- Slice `n` is SERVING and carries traffic: no offline item runs on it (R398). -/
def State.sliceServes (s : State) (n : Nat) : Bool := s.sliceState n == 0 && !s.sliceTested n

/-! ## Ports (R13, R455) -/

/-- The image's record of the port whose module-wide first lane is `l`. -/
def State.port? (s : State) (l : Nat) : Option PortRec := s.image.ports.find? (fun p => p.lane == l)

/-- `l` is the module-wide first lane of a configured port. -/
def State.isPort (s : State) (l : Nat) : Bool := (s.port? l).isSome

/-- Slice `n` is present. -/
def State.isSlice (s : State) (n : Nat) : Bool := decide (n < 8) && s.image.slices.testBit n

/-- An operation on slice `n`; nothing where the module has no such slice (log entry 4). -/
def State.atSlice (s : State) (n : Nat) (f : State → State) : State := if s.isSlice n then f s else s

/-- An operation on the port with first lane `l`; nothing where the module has no such port (log entry 4). -/
def State.atPort (s : State) (l : Nat) (f : State → State) : State := if s.isPort l then f s else s

/-- Port `l` is a pair link (R258). -/
def State.isPairLink (s : State) (l : Nat) : Bool := s.image.pa == some l || s.image.pb == some l

/-- Gbit/s per lane for the code of LN_PORT_TIMING.LANE_RATE. -/
def laneRate : Nat → Nat
  | 1 => 10 | 2 => 25 | 3 => 50 | 4 => 100 | 5 => 200 | _ => 0

/-- Lowest of the rates that the image allows port `l`, as a code of LN_PORT_TIMING.LANE_RATE. -/
def State.lowestRate (s : State) (l : Nat) : Nat :=
  match s.port? l with
  | some p => (([1, 2, 3, 4, 5].find? (fun c => p.rates.testBit (c - 1))).getD 0)
  | none => 0

/-- Lane rate code of a port: the rate it trained to; while its link is down, the lowest that the image allows (log entry
43). -/
def State.laneCode (s : State) (l : Nat) : Nat :=
  match s.get (A.lnp l) LN_PORT_TIMING_LANE_RATE with
  | 0 => s.lowestRate l
  | c => c

/-- The rate of a port in Gbit/s: lanes times lane rate. -/
def State.portRate (s : State) (l : Nat) : Nat := s.get (A.lnp l) LN_PORT_TIMING_LANES * laneRate (s.laneCode l)

/-- The port's link is up. -/
def State.linkUp (s : State) (l : Nat) : Bool := s.on (A.lnp l) LN_PORT_STATUS_LINK_UP

/-! ## Memory (R452–R454) -/

/-- First DDR5 address. -/
def ddrBase : Nat := 0x10000000000

/-- Where an address lies (R449). -/
inductive Region where
  | register | hold | sram | ddr | none
  deriving DecidableEq, Repr

/-- The region of a device address (R449). -/
def regionOf (a : Nat) : Region :=
  if a < 0x04000000 then .register
  else if a < 0x10000000 then .none
  else if a < 0x19000000 then .register
  else if a < 0x20000000 then .none
  else if a < 0x40000000 then .hold
  else if a < 0x41000000 then .sram
  else if a < ddrBase then .none
  else if a < 0x30000000000 then .ddr
  else .none

/-- The populated DDR5 channels in ascending order (R360). -/
def State.ddrChannels (s : State) : List Nat := (List.range 16).filter (fun c => s.image.ddrCh.testBit c)

/-- Populated DDR5 bytes D (R454). -/
def State.ddrBytes (s : State) : Nat := s.ddrChannels.length * s.board.dimmBytes

/-- The channel that serves DDR5 address `a` (R360). -/
def State.ddrChannelOf (s : State) (a : Nat) : Nat :=
  s.ddrChannels.getD ((a - ddrBase) / 2 ^ s.image.ddrG % s.ddrChannels.length) 0

/-- DDR5 channel `c` is in service: populated, powered, and neither fenced nor lost (R390, R402). -/
def State.ddrUp (s : State) (c : Nat) : Bool :=
  s.image.ddrCh.testBit c && (s.get A.pw PW_DOMAIN_DDR).testBit c && !(s.get A.md MD_DDR_FENCE_CHANNELS).testBit c

/-- The module-reserved part of DDR5: the top D / 16 bytes (R454). -/
def State.ddrReserved (s : State) (a : Nat) : Bool :=
  decide (ddrBase + s.ddrBytes - s.ddrBytes / 16 ≤ a)

/-- The bank group of a hold window address (R452, R360). -/
def bankGroupOf (a : Nat) : Nat := (a - 0x20000000) / 0x2000000

/-- The memory an address lies in, as `State.undef` numbers them. -/
def State.memUnit (s : State) (a : Nat) : Nat :=
  match regionOf a with
  | .ddr => s.ddrChannelOf a
  | .hold => 16 + bankGroupOf a
  | _ => 32

/-- The contents of a memory unit are undefined where nothing has been stored. -/
def State.undefAt (s : State) (a : Nat) : Bool := SMap.get 0 s.undef (s.memUnit a) != 0

/-- What a byte that nothing has stored reads as: 0 (log entry 3), or a free value where the contents are undefined. -/
def State.unlisted (s : State) (a : Nat) : Byte :=
  match SMap.get 0 s.undef (s.memUnit a) with
  | 0 => 0
  | g + 1 => Config.freeByte g a

/-- The byte at a memory address. -/
def State.readByte (s : State) (a : Nat) : Byte := SMap.get (s.unlisted a) s.mem a

/-- Store a byte; 0 is stored as no entry where unlisted bytes read 0. -/
def State.writeByte (s : State) (a : Nat) (v : Byte) : State :=
  { s with mem := if s.undefAt a then SMap.insert a v s.mem else SMap.set 0 a v s.mem }

/-- Store a byte string at ascending addresses. -/
def State.setMemBytes (s : State) (a : Nat) : Bytes → State
  | [] => s
  | b :: bs => (s.writeByte a b).setMemBytes (a + 1) bs

/-- Read `n` bytes at ascending addresses. -/
def State.memBytes (s : State) (a : Nat) : Nat → Bytes
  | 0 => []
  | n + 1 => s.readByte a :: s.memBytes (a + 1) n

/-- The memory's canonical form: keys strictly rising, and no entry equal to 0 where unlisted bytes read 0. -/
abbrev Memory.wf (u : Nat → Bool) (m : List Host.Cell) : Bool :=
  SMap.wfIf (fun a v => u a || decide (v ≠ 0)) m

/-- The contents of memory unit `u` become undefined. -/
def State.loseMemory (s : State) (u : Nat) : State :=
  { s with mem := s.mem.filter (fun e => s.memUnit e.1 != u), undef := SMap.set 0 u (s.free + 1) s.undef,
           free := s.free + 1 }

/-- Nothing is known of DDR5 any more: it is trained anew before anything reaches it again (R371), and until then its
contents are no part of the state. -/
def State.forgetDdr (s : State) : State :=
  { s with mem := s.mem.filter (fun e => regionOf e.1 != .ddr), undef := s.undef.filter (fun e => decide (16 ≤ e.1)) }

/-- The `n` bytes from `a` become free values. -/
def State.freeRange (s : State) (a n : Nat) : State :=
  let t := s.setMemBytes a ((List.range n).map (fun k => Config.freeByte s.free (a + k)))
  { t with free := s.free + 1 }

/-- The 64-bit word at `a`, little-endian (R11). -/
def State.memWord (s : State) (a : Nat) : Nat := leNat (s.memBytes a 8)

/-- Store a 64-bit word at `a`. -/
def State.setMemWord (s : State) (a w : Nat) : State := s.setMemBytes a (wordLE w)

/-- Read `n` 64-bit words. -/
def State.memWords (s : State) (a : Nat) : Nat → List Nat
  | 0 => []
  | n + 1 => s.memWord a :: s.memWords (a + 8) n

/-- Store 64-bit words at ascending addresses. -/
def State.setMemWords (s : State) (a : Nat) (ws : List Nat) : State := s.setMemBytes a (ws.flatMap wordLE)

/-- A memory address is answered: it exists, and what holds it is powered and in service; DDR5 from handover on, when it has
been trained (R371, R451–R454). -/
def State.memServed (s : State) (a : Nat) : Bool :=
  match regionOf a with
  | .sram => true
  | .ddr => s.get A.sy SY_BOOT_PHASE == 8 && decide (a < ddrBase + s.ddrBytes) && s.ddrUp (s.ddrChannelOf a)
  | .hold => (s.get A.pw PW_DOMAIN_BANKS).testBit (bankGroupOf a)
  | _ => false

end Sys2Proof.Machine
end

