-- ==== Sys2Proof/Machine/Flags.lean ====
section
/-!
DEFINITION. Sticky event flags and counters: setting a flag, counting with wrap or saturation, and the overflow flag of a
counter group (spec/13_measurement.md R341, R342).
-/

namespace Sys2Proof.Machine

/-- Set bit `i` of a flags field. -/
def State.raise (s : State) (b : Nat) (f : Fld) (i : Nat) : State := s.put b f (s.get b f ||| 2 ^ i)

/-- Bit of the module's MS_OVF for a module block's first address (R342). -/
def ovfBlocks : List (Nat × Nat) :=
  [(0x1F00000, 2), (0x1000000, 0), (0x1100000, 1), (0x18000000, 3), (0x2000000, 4), (0x2100000, 5), (0x2200000, 6),
   (0x2300000, 7), (0x2400000, 8), (0x3000000, 9), (0x3100000, 10), (0x300000, 11), (0x400000, 12), (0x0, 13),
   (0x100000, 14), (0x200000, 15)]

/-- Set the sticky overflow flag of the counter group of address `a` (R342). -/
def State.overflow (s : State) (a : Nat) : State :=
  if 0x10000000 ≤ a ∧ a < 0x18000000 then
    let n := (a - 0x10000000) / 0x1000000
    s.raise (A.mss n) MSS_OVF_FLAGS (a / 0x100000 % 16)
  else
    match ovfBlocks.find? (fun e => e.1 / 0x100000 == a / 0x100000) with
    | some e => s.raise A.ms MS_OVF_FLAGS e.2
    | none => s

/-- Count `n` events in a counter field, which wraps at its width and then sets its group's overflow flag (R341,
R342). -/
def State.add (s : State) (b : Nat) (f : Fld) (n : Nat) : State :=
  let v := s.get b f + n
  let s := s.put b f v
  if v < 2 ^ (f.hi + 1 - f.lo) then s else s.overflow (b + f.off)

/-- Count one event in a counter field. -/
def State.bump (s : State) (b : Nat) (f : Fld) : State := s.add b f 1

/-- Count `n` events in a counter field that saturates (R342). -/
def State.addSat (s : State) (b : Nat) (f : Fld) (n : Nat) : State :=
  let m := 2 ^ (f.hi + 1 - f.lo) - 1
  let v := s.get b f
  let s := s.put b f (min m (v + n))
  if v < m ∧ m ≤ v + n then s.overflow (b + f.off) else s

end Sys2Proof.Machine
end

