-- ==== Sys2Proof/Machine/Report.lean ====
section
/-!
DEFINITION. Rings as producers and consumers see them, event messages, and the journal with its coalescers
(spec/10_capture_journal.md R287–R295, spec/11_control_rings.md R309, R316–R325). Every chapter reports through
`State.report`.
-/

namespace Sys2Proof.Machine

/-! ## Status codes (R312) -/

/-- Status OK. -/
def stOK : Nat := 0
/-- Status NOP. -/
def stNOP : Nat := 1
/-- Status BAD_VALUE. -/
def stBadValue : Nat := 2
/-- Status QUEUE_FULL. -/
def stQueueFull : Nat := 3
/-- Status STALE_BASE. -/
def stStaleBase : Nat := 4
/-- Status CHANGE_LOCKED. -/
def stChangeLocked : Nat := 5
/-- Status BUSY_EPOCH. -/
def stBusyEpoch : Nat := 6
/-- Status NEEDS_FENCE. -/
def stNeedsFence : Nat := 7
/-- Status DEFERRED. -/
def stDeferred : Nat := 8
/-- Status BUS_ERROR. -/
def stBusError : Nat := 9
/-- Status ENGINE_FAULT. -/
def stEngineFault : Nat := 10
/-- Status POWER_ABORT. -/
def stPowerAbort : Nat := 11
/-- Status INTEGRITY_WRITE. -/
def stIntegrityWrite : Nat := 12
/-- Status ACCESS_DENIED. -/
def stAccessDenied : Nat := 13
/-- Status NO_TARGET. -/
def stNoTarget : Nat := 14
/-- Status SKIPPED. -/
def stSkipped : Nat := 15

/-! ## Event messages (R293, R294) -/

/-- Events held: waiting or unacknowledged (R294, R308). -/
def State.eventsHeld (s : State) : Nat := s.journal.events.length + s.journal.unacked.length

/-- Replace the oldest waiting HEALTH event by `e`. -/
def replaceHealth (e : Event) : List Event → List Event
  | [] => []
  | x :: xs => if x.kind = 4 then xs ++ [e] else x :: replaceHealth e xs

/-- Form an event: give it the next EV_SEQ, and queue it, or lose it when 4,096 events are held (R293, R294). -/
def State.formEvent (s : State) (kind : Nat) (body : Bytes) : State :=
  let e : Event := ⟨kind, s.journal.evSeq, body⟩
  let s := { s with journal := { s.journal with evSeq := (s.journal.evSeq + 1) % 2 ^ 32 } }
  if s.eventsHeld < 4096 then { s with journal := { s.journal with events := s.journal.events ++ [e] } }
  else
    let s := s.bump A.jr JR_CNT_EV_LOST_COUNT
    if kind = 4 then { s with journal := { s.journal with events := replaceHealth e s.journal.events } } else s

/-- The message body of an event: its 8-byte header and its body (R293). -/
def eventBytes (e : Event) : Bytes := be 1 e.kind ++ be 1 0 ++ be 2 e.body.length ++ be 4 e.seq ++ e.body

/-! ## Rings (R316, R318, R325) -/

/-- Ring state beyond the registers. -/
def State.ring (s : State) (r : Nat) : RingState := SMap.get {} s.rings r

/-- Store ring state. -/
def State.setRing (s : State) (r : Nat) (x : RingState) : State := { s with rings := SMap.set {} r x s.rings }

/-- Entries of ring `r`. -/
def State.ringSize (s : State) (r : Nat) : Nat := 2 ^ s.get (A.rgr r) RG_CFG_LOG2_SIZE

/-- RG_STATE.STATE of ring `r`: 0 IDLE, 1 RUNNING, 2 ERROR, 3 STALLED, 4 STOPPED. -/
def State.ringState (s : State) (r : Nat) : Nat := s.get (A.rgr r) RG_STATE_STATE

/-- Ring `r` is a RESULT ring. -/
def State.isResult (s : State) (r : Nat) : Bool := s.on (A.rgr r) RG_CFG_KIND

/-- Every memory granule of `n` bytes from `base` is served (R390, R402); a granule is 2^G bytes of one DDR5 channel. -/
def State.rangeServed (s : State) (base n : Nat) : Bool :=
  let step := if regionOf base = .ddr then 2 ^ s.image.ddrG else n
  (List.range (min 17 (n / step + 2))).all (fun k => s.memServed (base + min (k * step) (n - 1)))

/-- The memory of ring `r` is served. -/
def State.ringServed (s : State) (r : Nat) : Bool := s.rangeServed (s.get (A.rgr r) RG_BASE_DA) (s.ringSize r * 64)

/-- Difference of two free-running 32-bit indices. -/
def idxSub (a b : Nat) : Nat := (a + 2 ^ 32 - b % 2 ^ 32) % 2 ^ 32

/-- Entries in use: P − C of R316. -/
def State.ringUsed (s : State) (r : Nat) : Nat :=
  idxSub (s.get (A.rgr r) RG_PROD_PROD)
    (if s.isResult r then s.get (A.rgr r) RG_CONS_CONS else s.get (A.rgr r) RG_DONE_DONE)

/-- Free entries a producer finds in RESULT ring `r`: none unless it is RUNNING and its memory is served
(R318, R390). -/
def State.ringFree (s : State) (r : Nat) : Nat :=
  if s.isResult r && s.ringState r == 1 && s.ringServed r then s.ringSize r - s.ringUsed r else 0

/-- Address of entry `i` of ring `r`. -/
def State.ringEntry (s : State) (r i : Nat) : Nat := s.get (A.rgr r) RG_BASE_DA + i % s.ringSize r * 64

/-- Send a RING event for ring `r` (R309). -/
def State.ringEvent (s : State) (r : Nat) : State :=
  let x := s.ring r
  let s := s.setRing r { x with evCount := x.advance, evAt := s.time.clk }
  s.formEvent 5
    (be 1 r ++ be 1 (s.ringState r) ++ be 1 (s.get (A.rgr r) RG_STATE_ERR_CODE) ++ be 1 0 ++
     be 4 (s.get (A.rgr r) RG_PROD_PROD) ++ be 4 (s.get (A.rgr r) RG_CONS_CONS) ++
     be 4 (s.get (A.rgr r) RG_DONE_DONE) ++ be 4 (s.get (A.rgr r) RG_DONE_PUSH_DONE) ++ be 4 0)

/-- Count one completion or production of ring `r`, and send a RING event when THRESH of them are due (R325). -/
def State.ringAdvance (s : State) (r : Nat) : State :=
  let x := s.ring r
  let s := s.setRing r { x with advance := x.advance + 1 }
  let t := s.get (A.rgr r) RG_NOTIFY_THRESH
  if t ≠ 0 ∧ x.advance + 1 - x.evCount ≥ t then s.ringEvent r else s

/-- Write one 64-byte record into RESULT ring `r`, which has a free entry, and advance PROD. -/
def State.ringPut (s : State) (r : Nat) (ws : List Nat) : State :=
  let p := s.get (A.rgr r) RG_PROD_PROD
  let s := s.setMemWords (s.ringEntry r p) ws
  let s := s.put (A.rgr r) RG_PROD_PROD (p + 1)
  let s := s.bump (A.rgr r) RG_CNT_DONE_COUNT
  let s := if s.ringUsed r = s.ringSize r then s.raise (A.rgr r) RG_EVENT_FLAGS 1 else s
  s.ringAdvance r

/-! ## The journal (R287–R292) -/

/-- Object kinds of R287. -/
def objNone : Nat := 0
/-- A port. -/
def objPort : Nat := 1
/-- A stream. -/
def objStream : Nat := 2
/-- A cell. -/
def objCell : Nat := 3
/-- A node. -/
def objNode : Nat := 4
/-- A ring. -/
def objRing : Nat := 5
/-- A DMA channel. -/
def objDma : Nat := 6
/-- A slice. -/
def objSlice : Nat := 7
/-- A DDR5 channel. -/
def objDdr : Nat := 8
/-- A register address. -/
def objReg : Nat := 9
/-- A feed source entry. -/
def objSource : Nat := 10

/-- Report source of block `k` of slice `n` (R288). -/
def srcSlice (n k : Nat) : Nat := 64 + n * 64 + k

/-- Severity of an event code (R289); OTHER defaults to WARN. -/
def severity (code : Nat) : Nat :=
  if code = 0x0001 then 0
  else if code = 0x0003 then 3
  else if code ∈ [0x0010, 0x0011, 0x0023, 0x0026, 0x0050, 0x0051, 0x0060, 0x0061, 0x0070] then 2
  else 1

/-- One report: its code, severity, object and DETAIL1. -/
structure Report where
  code : Nat
  sev : Nat
  kind : Nat
  object : Nat
  detail : Nat
  deriving DecidableEq, Repr

/-- Units of one token. -/
def tokenUnit : Nat := 1000000000

/-- Units in the bucket of source `src` now: it gains RATE tokens per second up to BURST, and is full after Reset. -/
def State.tokens (s : State) (src : Nat) : Nat :=
  match SMap.get none s.journal.buckets src with
  | none => min (s.get (A.jrs src) JR_SRC_CTRL_BURST * tokenUnit) (16 * tokenUnit + s.get (A.jrs src) JR_SRC_CTRL_RATE * s.time.clk)
  | some b => min (s.get (A.jrs src) JR_SRC_CTRL_BURST * tokenUnit)
      (b.units + s.get (A.jrs src) JR_SRC_CTRL_RATE * s.since b.at_)

/-- Fix the bucket's contents as of now, less `n` units. -/
def State.settleBucket (s : State) (src n : Nat) : State :=
  { s with journal := { s.journal with
      buckets := SMap.set none src (some ⟨s.tokens src - n, s.time.clk⟩) s.journal.buckets } }

/-- The journal ring. -/
def State.jrRing (s : State) : Nat := s.get A.jr JR_CTRL_RING

/-- A STAMP_REF entry is due before the next entry (R292, R295). -/
def State.jrRefDue (s : State) : Bool :=
  s.on A.jr JR_CTRL_SHORT &&
    (s.journal.refDue || match s.journal.lastRef with
      | none => true
      | some q => decide (secQ ≤ s.nowQ - q))

/-- The journal ring takes `n` entries now, with a due STAMP_REF before them. -/
def State.jrRoom (s : State) (n : Nat) : Bool :=
  s.on A.jr JR_CTRL_EN && decide (n + bit s.jrRefDue ≤ s.ringFree s.jrRing)

/-- The eight words of an entry (R287). -/
def entryWords (seq src : Nat) (r : Report) (coalesced : Bool) (count first last lost : Nat) (short : Bool) : List Nat :=
  [ seq,
    r.code % 65536 * 2 ^ 48 + r.sev % 8 * 2 ^ 45 + bit coalesced * 2 ^ 44 + src % 1024 * 2 ^ 32 + min count (2 ^ 32 - 1),
    if short then shortOf first * 2 ^ 32 + shortOf last else secOf first,
    if short then 0 else nsWord first,
    if coalesced && !short then secOf last else 0,
    if coalesced && !short then nsWord last else 0,
    if coalesced then min lost (2 ^ 32 - 1) * 2 ^ 32 else r.detail % 2 ^ 32,
    r.kind % 16 * 2 ^ 60 + r.object % 2 ^ 60 ]

/-- Write one entry, which has room, and send its event (R292, R293). -/
def State.jrWrite (s : State) (sev : Nat) (ws : List Nat) : State :=
  let s := s.ringPut s.jrRing ws
  let s := s.inc A.jr JR_SEQ_NEXT 1
  let s := s.bump A.jr JR_CNT_ENTRIES_COUNT
  if s.on A.jr JR_CTRL_EV_EN && decide (s.get A.jr JR_CTRL_EV_SEV ≤ sev) then
    s.formEvent 1 (ws.flatMap (be 8))
  else s

/-- Write the STAMP_REF entry that is due (R292). -/
def State.jrRef (s : State) : State :=
  if s.jrRefDue then
    let q := s.nowQ
    let s := s.jrWrite 0 (entryWords (s.get A.jr JR_SEQ_NEXT) 13 ⟨0x0001, 0, 0, 0, 0⟩ false 1 q q 0 false)
    { s with journal := { s.journal with lastRef := some q, refDue := false } }
  else s

/-- Write an entry with any STAMP_REF it needs. -/
def State.jrEntry (s : State) (src : Nat) (r : Report) (coalesced : Bool) (count first last lost : Nat) : State :=
  let s := s.jrRef
  s.jrWrite r.sev
    (entryWords (s.get A.jr JR_SEQ_NEXT) src r coalesced count first last lost (s.on A.jr JR_CTRL_SHORT))

/-- Set the coalescer of a source and what its registers show. -/
def State.setCoal (s : State) (src : Nat) (c : Option Coalescer) : State :=
  let j := { s.journal with coal := SMap.set none src c s.journal.coal }
  let s := { s with journal := j }
  let s := s.put A.jr JR_STATUS_BUSY j.coal.length
  s.put (A.jrs src) JR_SRC_STATE_BUSY (bit c.isSome)

/-- Fold a report into its source's coalescer (R290). -/
def State.jrFold (s : State) (src : Nat) (r : Report) : State :=
  let q := s.nowQ
  let b := A.jrs src
  match SMap.get none s.journal.coal src with
  | none =>
    let s := s.setCoal src (some ⟨r.sev, r.kind, r.object, q, q⟩)
    let s := (s.put b JR_SRC_COAL_COUNT 1).put b JR_SRC_COAL_LOST 0
    let s := (s.put b JR_SRC_FIRST_SEC_SEC (secOf q)).put b JR_SRC_FIRST_NS_NS (nsOf q)
    let s := (s.put b JR_SRC_LAST_SEC_SEC (secOf q)).put b JR_SRC_LAST_NS_NS (nsOf q)
    s.put b JR_SRC_STATE_CODE r.code
  | some c =>
    let s := s.setCoal src (some { c with last := q })
    let s := s.put b JR_SRC_COAL_COUNT (min (s.get b JR_SRC_COAL_COUNT + 1) (2 ^ 32 - 1))
    let s := (s.put b JR_SRC_LAST_SEC_SEC (secOf q)).put b JR_SRC_LAST_NS_NS (nsOf q)
    if s.get b JR_SRC_STATE_CODE = r.code then s
    else s.put b JR_SRC_COAL_LOST (min (s.get b JR_SRC_COAL_LOST + 1) (2 ^ 32 - 1))

/-- Hand a report to its source: a plain entry, or a fold (R290). -/
def State.reportAs (s : State) (src : Nat) (r : Report) : State :=
  let s := s.bump (A.jrs src) JR_SRC_CNT_COUNT
  if (SMap.get none s.journal.coal src).isNone && decide (tokenUnit ≤ s.tokens src) && s.jrRoom 1 then
    let s := s.settleBucket src tokenUnit
    s.jrEntry src r false 1 s.nowQ s.nowQ 0
  else
    let full := s.on A.jr JR_CTRL_EN && !s.jrRoom 1
    let s := { s with journal := { s.journal with wasFull := s.journal.wasFull || full } }
    s.jrFold src r

/-- Report an event of R289 with its own severity. -/
def State.report (s : State) (src code kind object detail : Nat) : State :=
  s.reportAs src ⟨code, severity code, kind, object, detail⟩

/-- Report an event that R289 does not list: code OTHER. -/
def State.reportOther (s : State) (src kind object detail : Nat) : State :=
  s.report src 0x00FF kind object detail

/-- Flush the coalescer of a source into one COALESCED entry if a token is present and `spare` further entries of room
would be left (R291). -/
def State.jrFlush (s : State) (src spare : Nat) : State :=
  match SMap.get none s.journal.coal src with
  | none => s
  | some c =>
    if tokenUnit ≤ s.tokens src ∧ s.jrRoom (1 + spare) then
      let b := A.jrs src
      let s := s.settleBucket src tokenUnit
      let s := s.jrEntry src ⟨s.get b JR_SRC_STATE_CODE, c.sev, c.kind, c.object, 0⟩ true
        (s.get b JR_SRC_COAL_COUNT) c.first c.last (s.get b JR_SRC_COAL_LOST)
      let s := s.bump A.jr JR_CNT_COALESCED_COUNT
      let s := s.setCoal src none
      let s := (s.put b JR_SRC_COAL_COUNT 0).put b JR_SRC_COAL_LOST 0
      let s := (s.put b JR_SRC_FIRST_SEC_SEC 0).put b JR_SRC_FIRST_NS_NS 0
      let s := (s.put b JR_SRC_LAST_SEC_SEC 0).put b JR_SRC_LAST_NS_NS 0
      s.put b JR_SRC_STATE_CODE 0
    else s

/-- One flush pass after the ring was full: every non-empty coalescer in ascending source order, one entry each, then
the entry of source 13 that counts them (R291). -/
def State.jrPass (s : State) : State :=
  if s.journal.wasFull && s.jrRoom 1 then
    let srcs := s.journal.coal.map (·.1)
    let t := srcs.foldl (fun t src => t.jrFlush src 1) s
    let n := srcs.length - t.journal.coal.length
    let left := !t.jrRoom 2 && !t.journal.coal.isEmpty
    let t := t.jrEntry 13 ⟨0x00FF, 0, 0, 0, 0⟩ true n t.nowQ t.nowQ 0
    let t := t.bump A.jr JR_CNT_COALESCED_COUNT
    { t with journal := { t.journal with wasFull := left } }
  else s

/-- Count a report of a class that is written at most once per second, and write it when the second has passed: `mk`
makes the report from the count since the previous entry. -/
def State.limited (s : State) (key : Nat) (n : Nat) (mk : Nat → State → State) : State :=
  let l := SMap.get {} s.journal.limits key
  let c := l.count + n
  let due := match l.last with
    | none => true
    | some t => decide (1000000000 ≤ s.since t)
  let l' : Limiter := if due then ⟨some s.time.clk, 0⟩ else ⟨l.last, c⟩
  let s := { s with journal := { s.journal with limits := SMap.set {} key l' s.journal.limits } }
  if due then mk c s else s

end Sys2Proof.Machine
end

