-- ==== Sys2Proof/Machine/Operands.lean ====
section
/-!
DEFINITION. The forms of what commands carry: Ethernet, IP and UDP headers, replay envelopes and grants (R93, R94,
R104, R105), PTP messages (R37, R87, R88), and LLDPDUs (R168).
-/

namespace Sys2Proof.Machine

/-! ## Ethernet -/

/-- Offset of the EtherType after at most `n` VLAN tags whose TPIDs are in `tpids`, starting at `off`. -/
def skipTags (tpids : List Nat) : Nat → Bytes → Nat → Nat
  | 0, _, off => off
  | n + 1, b, off => if tpids.contains (rd b off 2) then skipTags tpids n b (off + 4) else off

/-- Slice of a module-wide lane (R13). -/
def sliceOf (l : Nat) : Nat := l / 64

/-- The TPIDs a slice recognises (R216). -/
def State.tpids (s : State) (n : Nat) : List Nat := [0x8100, 0x88A8, s.get (A.pr n) PR_CTRL_TPID_X]

/-- An Ethernet frame with FCS: addresses, an optional VLAN tag, EtherType and payload, padded to 60 bytes. -/
def ethFrame (dst src : Nat) (tag : Option Nat) (et : Nat) (payload : Bytes) : Bytes :=
  let h := be 6 dst ++ be 6 src ++ (match tag with | some t => be 2 0x8100 ++ be 2 t | none => []) ++ be 2 et ++ payload
  withFcs (h ++ List.replicate (60 - h.length) 0)

/-! ## IP and UDP -/

/-- Sum of the 16-bit big-endian words of a byte string, the last byte padded with 0. -/
def wordSum : Bytes → Nat
  | [] => 0
  | [a] => a.toNat * 256
  | a :: b :: t => a.toNat * 256 + b.toNat + wordSum t

/-- Ones' complement folding of a sum to 16 bits. -/
def foldSum (n : Nat) : Nat := if n = 0 then 0 else (n - 1) % 65535 + 1

/-- An IP header: version 6, addresses, offset of the payload, protocol. -/
structure IpHdr where
  v6 : Bool
  src : Nat
  dst : Nat
  off : Nat
  proto : Nat
  deriving DecidableEq, Repr

/-- The IP header after EtherType offset `et`, without IPv6 extensions, IPv4 options or fragments (R93). -/
def plainIp (b : Bytes) (et : Nat) : Option IpHdr :=
  let o := et + 2
  if rd b et 2 = 0x86DD ∧ o + 40 ≤ b.length ∧ rd b o 1 / 16 = 6 then
    some ⟨true, rd b (o + 8) 16, rd b (o + 24) 16, o + 40, rd b (o + 6) 1⟩
  else if rd b et 2 = 0x0800 ∧ o + 20 ≤ b.length ∧ rd b o 1 = 0x45 ∧ rd b (o + 6) 2 % 0x4000 = 0 then
    some ⟨false, rd b (o + 12) 4, rd b (o + 16) 4, o + 20, rd b (o + 9) 1⟩
  else none

/-- Sum of the pseudo-header of RFC 768 and RFC 8200. -/
def pseudoSum (h : IpHdr) (proto len : Nat) : Nat :=
  let n := if h.v6 then 16 else 4
  wordSum (be n h.src) + wordSum (be n h.dst) + proto + len % 65536 + len / 65536

/-- The UDP checksum at `h.off` is right; an IPv4 checksum of 0 is not checked (R97). -/
def udpOk (b : Bytes) (h : IpHdr) : Bool :=
  let len := rd b (h.off + 4) 2
  (!h.v6 && rd b (h.off + 6) 2 == 0) ||
    (rd b (h.off + 6) 2 != 0 && foldSum (pseudoSum h 17 len + wordSum (slice b h.off len)) == 65535)

/-- The IPv4 header of a UDP datagram of `len` bytes. -/
def ipv4Header (src dst len : Nat) : Bytes :=
  let h := be 1 0x45 ++ be 1 0 ++ be 2 (20 + len) ++ be 2 0 ++ be 2 0 ++ be 1 64 ++ be 1 17 ++ be 2 0 ++ be 4 src ++ be 4 dst
  wr h 10 (be 2 (65535 - foldSum (wordSum h)))

/-- The IPv6 header of a UDP datagram of `len` bytes. -/
def ipv6Header (src dst len : Nat) : Bytes :=
  be 4 0x60000000 ++ be 2 len ++ be 1 17 ++ be 1 64 ++ be 16 src ++ be 16 dst

/-- EtherType and payload of a UDP datagram; IP header fields that the spec does not name are those of log entry 6. -/
def udpPayload (v6 : Bool) (src dst sport dport : Nat) (body : Bytes) : Nat × Bytes :=
  let len := 8 + body.length
  let u := be 2 sport ++ be 2 dport ++ be 2 len ++ be 2 0 ++ body
  let sum := 65535 - foldSum (pseudoSum ⟨v6, src, dst, 0, 17⟩ 17 len + wordSum u)
  let u := wr u 6 (be 2 (if sum = 0 then 65535 else sum))
  if v6 then (0x86DD, ipv6Header src dst len ++ u) else (0x0800, ipv4Header src dst len ++ u)

/-! ## Replay envelopes (R93, R94) -/

/-- A recognised replay envelope. `udpLen` is the UDP length field, `inner` what follows the envelope header. -/
structure Envelope where
  ip : IpHdr
  udpLen : Nat
  udpGood : Bool
  header : Bytes
  inner : Bytes
  deriving DecidableEq, Repr

namespace EnvF
/-- VER. -/
def ver (e : Envelope) : Nat := rd e.header 0 2 / 4096
/-- FLAGS. -/
def flags (e : Envelope) : Nat := rd e.header 0 2 % 4096
/-- HLEN. -/
def hlen (e : Envelope) : Nat := rd e.header 2 1
/-- KIND. -/
def kind (e : Envelope) : Nat := rd e.header 3 1
/-- STREAM_ID. -/
def streamId (e : Envelope) : Nat := rd e.header 4 4
/-- SEQ. -/
def seq (e : Envelope) : Nat := rd e.header 8 8
/-- EPOCH. -/
def epoch (e : Envelope) : Nat := rd e.header 16 2
/-- LAUNCH_SEC. -/
def sec (e : Envelope) : Nat := rd e.header 18 6
/-- LAUNCH_NS. -/
def ns (e : Envelope) : Nat := rd e.header 24 4
/-- The scene launch time. -/
def scene (e : Envelope) : Nat := ofStamp (sec e) (ns e) (rd e.header 28 2)
/-- PAYLOAD_LEN. -/
def plen (e : Envelope) : Nat := rd e.header 30 2
/-- REWRITE_ID. -/
def rewrite (e : Envelope) : Nat := rd e.header 32 2
/-- AGE. -/
def age (e : Envelope) : Nat := rd e.header 34 1
/-- ORIG_NS. -/
def orig (e : Envelope) : Nat := rd e.header 36 4
/-- HCRC is right. -/
def hcrcOk (e : Envelope) : Bool := rd e.header 44 4 == crc32c (e.header.take 44)
end EnvF

/-- The replay envelope in a frame received on slice `n`, if the slice recognises one (R93). `b` includes the FCS. -/
def State.envelope? (s : State) (n : Nat) (b : Bytes) : Option Envelope :=
  if s.on (A.fd n) FD_CTRL_EN then
    match plainIp b (skipTags (s.tpids n) 2 b 12) with
    | some h =>
      if h.proto = 17 ∧ (if h.v6 then s.on (A.fd n) FD_CTRL_IPV6_EN else s.on (A.fd n) FD_CTRL_IPV4_EN) ∧
          rd b (h.off + 2) 2 = s.get (A.fd n) FD_CTRL_ENV_PORT ∧ b.length ≤ 16000 then
        let len := rd b (h.off + 4) 2
        some ⟨h, len, udpOk b h, slice b (h.off + 8) 48, slice b (h.off + 56) (len - 56)⟩
      else none
    | none => none
  else none

/-- An envelope header with its HCRC (R94, R284). -/
def envelopeHeader (flags kind streamId seq epoch launch plen w32 age orig : Nat) : Bytes :=
  let h := be 2 (4096 + flags) ++ be 1 12 ++ be 1 kind ++ be 4 streamId ++ be 8 seq ++ be 2 epoch ++
    be 6 (secOf launch) ++ be 4 (nsOf launch) ++ be 2 (fracOf launch) ++ be 2 plen ++ be 2 w32 ++ be 1 age ++ be 1 0 ++
    be 4 orig ++ be 4 0
  h ++ be 4 (crc32c h)

/-- A grant record's contents (R104). -/
structure Grant where
  flags : Nat
  streamId : Nat
  seq : Nat
  epoch : Nat
  horizon : Nat
  range : Nat
  cell : Nat
  lead : Nat
  lateLo : Nat
  deriving DecidableEq, Repr

/-- A grant record on the wire (R104). -/
def grantBytes (g : Grant) : Bytes :=
  let h := be 2 (4096 + g.flags) ++ be 1 12 ++ be 1 0x10 ++ be 4 g.streamId ++ be 8 g.seq ++ be 2 g.epoch ++
    be 6 (secOf g.horizon) ++ be 4 (nsOf g.horizon) ++ be 2 (fracOf g.horizon) ++ be 2 g.range ++ be 2 g.cell ++ be 2 0 ++
    be 4 g.lead ++ be 4 g.lateLo
  h ++ be 4 (crc32c h)

/-- The frame of a grant datagram to source entry `i` of slice `n` (R105). -/
def State.grantFrame (s : State) (n i : Nat) (records : Bytes) : Bytes :=
  let e := A.fds n i
  let v6 := s.on e FD_SRC_CTRL_IPV6
  let src := if v6 then s.get (A.fd n) FD_GRANT_IP6_HI_ADDR * 2 ^ 64 + s.get (A.fd n) FD_GRANT_IP6_LO_ADDR
    else s.get (A.fd n) FD_GRANT_IP4_ADDR
  let dst := if v6 then s.get e FD_SRC_IP_HI_ADDR * 2 ^ 64 + s.get e FD_SRC_IP_LO_ADDR
    else s.get e FD_SRC_IP_LO_ADDR % 2 ^ 32
  let p := udpPayload v6 src dst (s.get (A.fd n) FD_CTRL_GRANT_SPORT) (s.get e FD_SRC_UDP_DPORT) records
  let tag := if s.on e FD_SRC_UDP_VLAN_EN then some (s.get e FD_SRC_UDP_PCP * 8192 + s.get e FD_SRC_UDP_VID) else none
  ethFrame (s.get e FD_SRC_MAC_MAC) (s.get (A.fd n) FD_GRANT_MAC_MAC) tag p.1 p.2

/-! ## PTP messages (log entry 7: layouts of IEEE 802.1AS-2020) -/

/-- The 34-byte header of a message of `len` bytes. -/
def ptpHeader (sdo type len domain flags corr clockId port seq control interval : Nat) : Bytes :=
  be 1 (sdo * 16 + type) ++ be 1 0x12 ++ be 2 len ++ be 1 domain ++ be 1 0 ++ be 2 flags ++ be 8 corr ++ be 4 0 ++
    be 8 clockId ++ be 2 port ++ be 2 seq ++ be 1 control ++ be 1 interval

/-- A gPTP message from port `l` as a frame. -/
def State.gptpFrame (s : State) (l : Nat) (msg : Bytes) : Bytes :=
  ethFrame 0x0180C200000E (((s.port? l).map (·.mac)).getD 0) none 0x88F7 msg

/-- A two-step Sync. -/
def syncMsg (domain clockId port seq interval : Nat) : Bytes :=
  ptpHeader 1 0 44 domain 0x0200 0 clockId port seq 0 interval ++ be 10 0

/-- A Follow_Up with its information TLV. -/
def followUpMsg (domain clockId port seq interval origin corr rateOff tbi phase freq : Nat) : Bytes :=
  ptpHeader 1 8 76 domain 0 corr clockId port seq 2 interval ++ be 6 (secOf origin) ++ be 4 (nsOf origin) ++
    be 2 3 ++ be 2 28 ++ be 3 0x0080C2 ++ be 3 1 ++ be 4 rateOff ++ be 2 tbi ++ be 12 phase ++ be 4 freq

/-- An Announce with its path trace TLV. -/
def announceMsg (domain clockId port seq interval prio1 quality prio2 gm steps source flags : Nat) : Bytes :=
  ptpHeader 1 11 76 domain flags 0 clockId port seq 5 interval ++ be 10 0 ++ be 2 0 ++ be 1 0 ++ be 1 prio1 ++
    be 4 quality ++ be 1 prio2 ++ be 8 gm ++ be 2 steps ++ be 1 source ++ be 2 8 ++ be 2 8 ++ be 8 clockId

/-- A Pdelay_Req. -/
def pdelayReqMsg (clockId port seq interval : Nat) : Bytes :=
  ptpHeader 1 2 54 0 0 0 clockId port seq 5 interval ++ be 20 0

/-- A Pdelay_Resp (type 3) or Pdelay_Resp_Follow_Up (type 10) to the port identity `req`. -/
def pdelayRespMsg (type clockId port seq stamp req : Nat) : Bytes :=
  ptpHeader 1 type 54 0 (if type = 3 then 0x0200 else 0) (fracOf stamp) clockId port seq 5 0x7F ++ be 6 (secOf stamp) ++
    be 4 (nsOf stamp) ++ be 10 req

/-- A Delay_Req of IEEE 1588. -/
def delayReqMsg (domain clockId port seq : Nat) : Bytes :=
  ptpHeader 0 1 44 domain 0 0 clockId port seq 1 0x7F ++ be 10 0

/-! ## LLDP (R168; log entry 7) -/

/-- An LLDPDU with chassis and port identifiers, its TTL and the additional Ethernet capabilities TLV. -/
def lldpFrame (mac lane ttl caps : Nat) : Bytes :=
  ethFrame 0x0180C200000E mac none 0x88CC
    (be 2 0x0207 ++ be 1 4 ++ be 6 mac ++ be 2 0x0403 ++ be 1 7 ++ be 2 lane ++ be 2 0x0602 ++ be 2 ttl ++
     be 2 0xFE06 ++ be 3 0x00120F ++ be 1 7 ++ be 2 caps ++ be 2 0)

/-! ## Signed fields -/

/-- `x` cut to the range of an `n`-bit signed field. -/
def saturate (n : Nat) (x : Int) : Int :=
  if x > 2 ^ (n - 1) - 1 then 2 ^ (n - 1) - 1 else if x < -(2 ^ (n - 1)) then -(2 ^ (n - 1)) else x

/-- `a / b` to the nearest integer, halves upward. -/
def roundDiv (a : Int) (b : Nat) : Int := (2 * a + b) / (2 * b : Nat)

/-- Ceiling of a natural quotient. -/
def ceilDiv (a b : Nat) : Nat := (a + b - 1) / b

end Sys2Proof.Machine
end

