-- ==== Sys2Proof/Machine/Segments.lean ====
section
/-!
DEFINITION. Scene clock arithmetic: the segment in force and the queued ones as their registers hold them, scene time
at a physical instant, and the physical instant of a scene launch time (spec/03_scene_clocks.md R65–R69, R81, R82).
-/

namespace Sys2Proof.Machine

/-- The instant held in a seconds field and the nanosecond and fraction fields beside it. -/
def State.stamp (s : State) (b : Nat) (fs fn ff : Fld) : Nat := ofStamp (s.get b fs) (s.get b fn) (s.get b ff)

/-- Store an instant in a seconds field and the nanosecond and fraction fields beside it. -/
def State.putStamp (s : State) (b : Nat) (fs fn ff : Fld) (q : Nat) : State :=
  ((s.put b fs (secOf q)).put b fn (nsOf q)).put b ff (fracOf q)

/-- Scene clock state beyond the registers. -/
def State.scene (s : State) (c : Nat) : SceneState := SMap.get {} s.scenes c

/-- Store scene clock state. -/
def State.setScene (s : State) (c : Nat) (x : SceneState) : State := { s with scenes := SMap.set {} c x s.scenes }

/-- Scene clock `c` is defined by the image. -/
def State.isScene (s : State) (c : Nat) : Bool := decide (c < s.get A.sc SC_INFO_CELLS)

/-- SC_STATUS.STATE: 0 IDLE, 1 RUNNING, 2 PAUSED. -/
def State.sceneMode (s : State) (c : Nat) : Nat := s.get (A.scc c) SC_STATUS_STATE

/-- The segment in force; none while the clock is IDLE. -/
def State.curSeg (s : State) (c : Nat) : Option Segment :=
  let b := A.scc c
  if s.sceneMode c = 0 then none
  else some { pa := s.stamp b SC_CUR_PHYS_SEC_SEC SC_CUR_PHYS_NS_NS SC_CUR_PHYS_NS_FRAC,
              sa := s.stamp b SC_CUR_SCENE_SEC_SEC SC_CUR_SCENE_NS_NS SC_CUR_SCENE_NS_FRAC,
              rate := s.get b SC_CUR_RATE_RATE, epoch := s.get b SC_CUR_SCENE_SEC_EPOCH }

/-- Queue entry `k`. -/
def State.queueSeg (s : State) (c k : Nat) : Segment :=
  let b := A.scq c k
  { pa := s.stamp b SC_QUEUE_PHYS_SEC_SEC SC_QUEUE_PHYS_NS_NS SC_QUEUE_PHYS_NS_FRAC,
    sa := s.stamp b SC_QUEUE_SCENE_SEC_SEC SC_QUEUE_SCENE_NS_NS SC_QUEUE_SCENE_NS_FRAC,
    rate := s.get b SC_QUEUE_RATE_RATE, epoch := s.get b SC_QUEUE_SCENE_SEC_EPOCH,
    kind := s.get b SC_QUEUE_PHYS_SEC_KIND, tag := s.get b SC_QUEUE_TAG_TAG,
    adjusted := s.on b SC_QUEUE_PHYS_NS_ADJUSTED }

/-- The queued segments in switch order. -/
def State.queueSegs (s : State) (c : Nat) : List Segment :=
  (List.range (s.get (A.scc c) SC_STATUS_QUEUE_COUNT)).map (s.queueSeg c)

/-- Store queue entry `k`. -/
def State.putQueueSeg (s : State) (c k : Nat) (g : Segment) : State :=
  let b := A.scq c k
  let s := s.put b SC_QUEUE_PHYS_SEC_VALID 1
  let s := s.put b SC_QUEUE_PHYS_SEC_KIND g.kind
  let s := s.putStamp b SC_QUEUE_PHYS_SEC_SEC SC_QUEUE_PHYS_NS_NS SC_QUEUE_PHYS_NS_FRAC g.pa
  let s := s.put b SC_QUEUE_PHYS_NS_ADJUSTED (bit g.adjusted)
  let s := s.put b SC_QUEUE_SCENE_SEC_EPOCH g.epoch
  let s := s.putStamp b SC_QUEUE_SCENE_SEC_SEC SC_QUEUE_SCENE_NS_NS SC_QUEUE_SCENE_NS_FRAC g.sa
  (s.put b SC_QUEUE_RATE_RATE g.rate).put b SC_QUEUE_TAG_TAG g.tag

/-- Replace the queue of clock `c`. -/
def State.setQueueSegs (s : State) (c : Nat) (gs : List Segment) : State :=
  let s := s.clearWords (fun a => decide (A.scq c 0 ≤ a ∧ a < A.scq c 16))
  let s := (gs.zipIdx).foldl (fun s e => s.putQueueSeg c e.2 e.1) s
  s.put (A.scc c) SC_STATUS_QUEUE_COUNT gs.length

/-- The segment in force and the queued ones. -/
def State.segments (s : State) (c : Nat) : List Segment := (s.curSeg c).toList ++ s.queueSegs c

/-- Scene time of segment `g` at `p` (R65). -/
def sceneOn (g : Segment) (p : Nat) : Nat := g.sa + g.rate * (p - g.pa) / 2 ^ 32

/-- The segment in force at `p` among `gs`, which lie in switch order. -/
def segAt : List Segment → Nat → Option Segment
  | [], _ => none
  | [g], _ => some g
  | g :: h :: t, p => if p < h.pa then some g else segAt (h :: t) p

/-- Epoch and scene time of clock `c` at physical instant `p`; none while IDLE and before the first queued switch. -/
def State.sceneTime (s : State) (c p : Nat) : Option (Nat × Nat) :=
  match segAt (s.segments c) p with
  | some g => if p < g.pa ∧ s.sceneMode c = 0 then none else some (g.epoch, sceneOn g p)
  | none => none

/-- Scene epoch and time reported for instant `p`: those of the current segment while none is in force. -/
def State.sceneStamp (s : State) (c p : Nat) : Nat × Nat :=
  (s.sceneTime c p).getD (s.get (A.scc c) SC_STATUS_EPOCH, 0)

/-- The earliest instant of segment `g` at which scene time is `x` or more; none at rate 0 beyond its anchor (R68). -/
def mapOn (g : Segment) (x : Nat) : Option Nat :=
  if x ≤ g.sa then some g.pa
  else if g.rate = 0 then none
  else some (g.pa + ceilDiv ((x - g.sa) * 2 ^ 32) g.rate)

/-- The physical instant of scene time `x` in epoch `e` (R68). A scene time inside the interval that a forward jump
skips has none (R72). `prev` is the segment before the head. -/
def mapScene (prev : Option Segment) : List Segment → Nat → Nat → Option Nat
  | [], _, _ => none
  | g :: t, e, x =>
    let skipped := match prev with
      | some f => f.epoch == g.epoch && g.kind == 1 && decide (sceneOn f g.pa ≤ x ∧ x < g.sa)
      | none => false
    let here := if g.epoch = e ∧ !skipped then mapOn g x else none
    match here, t with
    | some p, h :: _ => if p < h.pa then some p else mapScene (some g) t e x
    | some p, [] => some p
    | none, _ => mapScene (some g) t e x

/-- The physical instant of scene time `x` in epoch `e` of clock `c`. -/
def State.physOf (s : State) (c e x : Nat) : Option Nat := mapScene none (s.segments c) e x

/-- Conversion horizon H of clock `c` in units of 2^-16 ns. -/
def State.horizonQ (s : State) (c : Nat) : Nat := nsQ (s.get (A.scc c) SC_HORIZON_NS)

/-- Effective lead of a stream of clock `c` whose LEAD_NS is `lead` (R106). -/
def State.leadNs (s : State) (c lead : Nat) : Nat := max lead (s.get (A.scc c) SC_HORIZON_NS + 2000)

/-- The epochs a replay envelope may carry: the current one and those of queued segments (R79). -/
def State.epochKnown (s : State) (c e : Nat) : Bool :=
  e == s.get (A.scc c) SC_STATUS_EPOCH || (s.queueSegs c).any (fun g => g.epoch == e)

/-- The first switch of epoch `e` and the segment that follows its last one (R107). -/
def epochSpan : List Segment → Nat → Option (Segment × Segment × Option Segment)
  | [], _ => none
  | g :: t, e =>
    if g.epoch = e then
      let own := g :: t.takeWhile (fun h => h.epoch == e)
      some (g, own.getLast?.getD g, (t.dropWhile (fun h => h.epoch == e)).head?)
    else epochSpan t e

/-- The horizon of epoch `e` at physical instant `p` (R81, R107): scene time at `p` where the epoch is in force, its
first anchor before, its final scene time after; none where no segment of `e` defines one. -/
def State.epochHorizon (s : State) (c e p : Nat) : Option Nat :=
  match epochSpan (s.segments c) e with
  | none => none
  | some (first, last, next) =>
    match next with
    | some h => if h.pa ≤ p then some (sceneOn last h.pa)
        else if p < first.pa then some first.sa else (s.sceneTime c p).map (·.2)
    | none => if p < first.pa then some first.sa else (s.sceneTime c p).map (·.2)

/-- Scene segments of clock `c` moved by a physical step (R49). -/
def State.moveSegments (s : State) (c : Nat) (d : Int) : State :=
  let b := A.scc c
  let s := match s.curSeg c with
    | some g => s.putStamp b SC_CUR_PHYS_SEC_SEC SC_CUR_PHYS_NS_NS SC_CUR_PHYS_NS_FRAC (moveQ g.pa d)
    | none => s
  s.setQueueSegs c ((s.queueSegs c).map (fun g => { g with pa := moveQ g.pa d }))

end Sys2Proof.Machine
end

