-- ==== Sys2Proof/Machine/Count.lean ====
section
/-!
DEFINITION. Event counters, bandwidth window counts and launch samples as the other chapters feed them
(spec/13_measurement.md R343–R345, R348, R352–R354).
-/

namespace Sys2Proof.Machine

/-- The window of a port: in progress, or still to begin at its start. -/
def State.anyWindow (s : State) (l : Nat) : Option Window := SMap.get none s.windows l

/-- The window in progress on a port. -/
def State.window (s : State) (l : Nat) : Option Window := (s.anyWindow l).filter (fun w => decide (w.start ≤ s.nowQ))

/-- Store the window in progress on a port. -/
def State.setWindow (s : State) (l : Nat) (w : Option Window) : State := { s with windows := SMap.set none l w s.windows }

/-- The class filter `mask` passes class `cls`; events without a class ignore it (R344). -/
def classPasses (mask : Nat) (cls : Option Nat) : Bool :=
  match cls with
  | some k => mask.testBit k
  | none => true

/-- Count `n` of event `code` on port `l` in the event counters that select it (R345). -/
def State.evCount (s : State) (l code : Nat) (cls : Option Nat) (n : Nat) : State :=
  let slice := sliceOf l
  s.evcs.foldl (fun s e =>
    let c := e.2.cfg
    if e.1 / 64 = slice ∧ bitsOf c 63 63 = 1 ∧ bitsOf c 7 0 = code ∧ (bitsOf c 47 47 = 1 ∨ bitsOf c 53 48 = l % 64) ∧
        classPasses (bitsOf c 39 32) cls then
      s.add (A.mss slice) (MSS_EVC_COUNT (e.1 % 64)) n
    else s) s

/-- Count `n` of event `code` in the window in progress on port `l` (R349). -/
def State.bwEvent (s : State) (l code : Nat) (cls : Option Nat) (n : Nat) : State :=
  match s.window l with
  | none => s
  | some w =>
    if classPasses (bitsOf w.cfg 15 8) cls then
      s.setWindow l (some { w with
        e0 := if bitsOf w.cfg 23 16 = code then w.e0 + n else w.e0,
        e1 := if bitsOf w.cfg 31 24 = code then w.e1 + n else w.e1 })
    else s

/-- Count `n` of event `code` on port `l` in counters and window. -/
def State.event (s : State) (l code : Nat) (cls : Option Nat) (n : Nat) : State :=
  (s.evCount l code cls n).bwEvent l code cls n

/-- A received frame with a good FCS (R343). -/
def State.countRx (s : State) (l bytes : Nat) : State :=
  let s := (s.bump (A.msp l) MSS_RX_FRAMES_COUNT).add (A.msp l) MSS_RX_BYTES_COUNT bytes
  match s.window l with
  | none => s
  | some w => s.setWindow l (some { w with rxB := w.rxB + bytes, rxF := w.rxF + 1 })

/-- A frame starts on the wire: it counts in the window of its first-bit instant (R348). -/
def State.windowTx (s : State) (l bytes : Nat) (cls : Option Nat) (launch : Bool) : State :=
  match s.window l with
  | none => s
  | some w =>
    let s := s.setWindow l (some { w with
      txB := w.txB + bytes, txF := w.txF + 1,
      lB := if launch then w.lB + bytes else w.lB, lF := if launch then w.lF + 1 else w.lF })
    let s := (s.bwEvent l 3 cls 1).bwEvent l 4 cls bytes
    if launch then s.bwEvent l 5 cls 1 else s

/-- A frame has left whole (R343). -/
def State.countTx (s : State) (l bytes : Nat) (cls : Option Nat) (launch : Bool) : State :=
  let s := (s.bump (A.msp l) MSS_TX_FRAMES_COUNT).add (A.msp l) MSS_TX_BYTES_COUNT bytes
  let s := (s.evCount l 3 cls 1).evCount l 4 cls bytes
  if launch then s.evCount l 5 cls 1 else s

/-! ## Launch samples (R352–R354) -/

/-- What a launch sample says of one launch. -/
structure Sample where
  stream : Nat
  late : Bool := false
  dropped : Bool := false
  missed : Bool := false
  isRepeat : Bool := false
  kind : LaunchKind := .replay
  rtag : Nat := 0
  sched : Nat
  actual : Nat
  filedAt : Nat
  deriving DecidableEq, Repr

/-- The eight words of a launch sample record (R353); `cell` is the frame's first hold cell. -/
def sampleWords (l : Nat) (x : Sample) (reconf : Bool) (cell seq : Nat) : List Nat :=
  [ x.stream % 2 ^ 18 * 2 ^ 46 + l * 2 ^ 37 + bit x.late * 2 ^ 36 + bit x.dropped * 2 ^ 35 + bit x.missed * 2 ^ 34 +
      bit x.isRepeat * 2 ^ 33 + bit (x.kind == .substitute) * 2 ^ 32 + bit (x.kind == .forwarded) * 2 ^ 31 +
      bit reconf * 2 ^ 30 + (if x.kind = .substitute then 0 else cell % 2 ^ 21),
    x.rtag % 65536 * 2 ^ 48 + secOf x.sched,
    nsWord x.sched,
    if x.missed then 0 else secOf x.actual,
    if x.missed then 0 else nsWord x.actual,
    if x.missed then 0 else toTwos 64 ((x.actual : Int) - x.sched),
    (if x.kind = .substitute then 0 else min ((x.actual - x.filedAt) / 65536) (2 ^ 32 - 1)) * 2 ^ 32,
    seq ]

/-- Count one launch of port `l` down, and form its sample when the countdown reaches 0 (R352). -/
def State.sample (s : State) (l : Nat) (x : Sample) : State :=
  if s.on (A.msp l) MSS_LS_PORT_EN then
    let c := SMap.get {} s.samplers l
    let n := s.get (A.msp l) MSS_LS_PORT_N
    let left := c.left.getD n
    if left ≤ 1 then
      let s := { s with samplers := SMap.set {} l ⟨some n, false⟩ s.samplers }
      let slice := sliceOf l
      let seq := s.get (A.mss slice) MSS_LS_SEQ_NEXT
      let s := s.inc (A.mss slice) MSS_LS_SEQ_NEXT 1
      let buf := SMap.get [] s.lsBuf slice
      if buf.length < 8192 then
        let (cell, s) := s.fresh
        let s := { s with lsBuf := SMap.set [] slice (buf ++ [sampleWords l x c.reconf cell.toNat seq]) s.lsBuf }
        s.put (A.mss slice) MSS_LS_FILL_ENTRIES (buf.length + 1)
      else s.bump (A.mss slice) MSS_LS_LOST_COUNT
    else { s with samplers := SMap.set {} l ⟨some (left - 1), c.reconf⟩ s.samplers }
  else s

end Sys2Proof.Machine
end

