-- ==== Sys2Proof/Machine/CellTime.lean ====
section
/-!
DEFINITION. Cell time, the cycle matrix and its windows, and the window shadows that they hold on egress ports
(spec/07_cells.md R184–R194).
-/

namespace Sys2Proof.Machine

/-- A cell beyond its registers. -/
def State.cell (s : State) (c : Nat) : CellState := SMap.get {} s.cells c

/-- Store a cell. -/
def State.setCell (s : State) (c : Nat) (x : CellState) : State := { s with cells := SMap.set {} c x s.cells }

/-- The ports of cell `c`. -/
def State.cellPorts (s : State) (c : Nat) : List PortRec := s.image.ports.filter (fun p => p.cellPort && p.cell == c)

/-- The home slice of cell `c` (R192). -/
def State.homeSlice (s : State) (c : Nat) : Option Nat :=
  (s.cellPorts c).foldl (fun m p => some (min (m.getD 8) (sliceOf p.lane))) none

/-- Base of the cell's registers, in its home slice. -/
def State.cellBase (s : State) (c : Nat) : Nat := A.clc ((s.homeSlice c).getD 0) c

/-- The cell is enabled. -/
def State.cellOn (s : State) (c : Nat) : Bool := (s.homeSlice c).isSome && s.on (s.cellBase c) CL_CELL_CTRL_EN

/-- The cell's time master is EXTERNAL (R184). -/
def State.cellExternal (s : State) (c : Nat) : Bool := s.on (s.cellBase c) CL_CELL_CTRL_MASTER

/-- The cell correction C (R184). -/
def State.cellCorr (s : State) (c : Nat) : Int := if s.cellExternal c then s.getI (s.cellBase c) CL_CORR_C else 0

/-- Cell time of a physical instant. -/
def State.toCell (s : State) (c p : Nat) : Nat := moveQ p (s.cellCorr c)

/-- Physical instant of a cell time. -/
def State.fromCell (s : State) (c x : Nat) : Nat := moveQ x (-s.cellCorr c)

/-- Margin m of the cell in units of 2^-16 ns. -/
def State.marginQ (s : State) (c : Nat) : Nat := nsQ (s.get (s.cellBase c) CL_CELL_CTRL_MARGIN_NS)

/-- D of the cell in units of 2^-16 ns. -/
def State.starQ (s : State) (c : Nat) : Nat := nsQ (s.get (s.cellBase c) CL_CELL_CTRL_STAR_DELAY_NS)

/-! ## Windows (R187, R188) -/

/-- KIND of a window: 0 EXCLUSIVE, 1 ARBITRATING, 2 FREE. -/
def winKind (w : Nat × Nat) : Nat := bitsOf w.1 63 62
/-- CHAN. -/
def winChan (w : Nat × Nat) : Nat := bitsOf w.1 61 60
/-- SYNC. -/
def winSync (w : Nat × Nat) : Bool := w.1.testBit 59
/-- SUBST_MAX. -/
def winSubst (w : Nat × Nat) : Nat := bitsOf w.1 56 54
/-- OPEN_NS. -/
def winOpen (w : Nat × Nat) : Nat := bitsOf w.1 53 27
/-- LEN_NS. -/
def winLen (w : Nat × Nat) : Nat := bitsOf w.1 26 0
/-- NODE. -/
def winNode (w : Nat × Nat) : Nat := bitsOf w.2 63 50
/-- FRAME_LEN. -/
def winFrame (w : Nat × Nat) : Nat := bitsOf w.2 49 36
/-- ACTION_NS. -/
def winAction (w : Nat × Nat) : Nat := bitsOf w.2 26 0
/-- The window serves channel `ch` (0 A, 1 B). -/
def winOnChan (w : Nat × Nat) (ch : Nat) : Bool := (winChan w).testBit ch

/-- Matrix cycle length M in ns (R186). -/
def matrixLen (m : List Basic) : Nat := m.foldl (fun a b => a + b.len) 0

/-- One instance of a window: basic cycle, window number, its words, its open and close instants in cell time. -/
structure Inst where
  cyc : Nat
  win : Nat
  words : Nat × Nat
  opens : Nat
  closes : Nat
  deriving DecidableEq, Repr

/-- The windows of the basic cycles `m`, numbered from `b`, in a matrix cycle whose basic cycle `b` starts at `t`. -/
def cycleInsts : List Basic → Nat → Nat → List Inst
  | [], _, _ => []
  | x :: m, b, t =>
    (x.wins.zipIdx.map (fun e => ⟨b, e.2, e.1, t + nsQ (winOpen e.1), t + nsQ (winOpen e.1 + winLen e.1)⟩)) ++
      cycleInsts m (b + 1) (t + nsQ x.len)

/-- Matrix cycle starts around the one in progress: the previous, this and the next two, none before the first. -/
def State.cycleStarts (s : State) (c : Nat) : List Nat :=
  let x := s.cell c
  let m := nsQ (matrixLen x.oper)
  match x.cycleAt, x.base with
  | some t, some b => ([t - m, t, t + m, t + 2 * m].filter (fun u => decide (b ≤ u ∧ t ≤ u + m))).eraseDups
  | none, some b => [b, b + m]
  | _, none => []

/-- The window instances of channel `ch` around now (R186). -/
def State.insts (s : State) (c ch : Nat) : List Inst :=
  ((s.cycleStarts c).flatMap (cycleInsts (s.cell c).oper 0)).filter (fun i => winOnChan i.words ch)

/-- The window shadows of port `p` in physical time: opening, end, and the instant that stands for t0 in R132
(R194). -/
def State.windowShadows (s : State) (p : PortRec) : List (Nat × Nat × Nat) :=
  if p.cellPort && s.cellOn p.cell then
    let c := p.cell
    let m := s.marginQ c
    let d := s.starQ c
    ((s.insts c (bit p.channelB)).filter (fun i => winKind i.words != 2)).map (fun i =>
      let t0 := s.fromCell c (i.opens + d - m)
      (t0 - nsQ 32, s.fromCell c (i.closes + m + d), t0))
  else []

end Sys2Proof.Machine
end

