-- ==== Sys2Proof/Machine/GateList.lean ====
section
/-!
DEFINITION. Gate control list arithmetic, shared by port gate lists and stream gate lists: the entry in force, the
openings of a class, the checks of a commit and its ConfigChangeTime (spec/05_launch_gates.md R145–R155,
spec/08_parse_classify.md R242, R243).
-/

namespace Sys2Proof.Machine

/-- INTERVAL_NS of an entry. -/
def geInterval (e : Nat) : Nat := bitsOf e 31 0
/-- OP of a port gate list entry. -/
def geOp (e : Nat) : Nat := bitsOf e 59 56
/-- GATES of a port gate list entry. -/
def geGates (e : Nat) : Nat := bitsOf e 39 32

/-- The parts of one cycle: entry number, entry, start and end in ns from the cycle start, cut at `cycle`; the last
entry's states hold to the cycle's end (R146). -/
def cycleParts (cycle : Nat) : List Nat → Nat → Nat → List (Nat × Nat × Nat × Nat)
  | [], _, _ => []
  | [e], i, t => if t < cycle then [(i, e, t, cycle)] else []
  | e :: es, i, t =>
    if t < cycle then (i, e, t, min cycle (t + geInterval e)) :: cycleParts cycle es (i + 1) (t + geInterval e) else []

/-- The parts of a set's cycle. -/
def GateSet.parts (g : GateSet) : List (Nat × Nat × Nat × Nat) := cycleParts g.cycle g.entries 0 0

/-- Instants into the cycle in progress at `p`, in units of 2^-16 ns. -/
def GateSet.phase (g : GateSet) (p : Nat) : Nat := (p - g.base) % nsQ (max g.cycle 1)

/-- The part in force at `p`: entry number, entry, and the instant it began. -/
def GateSet.at_ (g : GateSet) (p : Nat) : Option (Nat × Nat × Nat) :=
  let x := g.phase p
  match g.parts.find? (fun e => decide (nsQ e.2.2.1 ≤ x ∧ x < nsQ e.2.2.2)) with
  | some e => some (e.1, e.2.1, p - x + nsQ e.2.2.1)
  | none => none

/-- The first instant at or after `p` at which `isOpen` fails, under the set alone; none if it never does. -/
def GateSet.closesAt (g : GateSet) (isOpen : Nat → Bool) (p : Nat) : Option Nat :=
  let x := g.phase p
  let shut := g.parts.filter (fun e => !isOpen e.2.1)
  match shut.find? (fun e => decide (x < nsQ e.2.2.2)) with
  | some e => some (p - x + max x (nsQ e.2.2.1))
  | none => shut.head?.map (fun e => p - x + nsQ g.cycle + nsQ e.2.2.1)

/-- Longest run of open parts in ns over two cycles; with no shut part the gate never closes. -/
def openRuns (isOpen : Nat → Bool) : List (Nat × Nat × Nat × Nat) → Nat → Nat → Nat
  | [], run, best => max run best
  | e :: t, run, best =>
    if isOpen e.2.1 then openRuns isOpen t (run + (e.2.2.2 - e.2.2.1)) best else openRuns isOpen t 0 (max run best)

/-- Longest opening of a set in ns; none while it never closes (R152). -/
def GateSet.longest (g : GateSet) (isOpen : Nat → Bool) : Option Nat :=
  if g.parts.all (fun e => isOpen e.2.1) then none else some (openRuns isOpen (g.parts ++ g.parts) 0 0)

/-- The latest start of a cycle of `g` at or before `p`. -/
def GateSet.cycleStart (g : GateSet) (p : Nat) : Nat := p - g.phase p

/-- A pending change at `cct` extends the old list's last cycle (R150). -/
def GateSet.extends (g : GateSet) (cct : Nat) : Bool :=
  let d := cct - g.cycleStart cct
  decide (0 < d ∧ d < nsQ g.ext)

/-- The part of an oper list in force at `p`, its last states held while a pending change at `cct` extends it
(R150). -/
def operAt (g : GateSet) (cct : Option Nat) (p : Nat) : Option (Nat × Nat × Nat) :=
  match cct with
  | some t => if g.extends t && decide (g.cycleStart t ≤ p) then g.at_ (g.cycleStart t - 1) else g.at_ p
  | none => g.at_ p

/-- The end of an opening that is in progress at `p`: under the oper list, and where it reaches the pending change,
under the pending list (R152). -/
def openingEnd (oper : Option GateSet) (pending : Option (GateSet × Nat)) (isOpen : Nat → Bool) (p : Nat) : Option Nat :=
  let own := match oper with
    | some g => g.closesAt isOpen p
    | none => none
  match pending with
  | none => own
  | some (n, cct) =>
    let cut := match oper with
      | some g => if g.extends cct then g.cycleStart cct else cct
      | none => cct
    match own with
    | some e => if e < cut then some e else n.closesAt isOpen (max p cct)
    | none => n.closesAt isOpen (max p cct)

/-! ## Commit checks (R148, R149) -/

/-- The smallest N with base + N × cycle at or after `t`. -/
def changeN (base cycle t : Nat) : Nat := ceilDiv (t - base) (nsQ cycle)

/-- The status of a commit of `g` at `tv` while `pending` waits (R148). `opOk` checks the fields of an entry beside its
interval. -/
def commitStatus (g : GateSet) (maxLen : Nat) (opOk : Nat → Bool) (pending : Option (GateSet × Nat)) (tv : Nat) : Nat :=
  if g.entries.length < 1 ∨ maxLen < g.entries.length then stBadValue
  else if g.cycle < 1000 then stBadValue
  else if g.cycle < g.ext then stBadValue
  else if !g.entries.all (fun e => opOk e && decide (1 ≤ geInterval e)) then stBadValue
  else if 2 ^ 31 * nsQ g.cycle < tv - g.base then stStaleBase
  else match pending with
    | some (_, cct) => if tv + nsQ 2000 ≤ cct then stOK else stChangeLocked
    | none => stOK

end Sys2Proof.Machine
end

