-- ==== Sys2Proof/Machine/Egress.lean ====
section
/-!
DEFINITION. The egress side of a port: transmit times, launch shadows, gate openings, the class queues and fair flows
with their credits and tags, and hold cells of relayed frames (spec/04_feeds_hold.md R110–R113,
spec/05_launch_gates.md R125–R157, spec/06_preemption_shaping.md R160–R178).
-/

namespace Sys2Proof.Machine

/-! ## Transmit time (R125, R126, R132, R154) -/

/-- Nanoseconds that `n` bytes take at `r` Gbit/s, rounded up. -/
def wireNs (n r : Nat) : Nat := ceilDiv (n * 8) r

/-- The PCS allowance A of a lane rate code (R126). -/
def pcsAllowance : Nat → Nat
  | 5 => 2 | 4 => 3 | 3 => 6 | _ => 0

/-- The PCS allowance A of port `l` (R126). -/
def State.txAdj (s : State) (l : Nat) : Nat := pcsAllowance (s.laneCode l)

/-- Transmit time of a frame of `n` bytes in ns (R125). -/
def State.txNs (s : State) (l n : Nat) : Nat := wireNs (n + 20) (s.portRate l) + s.txAdj l

/-- W of R132. -/
def State.tailNs (s : State) (l : Nat) : Nat := s.get (A.lnp l) LN_PORT_TIMING_TAIL_NS

/-- Operational addFragSize. -/
def State.afs (s : State) (l : Nat) : Nat := s.get (A.pep l) PE_PORT_STATUS_AFS_OPER

/-- F of R154 in ns. -/
def State.fragNs (s : State) (l : Nat) : Nat := wireNs (64 * (1 + s.afs l) + 104) (s.portRate l) + s.txAdj l

/-- Maximum frame length of class `k` of the port (R156). -/
def State.classMax (s : State) (l k : Nat) : Nat :=
  let m := s.get (A.gcc l k) GC_CLASS_MAXFRAME_BYTES
  if m = 0 then s.get (A.lnp l) LN_PORT_MAXFRAME_BYTES else m

/-- Guard band of class `k` in ns (R131). -/
def State.guardNs (s : State) (l k : Nat) : Nat := s.txNs l (s.classMax l k)

/-! ## Wire, queues and launches of a port -/

/-- The wire of a port. -/
def State.wire (s : State) (l : Nat) : Wire := SMap.get {} s.wires l
/-- Store the wire of a port. -/
def State.setWire (s : State) (l : Nat) (w : Wire) : State := { s with wires := SMap.set {} l w s.wires }

/-- Frames of a STRICT or CBS class, oldest first. -/
def State.queue (s : State) (l k : Nat) : List EgFrame := SMap.get [] s.queues (l * 8 + k)
/-- Store the frames of a STRICT or CBS class. -/
def State.setQueue (s : State) (l k : Nat) (q : List EgFrame) : State :=
  { s with queues := SMap.set [] (l * 8 + k) q s.queues }

/-- Frames of fair flow `f`, oldest first. -/
def State.flow (s : State) (l f : Nat) : List EgFrame := SMap.get [] s.flows (l * 64 + f)
/-- Store the frames of a fair flow. -/
def State.setFlow (s : State) (l f : Nat) (q : List EgFrame) : State :=
  { s with flows := SMap.set [] (l * 64 + f) q s.flows }

/-- Credit and sampling state of a class. -/
def State.credit (s : State) (l k : Nat) : Credit := SMap.get {} s.credits (l * 8 + k)
/-- Store credit and sampling state of a class. -/
def State.setCredit (s : State) (l k : Nat) (c : Credit) : State :=
  { s with credits := SMap.set {} (l * 8 + k) c s.credits }

/-- Gate lists of a port. -/
def State.gateLists (s : State) (l : Nat) : GateLists := SMap.get {} s.gates l
/-- Store the gate lists of a port. -/
def State.setGateLists (s : State) (l : Nat) (g : GateLists) : State := { s with gates := SMap.set {} l g s.gates }

/-- MAC merge state of a port. -/
def State.merge (s : State) (l : Nat) : MergeState := SMap.get {} s.merges l
/-- Store the MAC merge state of a port. -/
def State.setMerge (s : State) (l : Nat) (m : MergeState) : State := { s with merges := SMap.set {} l m s.merges }

/-- Launches of a port in calendar order. -/
def State.portLaunches (s : State) (l : Nat) : List Launch := s.launches.filter (fun x => x.held.lane == l)

/-- Calendar order (R114): launch instant, then stream table index, then SEQ. -/
def Launch.before (a b : Launch) : Bool :=
  a.t0 < b.t0 || (a.t0 == b.t0 && (a.held.stream < b.held.stream ||
    (a.held.stream == b.held.stream && a.held.seq < b.held.seq)))

/-- Insert a launch into the calendar. -/
def insertLaunch (x : Launch) : List Launch → List Launch
  | [] => [x]
  | y :: t => if x.before y then x :: y :: t else y :: insertLaunch x t

/-! ## Shadows (R130, R132, R194) -/

/-- Bytes of a launch frame as it leaves, FCS included; before staging, of its inner frame. -/
def Launch.bytes (x : Launch) : Nat := match x.staged with
  | some b => b.length
  | none => x.held.inner.length + 4

/-- Insert an interval by its opening. -/
def insertShadow (x : Nat × Nat × Nat) : List (Nat × Nat × Nat) → List (Nat × Nat × Nat)
  | [] => [x]
  | y :: t => if x.1 ≤ y.1 then x :: y :: t else y :: insertShadow x t

/-- Union of overlapping or touching intervals, in order of opening; the third member is the earliest t0. -/
def mergeShadows : List (Nat × Nat × Nat) → List (Nat × Nat × Nat)
  | [] => []
  | x :: t => match mergeShadows t with
    | [] => [x]
    | y :: r => if y.1 ≤ x.2.1 then (x.1, max x.2.1 y.2.1, min x.2.2 y.2.2) :: r else x :: y :: r

/-- The shadows of a port: opening, end, earliest t0 (R130). A launch that waits past its instant keeps its shadow open,
and a late launch extends it to its end (R134). -/
def State.shadows (s : State) (l : Nat) : List (Nat × Nat × Nat) :=
  let own := (s.portLaunches l).filterMap (fun x =>
    if x.kind = .forwarded then none
    else
      let t := nsQ (s.txNs l x.bytes)
      some (x.t0 - t - nsQ 32, max x.t0 s.nowQ + t, x.t0))
  let win := match s.port? l with
    | some p => s.windowShadows p
    | none => []
  let w := s.wire l
  let late := match w.tx with
    | some x => if x.launch.isSome then [(x.start, max w.shadowEnd x.stop, x.start)] else []
    | none => []
  mergeShadows ((own ++ win ++ late).foldl (fun m x => insertShadow x m) [])

/-- A shadow is open at `p`. -/
def State.inShadow (s : State) (l p : Nat) : Bool := (s.shadows l).any (fun x => decide (x.1 ≤ p ∧ p < x.2.1))

/-- The next shadow that opens after `p`. -/
def State.nextShadow (s : State) (l p : Nat) : Option (Nat × Nat × Nat) :=
  (s.shadows l).find? (fun x => decide (p < x.1))

/-- r of R132 for a shadow. -/
def State.preemptAt (s : State) (l : Nat) (x : Nat × Nat × Nat) : Nat := min x.1 (x.2.2 - nsQ (s.tailNs l))

/-! ## Classes and gates (R147, R152, R166, R173) -/

/-- Pre-emption is active on the port. -/
def State.peActive (s : State) (l : Nat) : Bool := s.on (A.pep l) PE_PORT_STATUS_ACTIVE

/-- Class `k` is preemptable. -/
def State.preemptable (s : State) (l k : Nat) : Bool := (s.get (A.pep l) PE_PORT_CTRL_PREEMPT_CLASSES).testBit k

/-- The gate of class `k` is open. -/
def State.gateOpen (s : State) (l k : Nat) : Bool :=
  !(s.gateLists l).enabled || (s.get (A.gcp l) GC_STATUS_GATES).testBit k

/-- The MAC hold is asserted. -/
def State.macHold (s : State) (l : Nat) : Bool := s.on (A.gcp l) GC_STATUS_MAC_HOLD && s.peActive l

/-- End of the opening of class `k` in progress at `p`; none without bound (R147, R152). -/
def State.openEnd (s : State) (l k p : Nat) : Option Nat :=
  let g := s.gateLists l
  if g.enabled then openingEnd g.oper g.pending (fun e => (geGates e).testBit k) p else none

/-- HOLD_MARGIN_NS in units of 2^-16 ns. -/
def State.holdMargin (s : State) (l : Nat) : Nat := nsQ (s.get (A.gcp l) GC_PORT_CTRL_HOLD_MARGIN_NS)

/-- A transmission of `ns` from `p` ends in time for the close `e` (R153). -/
def State.fitsBefore (s : State) (l p ns : Nat) (e : Option Nat) : Bool :=
  match e with
  | none => true
  | some t => decide (p + nsQ ns + s.holdMargin l ≤ t)

/-- The start rule of R154 for a preemptable frame with `n` bytes left. -/
def State.fitsPreemptable (s : State) (l p n : Nat) (e : Option Nat) : Bool :=
  s.fitsBefore l p (s.txNs l n) e ||
    (decide (64 * (1 + s.afs l) + 64 ≤ n) && s.fitsBefore l p (s.fragNs l) e)

/-- The frame can never fit an opening of its class in the oper list (R155). -/
def State.oversize (s : State) (l k n : Nat) : Bool :=
  let c := A.gcc l k
  if !(s.gateLists l).enabled || s.on c GC_CLASS_OPEN_ALWAYS then false
  else
    let room : Int := (s.get c GC_CLASS_OPEN_MAX_OPEN_NS : Int) - s.get (A.gcp l) GC_PORT_CTRL_HOLD_MARGIN_NS
    if s.peActive l && s.preemptable l k then
      decide (room < (s.txNs l n : Int)) && decide (room < (s.fragNs l : Int))
    else decide (room < (s.txNs l n : Int))

/-- What R131, R153 and R154 say of a head frame. -/
inductive StartRule where
  /-- It may start. -/
  | start
  /-- A shadow or guard band defers it; `before` says that the shadow is not open yet. -/
  | shadow (before : Bool)
  /-- Its gate or the MAC hold keeps it. -/
  | gate
  deriving DecidableEq, Repr

/-- Whether a frame of class `k` with `n` bytes left may start now. -/
def State.startRule (s : State) (l k n : Nat) : StartRule :=
  let p := s.nowQ
  let pre := s.peActive l && s.preemptable l k
  if !s.gateOpen l k || (pre && s.macHold l) then .gate
  else if s.inShadow l p then .shadow false
  else if pre then
    let r := (s.nextShadow l p).map (s.preemptAt l)
    if !s.fitsPreemptable l p n r then .shadow true
    else if s.fitsPreemptable l p n (s.openEnd l k p) then .start else .gate
  else
    let wait := match s.nextShadow l p with
      | none => false
      | some x => if s.preemptable l k then decide (x.1 ≤ p + nsQ (s.guardNs l k))
          else decide (x.1 < p + nsQ (s.txNs l n))
    if wait then .shadow true
    else if s.fitsBefore l p (s.txNs l n) (s.openEnd l k p) then .start else .gate

/-! ## Algorithms, queues of a class (R160, R177) -/

/-- ALGO in force: 0 STRICT, 1 CBS, 2 FAIR. -/
def State.algo (s : State) (l k : Nat) : Nat :=
  if s.on (A.shc l k) SH_CLASS_CTRL_ALGO_PENDING then (s.credit l k).algo else s.get (A.shc l k) SH_CLASS_CTRL_ALGO

/-- The flows of FAIR class `k`. -/
def State.classFlows (s : State) (l k : Nat) : List Nat :=
  (List.range 64).filter (fun f => s.get (A.shf l f) SH_FLOW_CTRL_CLASS == k)

/-- Every frame queued in class `k`. -/
def State.classFrames (s : State) (l k : Nat) : List EgFrame :=
  s.queue l k ++ (if s.flows.isEmpty then [] else (s.classFlows l k).flatMap (s.flow l))

/-- Hold cells queued in class `k`. -/
def State.classCells (s : State) (l k : Nat) : Nat := (s.classFrames l k).foldl (fun n f => n + f.cells) 0

/-- Residence in ns of the class's head frame: the oldest of its head frames. -/
def State.headDelay (s : State) (l k : Nat) : Nat :=
  (s.classFrames l k).foldl (fun d f => max d (s.since f.since)) 0

/-- No FAIR frame is queued on the port. -/
def State.fairIdle (s : State) (l : Nat) : Bool := (List.range 64).all (fun f => (s.flow l f).isEmpty)

/-- The later of two virtual times by signed 64-bit difference (R178). -/
def laterV (a b : Nat) : Nat := if sext 64 (a + 2 ^ 64 - b % 2 ^ 64) ≥ 0 then a else b

/-- `head_changed` of R178 for flow `f` with a head of `n` bytes. -/
def State.headChanged (s : State) (l f n : Nat) (wasEmpty : Bool) : State :=
  let b := A.shf l f
  let fin := s.get b SH_FLOW_FINISH_F
  let start := if wasEmpty then laterV (s.get (A.shp l) SH_VTIME_V) fin else fin
  let s := s.put b SH_FLOW_START_S start
  s.put b SH_FLOW_FINISH_F (start + (n + 20) * 65536 / s.get b SH_FLOW_CTRL_WEIGHT)

/-- `group_idle` of R178. -/
def State.groupIdle (s : State) (l : Nat) : State :=
  if s.fairIdle l then
    let m := s.merge l
    match m.served with
    | [] => s
    | f :: fs =>
      let v := fs.foldl (fun v g => laterV (s.get (A.shf l g) SH_FLOW_FINISH_F) v) (s.get (A.shf l f) SH_FLOW_FINISH_F)
      (s.put (A.shp l) SH_VTIME_V v).setMerge l { m with served := [] }
  else s

/-! ## Credit (R164, R175) -/

/-- How the credit of class `k` changes now: 0 unchanged, 1 rising, 2 falling, 3 empty queue. -/
def State.creditCond (s : State) (l k : Nat) : Nat :=
  let busy := match (s.wire l).tx with
    | some x => x.launch.isNone && x.cls == k
    | none => false
  if busy then 2
  else match s.queue l k with
    | [] => 3
    | f :: _ =>
      if !s.gateOpen l k || (s.macHold l && s.preemptable l k) then 0
      else if s.startRule l k f.bytes.length = .shadow true then 0
      else 1

/-- The credit of class `k` as of now, in units of 2^-16 × 10^-3 bit. -/
def State.creditNow (s : State) (l k : Nat) : Int :=
  let c := s.credit l k
  let d : Int := (s.nowQ : Int) - c.at_
  let idle : Int := s.get (A.shc l k) SH_CLASS_SLOPE_IDLE_SLOPE_MBPS
  let v := match c.cond with
    | 1 => c.value + idle * d
    | 2 => c.value + (idle - s.portRate l * 1000) * d
    | 3 => if 0 < c.value then 0 else min 0 (c.value + idle * d)
    | _ => c.value
  let unit : Int := 65536 * 1000
  max (-(s.get (A.shc l k) SH_CLASS_LIMITS_LO_CREDIT : Int) * unit)
    (min ((s.get (A.shc l k) SH_CLASS_LIMITS_HI_CREDIT : Int) * unit) v)

/-- Settle the credits of a port's CBS classes and note how they change from now on. -/
def State.recredit (s : State) (l : Nat) : State :=
  (List.range 8).foldl (fun s k =>
    if s.algo l k = 1 then
      s.setCredit l k { s.credit l k with value := s.creditNow l k, at_ := s.nowQ, cond := s.creditCond l k }
    else s) s

/-- Keep the largest depth and head residence of class `k` for its next sample (R181). -/
def State.noteDepth (s : State) (l k : Nat) : State :=
  let c := s.credit l k
  s.setCredit l k { c with maxCells := max c.maxCells (s.classCells l k), maxDelay := max c.maxDelay (s.headDelay l k) }

/-! ## Relay cells (R110–R113) -/

/-- Cells that `n` bytes take (R110). -/
def cellsFor (n : Nat) : Nat := ceilDiv n 256

/-- Cells free in the port's relay allotment. -/
def State.relayFree (s : State) (l : Nat) : Nat :=
  s.get (A.hmp l) HM_PART_SIZE_RELAY - s.get (A.hmp l) HM_PART_USE_RELAY_USED

/-- Take `k` relay cells of port `l`. -/
def State.takeRelay (s : State) (l k : Nat) : State := s.inc (A.hmp l) HM_PART_USE_RELAY_USED k

/-- Free `k` relay cells of port `l`. -/
def State.freeRelay (s : State) (l k : Nat) : State :=
  s.put (A.hmp l) HM_PART_USE_RELAY_USED (s.get (A.hmp l) HM_PART_USE_RELAY_USED - k)

/-! ## Entering a queue (R155–R157, R160, R177) -/

/-- Key of a once-per-second journal class. -/
def limitKey (kind i : Nat) : Nat := kind * 2 ^ 32 + i

/-- Journal drops under R155 (R157). -/
def State.journalOversize (s : State) (l k : Nat) (stream : Option Nat) : State :=
  match stream with
  | some x => s.limited (limitKey 1 x) 1 (fun n s => s.report (srcSlice (sliceOf l) 5) 0x0021 objStream x n)
  | none => s.limited (limitKey 2 (l * 8 + k)) 1 (fun n s => s.report (srcSlice (sliceOf l) 5) 0x0021 objPort l n)

/-- Drop a frame under R155. -/
def State.dropOversize (s : State) (l k : Nat) (f : EgFrame) : State :=
  let s := s.bump (A.gcc l k) GC_CNT_OVERSIZE_OVERSIZE
  let s := s.raise (A.gcp l) GC_EVENT_FLAGS 4
  let s := s.event l 10 (some k) 1
  (s.freeRelay l f.cells).journalOversize l k f.stream

/-- The fair flow that a frame of FAIR class `k` goes to, and whether it named a flow of another class (R177). -/
def State.flowFor (s : State) (l k : Nat) (f : EgFrame) : Nat × Bool :=
  let dflt := s.get (A.shc l k) SH_CLASS_CTRL_DEF_FLOW
  match f.flow with
  | none => (dflt, false)
  | some i =>
    if !s.on (A.shf l i) SH_FLOW_CTRL_EN then (dflt, false)
    else if s.get (A.shf l i) SH_FLOW_CTRL_CLASS = k then (i, false)
    else (dflt, true)

/-- Append a frame to the queue of class `k`. -/
def State.append (s : State) (l k : Nat) (f : EgFrame) : State :=
  if s.algo l k = 2 then
    let (i, mismatch) := s.flowFor l k f
    let s := if mismatch then s.bump (A.shp l) SH_CNT_FLOW_MISMATCH_COUNT else s
    let q := s.flow l i
    let lim := s.get (A.shf l i) SH_FLOW_CTRL_MAX_FRAMES
    if !s.on (A.shf l i) SH_FLOW_CTRL_EN || (lim ≠ 0 && lim ≤ q.length) then
      (s.bump (A.shf l i) SH_FLOW_DROP_COUNT).freeRelay l f.cells
    else
      let s := s.groupIdle l
      let s := s.setFlow l i (q ++ [f])
      let s := if q.isEmpty then s.headChanged l i f.bytes.length true else s
      s.noteDepth l k
  else
    ((s.setQueue l k (s.queue l k ++ [f])).recredit l).noteDepth l k

/-- A frame enters its egress queue: the length checks, then the queue (R155, R156). -/
def State.enqueue (s : State) (l k : Nat) (f : EgFrame) : State :=
  let n := f.bytes.length
  if s.classMax l k < n then
    ((s.bump (A.gcc l k) GC_CNT_OVERSIZE_MAXFRAME).event l 10 (some k) 1).freeRelay l f.cells
  else if s.oversize l k n then s.dropOversize l k f
  else s.append l k { f with since := s.time.clk }

/-- A frame that takes relay cells is handed to the egress port `l` in class `k`; without cells it is dropped (R110,
R111). -/
def State.relay (s : State) (l k : Nat) (f : EgFrame) : State :=
  let c := cellsFor f.bytes.length
  if c ≤ s.relayFree l then (s.takeRelay l c).enqueue l k { f with cells := c }
  else s.bump (A.hmp l) HM_CNT_RELAY_DROP_COUNT

/-- One of the module's own protocol frames (R163). -/
def State.sendOwn (s : State) (l : Nat) (b : Bytes) (own : OwnKind) : State :=
  s.enqueue l (s.get (A.shp l) SH_PORT_CTRL_CTRL_CLASS) { bytes := b, own := own }

end Sys2Proof.Machine
end

