-- ==== Sys2Proof/Machine/Entries.lean ====
section
/-!
DEFINITION. Stream table entries, egress groups, the ID map and rewrite profiles as their words hold them
(spec/08_parse_classify.md R233–R236, spec/05_launch_gates.md R139).
-/

namespace Sys2Proof.Machine

/-- A stream table entry, field by field (R233). -/
structure Entry where
  valid : Bool
  kind : Nat
  dropLate : Bool
  mirror : Bool
  trailer : Bool
  isGroup : Bool
  tc : Nat
  cell : Nat
  streamId : Nat
  egress : Nat
  gate : Option Nat
  meter : Option Nat
  gen : Option Nat
  rec_ : Option Nat
  flow : Option Nat
  cap : Nat
  maxSdu : Nat
  blockOver : Bool
  blocked : Bool
  deriving DecidableEq, Repr

/-- A field that another bit enables. -/
def optField (w en hi lo : Nat) : Option Nat := if w.testBit en then some (bitsOf w hi lo) else none

/-- The fields of four entry words. -/
def entryOf (w0 w1 w2 w3 : Nat) : Entry where
  valid := w0.testBit 63
  kind := bitsOf w0 62 61
  dropLate := w0.testBit 60
  mirror := w0.testBit 59
  trailer := w0.testBit 58
  isGroup := w0.testBit 57
  tc := bitsOf w0 56 54
  cell := bitsOf w0 51 41
  streamId := bitsOf w0 31 0
  egress := bitsOf w1 63 52
  gate := optField w1 51 50 35
  meter := optField w1 34 33 18
  gen := optField w2 63 62 47
  rec_ := optField w2 46 45 30
  flow := optField w2 29 28 23
  cap := bitsOf w2 22 19
  maxSdu := bitsOf w3 63 48
  blockOver := w3.testBit 47
  blocked := w3.testBit 46

/-- Word `k` of entry `x` in the replica of slice `n`; replica 8 is the golden copy. -/
def State.entryWord (s : State) (n x k : Nat) : Nat := s.get (A.tstream n x) (ST_W_W k)

/-- Entry `x` in the replica of slice `n`. -/
def State.entry (s : State) (n x : Nat) : Entry :=
  entryOf (s.entryWord n x 0) (s.entryWord n x 1) (s.entryWord n x 2) (s.entryWord n x 3)

/-- The ID map of slice `n`: the index of the VALID REPLAY entry with this STREAM_ID (R235). -/
def State.idMap (s : State) (n id : Nat) : Option Nat :=
  let lo := A.tstream n 0 + (ST_W_W 0).off
  (s.words.find? (fun e =>
    decide (lo ≤ e.1 ∧ e.1 < lo + 0x100 * 262144) && (e.1 - lo) % 0x100 == 0 &&
      bitsOf e.2.toNat 63 63 == 1 && bitsOf e.2.toNat 62 61 == 1 && bitsOf e.2.toNat 31 0 == id)).map
    (fun e => (e.1 - lo) / 0x100)

/-- Bit `l` of group `g` in the replica of slice `n` (R236). -/
def State.inGroup (s : State) (n g l : Nat) : Bool := (s.get (A.tgroup n g) (ST_GRP_W_LANES (l / 64))).testBit (l % 64)

/-- The egress ports of an entry, without the ingress port of a group (R233, R236). -/
def State.entryPorts (s : State) (n : Nat) (e : Entry) (ingress : Option Nat) : List Nat :=
  if e.isGroup then
    ((s.image.ports.map (·.lane)).filter (fun l => s.inGroup n e.egress l && some l != ingress))
  else [e.egress]

/-- The scene clock bound to cell `c` (R360); 2,048 stands for none. -/
def State.clockOf (s : State) (c : Nat) : Nat :=
  if c < s.image.cells then ((s.image.binds.find? (fun e => e.1 == c)).map (·.2)).getD c else 2048

/-- Word `k` of rewrite profile `i` of slice `n`. -/
def State.profWord (s : State) (n i k : Nat) : Nat :=
  s.get (A.trwprof n i) (match k with | 0 => LN_RW_W0_W0 | 1 => LN_RW_W1_W1 | 2 => LN_RW_W2_W2 | _ => LN_RW_W3_W3)

/-- A rewrite profile is defined (R139). -/
def State.profValid (s : State) (n i : Nat) : Bool :=
  decide (i < s.get (A.ln n) LN_INFO_PROFILES) && (s.profWord n i 0).testBit 63

/-- GROWTH of a profile from its word 0 (R139). -/
def growthOf (w0 : Nat) : Nat := (if bitsOf w0 62 60 = 2 then 4 else 0) + (if w0.testBit 57 then 6 else 0)

/-- Class of a frame without a stream that leaves or enters port `l` with PCP `pcp` (R227). -/
def State.pcpClass (s : State) (l pcp : Nat) : Nat := s.get (A.cfp l) CF_PORT_PCP_MAP / 8 ^ (pcp % 8) % 8

/-- This unit may act as the authority of its pair (R105). -/
def State.authority (s : State) : Bool := !s.on A.up UP_CTRL_EN || s.get A.up UP_STATUS_ROLE == 1

/-- Count a missed launch of stream `x` (R136, R245). -/
def State.streamMissed (s : State) (x : Nat) : State := s.bump (A.tstcnt 0 x) (ST_CNT_W_COUNT 5)

end Sys2Proof.Machine
end

