-- ==== Sys2Proof/Machine/Claim.lean ====
section
/-!
DEFINITION. Fault items, penalty, claim and cleanliness of a unit, and changes of mode (spec/09_redundancy.md R262–R264;
spec/15_modes_inservice.md R382).
-/

namespace Sys2Proof.Machine

/-! ## Fault items (R263) -/

/-- Slice `n` is fenced, or on its way into or out of a fence. -/
def State.sliceFenced (s : State) (n : Nat) : Bool :=
  s.isSlice n && decide (5 ≤ s.mode) && decide (1 ≤ s.sliceState n ∧ s.sliceState n ≤ 5)

/-- Number of the slices below 8 of which `p` holds. -/
def countSlices (p : Nat → Bool) : Nat := ((List.range 8).filter p).length

/-- A data port is down: its link, or its slice, does not serve. -/
def State.portDown (s : State) (l : Nat) : Bool := !s.linkUp l || !s.sliceServes (l / 64)

/-- Instances of fault item `k` that are active now. -/
def State.faults (s : State) (k : Nat) : Nat :=
  let st := s.get A.tb TB_STATUS_STATE
  match k with
  | 0 => countSlices s.sliceFenced
  | 1 => (s.ddrChannels.filter (fun c => !s.ddrUp c)).length
  | 2 => bit (st == 3)
  | 3 => bit (st == 0 && (s.sync.role == 1 || (s.sync.role == 2 &&
      (s.get A.tb TB_INPUT_SEL_PRIMARY != 0xFFFF || s.get A.tb TB_INPUT_SEL_SECONDARY != 0xFFFF ||
       s.get A.tb TB_INPUT_SEL_TERTIARY != 0xFFFF))))
  | 4 => (s.image.ports.filter (fun p => !s.isPairLink p.lane && s.portDown p.lane)).length
  | 5 => ([0, 1].filter (fun i => !s.on (A.xpl i) XP_LANE_CFG_LINK_UP)).length
  | 6 => s.testFails
  | 7 => bit (s.get A.pw PW_CAP_STATUS_STEP != 0)
  | 8 => bit (s.get A.pw PW_STATUS_THERM != 0)
  | 9 => bit (s.on A.tb TB_STATUS_XCHK_FAIL)
  | _ => 0

/-- The items that are active, as bits. -/
def State.activeItems (s : State) : Nat :=
  (List.range 16).foldl (fun m k => if s.faults k = 0 then m else m + 2 ^ k) 0

/-- P_f: the fault penalty (R262). -/
def State.penalty (s : State) : Nat :=
  min 0xFFFF ((List.range 16).foldl (fun m k => m + s.get A.up (UP_PEN_WEIGHT k) * s.faults k) 0)

/-! ## Claim (R262) -/

/-- UP_STATUS.ROLE: 0 NONE, 1 AUTHORITY, 2 MIRROR, 3 LEAVING. -/
def State.role (s : State) : Nat := s.get A.up UP_STATUS_ROLE

/-- This unit of a pair is the Mirror unit. -/
def State.mirrorRole (s : State) : Bool := s.on A.up UP_CTRL_EN && s.role == 2

/-- The partner is heard (R260). -/
def State.heard (s : State) : Bool := s.on A.up UP_STATUS_LINK_A_UP || s.on A.up UP_STATUS_LINK_B_UP

/-- The claim in force. -/
def State.claim (s : State) : Nat := s.get A.up UP_CLAIM_STATUS_CLAIM

/-- Merit: the claim less the fault penalty. -/
def State.merit (s : State) : Nat := s.claim - s.penalty

/-- P_s: standby deference. -/
def State.deference (s : State) : Nat :=
  if s.role = 2 ∧ s.heard ∧ s.get A.up UP_PARTNER_CLAIM_ROLE = 1 then
    s.merit + 256 - s.get A.up UP_PARTNER_CLAIM_EFF
  else 0

/-- EFF_CLAIM. -/
def State.effClaim (s : State) : Nat := s.claim - (s.penalty + s.deference)

/-! ## Cleanliness (R264, R271) -/

/-- SYNCED: the authority always is; a Mirror unit once it has a whole snapshot and has been in Mirror for FILL_MS. -/
def State.synced (s : State) : Bool :=
  s.role == 1 || (s.role == 2 && s.pair.snapped &&
    decide (s.get A.up UP_CTRL_FILL_MS * 1000000 ≤ s.since s.pair.mirrorAt))

/-- CLEAN. -/
def State.clean (s : State) : Bool := s.penalty == 0 && s.synced

/-- Note whether the unit is CLEAN now. -/
def State.noteClean (s : State) : State :=
  let at_ := if s.clean then (match s.pair.cleanAt with | some t => some t | none => some s.time.clk) else none
  if at_ = s.pair.cleanAt then s else { s with pair := { s.pair with cleanAt := at_ } }

/-- Milliseconds since the unit last became CLEAN. -/
def State.cleanMs (s : State) : Nat :=
  if s.clean then (match s.pair.cleanAt with | some t => min (2 ^ 32 - 1) (s.since t / 1000000) | none => 0) else 0

/-! ## Mode registers (R382) -/

/-- The mode becomes `m` for cause `c`: MD_STATUS, its count and its event. Entering Service or Mirror opens the datapath
for good (R24). -/
def State.setMode (s : State) (m c : Nat) : State :=
  let b := A.md
  let s := (s.put b MD_STATUS_PREV_MODE s.mode).put b MD_STATUS_MODE m
  let s := (s.put b MD_STATUS_CAUSE c).put b MD_STATUS_SINCE (shortOf s.nowQ)
  let s := (s.bump b MD_CNT_TRANSITIONS_COUNT).raise b MD_EVENT_FLAGS 0
  let s := if m = 8 then s else s.put b MD_STATUS_RETURN_MODE 0
  if m = 6 ∨ m = 7 then { s with everServed := true } else s

/-- Store the state of slice `n` with its cause. -/
def State.setSlice (s : State) (n st cause : Nat) : State :=
  let s := (s.put A.md (MD_SLICE_STATE_STATE n) st).put A.md (MD_SLICE_STATE_CAUSE n) cause
  s.put A.md (MD_SLICE_STATE_SINCE n) (shortOf s.nowQ)

end Sys2Proof.Machine
end

