-- ==== Sys2Proof/Machine/Hold.lean ====
section
/-!
DEFINITION. Hold memory, feed entries, late policies and conversion: what an accepted frame envelope, a late test and
a conversion do (spec/04_feeds_hold.md R96–R124, spec/03_scene_clocks.md R69, R72, R80).
-/

namespace Sys2Proof.Machine

/-! ## Feed entries (R106) -/

/-- Feed state of stream `x` beyond its entry. -/
def State.feed (s : State) (x : Nat) : FeedState := SMap.get {} s.feeds x
/-- Store feed state. -/
def State.setFeed (s : State) (x : Nat) (f : FeedState) : State := { s with feeds := SMap.set {} x f s.feeds }

/-- The feed entry is enabled. -/
def State.feedOn (s : State) (x : Nat) : Bool := s.on (A.tfeed x) HM_FEED_W0_EN
/-- STATE: 0 IDLE, 1 ACTIVE, 2 HOLDING, 3 ENDED. -/
def State.feedMode (s : State) (x : Nat) : Nat := s.get (A.tfeed x) HM_FEED_W4_STATE
/-- LATE_POLICY: 0 SKIP, 1 REPEAT, 2 HOLD. -/
def State.policy (s : State) (x : Nat) : Nat := s.get (A.tfeed x) HM_FEED_W0_LATE_POLICY
/-- NEXT_SEQ. -/
def State.nextSeq (s : State) (x : Nat) : Nat := s.get (A.tfeed x) HM_FEED_W3_NEXT_SEQ
/-- Slice of the stream's source entry; the stream's table entry is read from its replica. -/
def State.feedSlice (s : State) (x : Nat) : Nat := s.get (A.tfeed x) HM_FEED_W0_SRC_SLICE
/-- Index of the stream's source entry. -/
def State.feedSource (s : State) (x : Nat) : Nat := s.get (A.tfeed x) HM_FEED_W0_SRC_INDEX
/-- The stream's table entry. -/
def State.feedEntry (s : State) (x : Nat) : Entry := s.entry (s.feedSlice x) x
/-- The scene clock of the stream's cell. -/
def State.feedClock (s : State) (x : Nat) : Nat := s.clockOf (s.feedEntry x).cell
/-- The stream's egress ports. -/
def State.feedPorts (s : State) (x : Nat) : List Nat := s.entryPorts (s.feedSlice x) (s.feedEntry x) none
/-- The offset D that applies: that of a HOLD stream (R121). -/
def State.feedD (s : State) (x : Nat) : Nat := if s.policy x = 2 then (s.feed x).d else 0

/-- Every enabled feed entry, in index order. -/
def State.enabledFeeds (s : State) : List Nat :=
  let lo := A.tfeed 0 + HM_FEED_W0_EN.off
  s.words.filterMap (fun e =>
    if lo ≤ e.1 ∧ e.1 < lo + 0x100 * 262144 ∧ (e.1 - lo) % 0x100 = 0 ∧ bitsOf e.2.toNat 63 63 = 1 then
      some ((e.1 - lo) / 0x100)
    else none)

/-- A held or converted frame of stream `x` with this SEQ. -/
def State.heldSeq (s : State) (x q : Nat) : Option Held := s.held.find? (fun h => h.stream == x && h.seq == q)

/-- A frame of stream `x` with this SEQ lies in the calendar or on the wire. -/
def State.calendarSeq (s : State) (x q : Nat) : Bool :=
  s.launches.any (fun y => y.kind == .replay && !y.held.isRepeat && y.held.stream == x && y.held.seq == q) ||
    s.wires.any (fun w => match w.2.tx with
      | some t => match t.launch with
        | some y => y.kind == .replay && !y.held.isRepeat && y.held.stream == x && y.held.seq == q
        | none => false
      | none => false)

/-- The slot of NEXT_SEQ as epoch and scene time, where the module knows it (R116). -/
def State.slotOf (s : State) (x : Nat) : Option (Nat × Nat) :=
  let f := s.feed x
  let q := s.nextSeq x
  let per := s.get (A.tfeed x) HM_FEED_W1_SLOT_PERIOD_NS
  if !s.feedOn x ∨ s.feedMode x = 0 ∨ s.feedMode x = 3 then none
  else match s.heldSeq x q with
    | some h => some (h.epoch, h.scene)
    | none =>
      match f.announced with
      | some (k, e, t) => if k = q then some (e, t) else none
      | none => match f.prevSlot with
        | some (e, t) => if per = 0 then none else some (e, t + nsQ per)
        | none => none

/-- Show a known slot, or that there is none, in the feed entry at `b`. -/
def State.showSlot (s : State) (b : Nat) : Option (Nat × Nat) → State
  | some (e, t) =>
    ((s.put b HM_FEED_W5_SLOT_EPOCH e).putStamp b HM_FEED_W5_SLOT_SEC HM_FEED_W6_SLOT_NS HM_FEED_W6_SLOT_FRAC t).put b
      HM_FEED_W6_SLOT_KNOWN 1
  | none =>
    ((s.put b HM_FEED_W5_SLOT_EPOCH 0).putStamp b HM_FEED_W5_SLOT_SEC HM_FEED_W6_SLOT_NS HM_FEED_W6_SLOT_FRAC 0).put b
      HM_FEED_W6_SLOT_KNOWN 0

/-- Show the known slot and D in the feed entry. -/
def State.showFeed (s : State) (x : Nat) : State :=
  (s.put (A.tfeed x) HM_FEED_W4_HOLD_OFFSET_NS ((s.feed x).d / 65536)).showSlot (A.tfeed x) (s.slotOf x)

/-! ## Cells of replay frames (R110–R113) -/

/-- LAUNCH_USED + BORROWED of a port. -/
def State.holdUse (s : State) (l : Nat) : Nat :=
  s.get (A.hmp l) HM_PART_USE_LAUNCH_USED + s.get (A.hmp l) HM_PART_USE_BORROWED

/-- A record is due for every enabled stream of which `p` holds (R108). -/
def State.grantsDue (s : State) (p : Nat → Bool) : State :=
  s.enabledFeeds.foldl (fun s x => if p x then s.setFeed x { s.feed x with eventDue := true } else s) s

/-- Settle a port's backpressure after a change of its use or of the limits, and its high-water mark (R112). -/
def State.pressure (s : State) (l : Nat) : State :=
  let b := A.hmp l
  let u := s.holdUse l
  let s := s.put b HM_PART_HWM_HWM (max u (s.get b HM_PART_HWM_HWM))
  let size := s.get b HM_PART_SIZE_LAUNCH
  let was := s.on b HM_PART_HWM_BACKPRESSURE
  let now := if was then !(u == 0 || decide (u * 100 < s.get A.hm HM_CTRL_RESUME_PCT * size))
    else decide (1 ≤ u) && decide (s.get A.hm HM_CTRL_STOP_PCT * size ≤ u * 100)
  if was = now then s
  else (s.put b HM_PART_HWM_BACKPRESSURE (bit now)).grantsDue (fun x => (s.feedPorts x).contains l)

/-- Launch cells and borrowed cells for a frame of `k` cells, where the partition has them (R110). -/
def State.splitCells (s : State) (l k : Nat) : Option (Nat × Nat) :=
  let b := A.hmp l
  let a := min k (s.get b HM_PART_SIZE_LAUNCH - s.get b HM_PART_USE_LAUNCH_USED)
  let c := k - a
  if s.get b HM_PART_USE_BORROWED + c ≤ s.get b HM_PART_BORROW_BORROW_MAX ∧
      s.get A.hm HM_SHARED_USE_USED + c ≤ s.get A.hm HM_INFO_SHARED_CELLS then some (a, c)
  else none

/-- Take cells of a partition for a stream. -/
def State.takeCells (s : State) (l x a c : Nat) : State :=
  let b := A.hmp l
  let s := (s.inc b HM_PART_USE_LAUNCH_USED a).inc b HM_PART_USE_BORROWED c
  let s := (s.inc A.hm HM_SHARED_USE_USED c).inc (A.tfeed x) HM_FEED_W7_HELD_CELLS (a + c)
  s.pressure l

/-- Free the cells of a held frame; a repeat holds none of its own. -/
def State.freeHeld (s : State) (h : Held) : State :=
  let b := A.hmp h.lane
  let f := A.tfeed h.stream
  let s := s.put b HM_PART_USE_LAUNCH_USED (s.get b HM_PART_USE_LAUNCH_USED - h.launchCells)
  let s := s.put b HM_PART_USE_BORROWED (s.get b HM_PART_USE_BORROWED - h.borrowed)
  let s := s.put A.hm HM_SHARED_USE_USED (s.get A.hm HM_SHARED_USE_USED - h.borrowed)
  let s := s.put f HM_FEED_W7_HELD_CELLS (s.get f HM_FEED_W7_HELD_CELLS - (h.launchCells + h.borrowed))
  s.pressure h.lane

/-- Free what a launch frame holds: hold cells of a replay frame, relay cells of a forwarded one. -/
def State.freeLaunch (s : State) (x : Launch) : State :=
  match x.kind with
  | .replay => s.freeHeld x.held
  | _ => s.freeRelay x.held.lane x.held.launchCells

/-- Discard the unconverted frames of which `p` holds. -/
def State.dropHeld (s : State) (p : Held → Bool) : State :=
  let t := { s with held := s.held.filter (fun h => !p h) }
  (s.held.filter p).foldl (fun t h => t.freeHeld h) t

/-- Discard the converted frames of which `p` holds that have not started on the wire; their shadows end. -/
def State.dropLaunches (s : State) (p : Launch → Bool) : State :=
  let t := { s with launches := s.launches.filter (fun x => !p x) }
  (s.launches.filter p).foldl (fun t x => t.freeLaunch x) t

/-- End the retention of a stream's frame (R120). -/
def State.freeRetained (s : State) (x : Nat) : State :=
  let f := s.feed x
  f.retained.foldl (fun s h => s.freeHeld h) (s.setFeed x { f with retained := [] })

/-! ## Journal of the hold memory (R111, R123) -/

/-- Count a LATE_FEED (0), HOLD_FULL (1) or AHEAD_OF_GRANT (2) of a stream for its journal entry, and write the entry
when a second has passed (R123). -/
def State.noteFeed (s : State) (x which n : Nat) : State :=
  let f := s.feed x
  let f := { f with
    lateN := f.lateN + (if which = 0 then n else 0), fullN := f.fullN + (if which = 1 then n else 0),
    aheadN := f.aheadN + (if which = 2 then n else 0) }
  let due := match f.entryAt with
    | none => true
    | some t => decide (1000000000 ≤ s.since t)
  if due then
    let code := if f.fullN ≤ f.lateN ∧ f.aheadN ≤ f.lateN then 0x0020 else if f.aheadN ≤ f.fullN then 0x0022 else 0x0024
    let s := s.setFeed x { f with lateN := 0, fullN := 0, aheadN := 0, entryAt := some s.time.clk }
    s.report 576 code objStream x (f.lateN + f.fullN + f.aheadN)
  else s.setFeed x f

/-! ## Resolving SEQ values (R100, R101, R116–R118) -/

/-- The stream has ended once every SEQ below its end SEQ is resolved (R101). -/
def State.checkEnded (s : State) (x : Nat) : State :=
  match (s.feed x).endSeq with
  | some q =>
    if q ≤ s.nextSeq x ∧ s.feedMode x ≠ 0 ∧ s.feedMode x ≠ 3 then
      let s := s.put (A.tfeed x) HM_FEED_W4_STATE 3
      let s := s.freeRetained x
      s.setFeed x { s.feed x with eventDue := true, holdingAt := none }
    else s
  | none => s

/-- Advance over SEQ values that are resolved already; `n` bounds how many there are. -/
def absorb : Nat → Nat → List (Nat × Nat × Nat) → Option (Nat × Nat) → Nat × List (Nat × Nat × Nat) × Option (Nat × Nat)
  | 0, q, a, p => (q, a, p)
  | n + 1, q, a, p =>
    match a.find? (fun e => e.1 == q) with
    | some e => absorb n (q + 1) (a.filter (fun e => e.1 != q)) (some (e.2.1, e.2.2))
    | none => (q, a, p)

/-- Set NEXT_SEQ to `q`, the SEQ before it having slot `slot`, and go on over resolved ones. -/
def State.advanceTo (s : State) (x q : Nat) (slot : Option (Nat × Nat)) : State :=
  let f := s.feed x
  let a := f.ahead.filter (fun e => decide (q ≤ e.1))
  let r := absorb a.length q a slot
  let s := s.setFeed x { f with ahead := r.2.1, prevSlot := r.2.2, holdingAt := none }
  let s := s.put (A.tfeed x) HM_FEED_W3_NEXT_SEQ r.1
  let s := if s.feedMode x = 2 then s.put (A.tfeed x) HM_FEED_W4_STATE 1 else s
  (s.checkEnded x).showFeed x

/-- A frame of SEQ `q` is in the calendar: it is resolved. -/
def State.resolve (s : State) (x q e t : Nat) : State :=
  if q = s.nextSeq x then s.advanceTo x (q + 1) (some (e, t))
  else if s.nextSeq x < q ∧ !(s.feed x).ahead.any (fun a => a.1 == q) then
    s.setFeed x { s.feed x with ahead := (q, e, t) :: (s.feed x).ahead }
  else s

/-- Frames that the module discarded or missed, of which no copy is held any more, are resolved: no late test counts them
(R80, R115, R385). -/
def State.resolveGone (s : State) (hs : List Held) : State :=
  hs.foldl (fun s h => if (s.heldSeq h.stream h.seq).isSome then s else s.resolve h.stream h.seq h.epoch h.scene) s

/-- Remember SEQ values resolved under a late policy: the last 64, latest first (R122). -/
def State.noteLate (s : State) (x : Nat) (qs : List Nat) : State :=
  s.setFeed x { s.feed x with late := (qs ++ (s.feed x).late).take 64 }

/-- Count `n` LATE_FEED of a stream, on its ports too (R117). -/
def State.countLate (s : State) (x n : Nat) : State :=
  let s := s.add (A.tfeed x) HM_FEED_W9_LATE_FEED n
  let s := (s.feedPorts x).foldl (fun s l =>
    (s.add (A.hmp l) HM_CNT_LATE_FEED_COUNT n).event l 17 none n) s
  s.noteFeed x 0 n

/-- Form the repeat of SEQ `q` for a slot, on every port that retains a frame (R118, R120). -/
def State.formRepeat (s : State) (x q e t : Nat) : State :=
  let b := A.tfeed x
  let run := s.get b HM_FEED_W4_REPEAT_RUN + 1
  let s := (s.put b HM_FEED_W4_REPEAT_RUN run).bump b HM_FEED_W10_REPEATED
  match s.physOf (s.feedClock x) e t with
  | none => s
  | some p =>
    { s with launches := (s.feed x).retained.foldl (fun ls h =>
        insertLaunch { held := { h with seq := q, epoch := e, scene := t, age := min 255 (h.age + run), isRepeat := true, launchCells := 0, borrowed := 0 }, t0 := p } ls) s.launches }

/-- SEQ NEXT_SEQ of a stream fails its late test: count it and apply the policy (R117, R118). `slot` is its slot where
the module knows it. -/
def State.lateFail (s : State) (x : Nat) (slot : Option (Nat × Nat)) : State :=
  let q := s.nextSeq x
  let b := A.tfeed x
  let s := s.countLate x 1
  match s.policy x, slot with
  | 2, _ => ((s.put b HM_FEED_W4_STATE 2).setFeed x { s.feed x with holdingAt := some s.time.clk }).showFeed x
  | 1, some (e, t) =>
    if !(s.feed x).retained.isEmpty && decide (s.get b HM_FEED_W4_REPEAT_RUN < s.get b HM_FEED_W0_REPEAT_MAX) then
      ((s.formRepeat x q e t).noteLate x [q]).advanceTo x (q + 1) slot
    else ((s.put b HM_FEED_W4_REPEAT_RUN 0).noteLate x [q]).advanceTo x (q + 1) slot
  | 1, none => ((s.put b HM_FEED_W4_REPEAT_RUN 0).noteLate x [q]).advanceTo x (q + 1) none
  | _, _ => (s.noteLate x [q]).advanceTo x (q + 1) slot

/-- SEQ values from `q` to below `e` that are neither resolved nor excluded; the last 64 of them, latest first. -/
def lastMissing (ahead : List (Nat × Nat × Nat)) (q e : Nat) : List Nat :=
  (((List.range (min (e - q) (64 + ahead.length))).map (fun i => e - 1 - i)).filter
    (fun k => !ahead.any (fun a => a.1 == k))).take 64

/-- Every missing SEQ below `k` fails its late test with an unknown slot, up to the first one that is held (R117). Under
HOLD the first missing one holds the stream. -/
def State.failBelow (s : State) (x k : Nat) : State :=
  let q := s.nextSeq x
  if k ≤ q then s
  else if s.policy x = 2 then s.lateFail x none
  else
    let stop := s.held.foldl (fun m h => if h.stream = x ∧ q ≤ h.seq then min m h.seq else m) k
    let a := (s.feed x).ahead.filter (fun e => decide (q ≤ e.1 ∧ e.1 < stop))
    let n := stop - q - a.length
    if n = 0 then s.advanceTo x stop none
    else
      let s := s.countLate x n
      let s := if s.policy x = 1 then s.put (A.tfeed x) HM_FEED_W4_REPEAT_RUN 0 else s
      (s.noteLate x (lastMissing a q stop)).advanceTo x stop none

/-! ## Conversion (R69, R114, R121) -/

/-- The launch instant of a held frame with D added, where it has one. -/
def State.launchAt (s : State) (h : Held) : Option Nat := (s.physOf h.clock h.epoch h.scene).map (· + s.feedD h.stream)

/-- Convert the held copies of SEQ `q` of stream `x` if their launch instant lies within the horizon. Missing lower SEQ
values fail their late test first; a HOLD stream converts in SEQ order only. -/
def State.convert (s : State) (x q : Nat) : State :=
  match s.heldSeq x q with
  | none => s
  | some h =>
    if (s.scene h.clock).stopped then s
    else match s.launchAt h with
    | none => s
    | some p =>
      if s.nowQ + s.horizonQ h.clock < p then s
      else
        let s := if s.nextSeq x < q ∧ s.slotOf x = none ∧ s.feedMode x ≠ 2 then s.failBelow x q else s
        if s.policy x = 2 ∧ s.nextSeq x < q then s
        else
          let mine := s.held.filter (fun g => g.stream == x && g.seq == q)
          let s := { s with
            held := s.held.filter (fun g => !(g.stream == x && g.seq == q)),
            launches := mine.foldl (fun ls g => insertLaunch { held := g, t0 := p } ls) s.launches }
          s.resolve x q h.epoch h.scene

/-- Convert every frame of clock `c` that is due. -/
def State.convertDue (s : State) (c : Nat) : State :=
  (s.held.filter (fun h => h.clock == c)).foldl (fun s h => s.convert h.stream h.seq) s

/-! ## Streams of a cell at a change of epoch, hold or enable -/

/-- Streams of clock `c` that have a feed entry in use. -/
def State.cellFeeds (s : State) (c : Nat) : List Nat := s.enabledFeeds.filter (fun x => s.feedClock x == c)

/-- A new epoch of clock `c`: slots are forgotten, D returns to 0, retentions end, and grants are due (R108, R116,
R120, R121). -/
def State.newEpoch (s : State) (c : Nat) : State :=
  (s.cellFeeds c).foldl (fun s x =>
    let s := s.freeRetained x
    (s.setFeed x { s.feed x with prevSlot := none, announced := none, d := 0 }).showFeed x) s

/-- The effective lead of stream `x` in ns (R106). -/
def State.feedLead (s : State) (x : Nat) : Nat := s.leadNs (s.feedClock x) (s.get (A.tfeed x) HM_FEED_W0_LEAD_NS)

/-- The physical instant t + L − D whose scene time is the horizon of stream `x`; a strict feed hold keeps that of its
start (R106). -/
def State.horizonAt (s : State) (x : Nat) : Nat :=
  match (s.scene (s.feedClock x)).holdAt with
  | none => s.nowQ + nsQ (s.feedLead x) - s.feedD x
  | some h =>
    let f := ((s.feed x).frozen).getD (s.feedLead x, s.feedD x)
    min h s.nowQ + nsQ f.1 - f.2

/-- A feed hold of clock `c` starts (`ends` false) or ends: the leads are kept as they stand, D returns to 0 at its end, and
grants are due. -/
def State.holdChanged (s : State) (c : Nat) (ends : Bool) : State :=
  (s.cellFeeds c).foldl (fun s x =>
    let f := { s.feed x with eventDue := true, frozen := if ends then none else some (s.feedLead x, s.feedD x) }
    (s.setFeed x (if ends then { f with d := 0 } else f)).showFeed x) s

/-- Put a stream's feed state to IDLE with NEXT_SEQ unknown and D 0 (R124). -/
def State.idleFeed (s : State) (x : Nat) : State :=
  let b := A.tfeed x
  let s := s.freeRetained x
  let f := s.feed x
  let s := s.setFeed x { lateN := f.lateN, fullN := f.fullN, aheadN := f.aheadN, entryAt := f.entryAt }
  let s := ((s.put b HM_FEED_W3_NEXT_SEQ 0).put b HM_FEED_W4_STATE 0).put b HM_FEED_W4_REPEAT_RUN 0
  s.showFeed x

/-- Disable a feed entry: every frame of the stream that has not started, and its retained frame, are freed (R124). Its state
goes to IDLE only when it is enabled again (log entry 87). -/
def State.stopFeed (s : State) (x : Nat) : State :=
  let s := s.dropHeld (fun h => h.stream == x)
  let s := s.dropLaunches (fun y => y.kind == .replay && y.held.stream == x)
  let s := (s.put (A.tfeed x) HM_FEED_W0_EN 0).freeRetained x
  s.showFeed x

/-- Set a HOLD stream's offset D; at 2^31 ns the feed entry is disabled (R121). -/
def State.setD (s : State) (x d : Nat) : State :=
  if nsQ (2 ^ 31) ≤ d then (s.stopFeed x).report 576 0x0026 objStream x (d / 65536 / 1000)
  else (s.setFeed x { s.feed x with d := d }).showFeed x

end Sys2Proof.Machine
end

