-- ==== Sys2Proof/Machine/Banks.lean ====
section
/-!
DEFINITION. Bank groups of Caldera: the hold cells that no frame may take because their group is off or they are retired
(spec/15_modes_inservice.md R394, spec/16_power.md R404, spec/17_selftest_faults.md R417).
-/

namespace Sys2Proof.Machine

/-- Write the bit of a domain in a field. -/
def State.putBit (s : State) (b : Nat) (f : Fld) (i : Nat) (v : Bool) : State :=
  s.put b f (if v then s.get b f ||| 2 ^ i else if (s.get b f).testBit i then s.get b f - 2 ^ i else s.get b f)

/-! ## Hold cells that no frame may take (R394, R404, R417) -/

/-- Hold cells of the cell range `[lo, hi)` that lie in bank group `b`. -/
def inGroupCells (b lo hi : Nat) : Nat := min hi ((b + 1) * 131072) - max lo (b * 131072)

/-- Shared-pool cells of bank group `b`: those that belong to no partition. -/
def Image.groupShared (im : Image) (b : Nat) : Nat :=
  131072 - (im.parts.map (fun p => inGroupCells b p.base (p.base + p.launch + p.relay))).sum

/-- The partition that holds cell `i`, and whether it lies in the launch allotment, which comes first (log entry 44). -/
def Image.partOf (im : Image) (i : Nat) : Option (PartRec × Bool) :=
  (im.parts.find? (fun p => decide (p.base ≤ i ∧ i < p.base + p.launch + p.relay))).map
    (fun p => (p, decide (i < p.base + p.launch)))

/-- Shared-pool cells that are out of use: those of bank groups that are off, and retired ones of the others. -/
def State.deadShared (s : State) : Nat :=
  if !s.image.loaded then 0
  else
    let on := fun b => (s.get A.pw PW_DOMAIN_BANKS).testBit b
    (((List.range 16).filter (fun b => !on b)).map s.image.groupShared).sum +
      (s.tests.retired.filter (fun i => on (i / 131072) && (s.image.partOf i).isNone)).length

/-- A change of the image, of the powered bank groups or of the retired cells: HM_SHARED_USE counts the shared-pool cells
that are out of use. -/
def State.recount (s t : State) : State :=
  t.put A.hm HM_SHARED_USE_USED (t.get A.hm HM_SHARED_USE_USED - s.deadShared + t.deadShared)

/-- Cell `i` counts as used in its partition. -/
def State.countCell (s : State) (i : Nat) : State :=
  match s.image.partOf i with
  | some (p, true) => (s.inc (A.hmp p.lane) HM_PART_USE_LAUNCH_USED 1).pressure p.lane
  | some (p, false) => s.inc (A.hmp p.lane) HM_PART_USE_RELAY_USED 1
  | none => s

/-- Cell `i` is retired until Reset (R394). -/
def State.retireCell (s : State) (i : Nat) : State :=
  if s.tests.retired.contains i then s
  else s.recount ({ s with tests := { s.tests with retired := s.tests.retired ++ [i] } }.countCell i)

/-- Power bank group `b` up or down (R404); its bytes are lost when it goes down. -/
def State.setBank (s : State) (b : Nat) (on : Bool) : State :=
  let t := s.putBit A.pw PW_DOMAIN_BANKS b on
  s.recount (if on then t else t.loseMemory (16 + b))

end Sys2Proof.Machine
end

