-- ==== Sys2Proof/Machine/Access.lean ====
section
/-!
DEFINITION. Who may reach what: the address map, the boot rights and the access map (spec/14_image_boot.md R373–R377,
spec/19_register_map.md R448–R454).
-/

namespace Sys2Proof.Machine

/-! ## Requesters (R375) -/

/-- The control firmware. -/
def reqFirmware : Nat := 8

/-- DMA engine `e`. -/
def reqEngine (e : Nat) : Nat := 9 + e

/-- The pair partner. -/
def reqPartner : Nat := 13

/-- Key slot `q` of the MRAM key store. -/
def State.keySlot (s : State) (q : Nat) : KeySlot := SMap.get {} s.mram.keys q

/-! ## Where an address leads (R448–R454) -/

/-- The block whose span holds a register address, by its first 1 MiB page; SC spans five pages and MS four. -/
def spanOf (a : Nat) : Option Nat :=
  if inSpan a then
    let p := a / 0x100000
    some (if 0x11 ≤ p ∧ p ≤ 0x15 then 0x11 else if 0x31 ≤ p ∧ p ≤ 0x34 then 0x31 else p)
  else none

/-- The slice of a slice register address. -/
def sliceOfAddr (a : Nat) : Option Nat :=
  if 0x10000000 ≤ a ∧ a < 0x18000000 then some ((a - 0x10000000) / 0x1000000) else none

/-- Status of an access to the registers of slice `n` (R451). -/
def State.sliceAnswer (s : State) (n : Nat) (w : Bool) : Nat :=
  match s.sliceState n with
  | 6 => stNoTarget
  | 7 => stNoTarget
  | 3 => if w then stAccessDenied else stOK
  | 5 => if s.on (A.sd n) SD_LINK_CT_UP then stOK else stNoTarget
  | _ => if s.mode = 9 then stNoTarget else stOK

/-- A requester other than the firmware may not touch the module-reserved memory at `a` (R453, R454). -/
def State.reservedFor (s : State) (q a : Nat) (w : Bool) : Bool :=
  q != reqFirmware &&
    (match regionOf a with
     | .sram => decide (a < 0x403FC000) || (w && decide (a < 0x40400000))
     | .ddr => s.ddrReserved a
     | _ => false)

/-- What the address map says to an access of requester `q` to `n` bytes from `a`, all of them in one register block or
one memory (R448–R454, R457). -/
def State.target (s : State) (q a n : Nat) (w : Bool) : Nat :=
  let z := a + n - 1
  match regionOf a with
  | .none => stNoTarget
  | .register =>
    match spanOf a with
    | none => stNoTarget
    | some x =>
      if spanOf z ≠ some x then stNoTarget
      else match sliceOfAddr a with
        | some k => s.sliceAnswer k w
        | none => stOK
  | r =>
    if regionOf z ≠ r then stNoTarget
    else
      let step := match r with
        | .ddr => 2 ^ s.image.ddrG
        | .hold => 0x2000000
        | _ => 0x1000000
      let at_ := a :: z :: (List.range ((z - a) / step)).map (fun k => a + (k + 1) * step)
      if !at_.all s.memServed then stNoTarget
      else if s.reservedFor q a w || s.reservedFor q z w then stAccessDenied
      else if w && r == .hold && s.mode != 10 then stAccessDenied
      else stOK

/-! ## Rights (R373, R375, R377) -/

/-- A kind of access. -/
inductive Right where
  | read | write | key
  deriving DecidableEq, Repr

/-- Bit of RIGHTS. -/
def Right.code : Right → Nat
  | .read => 0 | .write => 1 | .key => 2

/-- The entry names requester `q` and carries the right. -/
def AmapRec.gives (r : AmapRec) (q : Nat) (g : Right) : Bool :=
  (r.word0 / 2 ^ 48).testBit q && (r.word0 / 2 ^ 44).testBit g.code

/-- The entry covers the `n` bytes from `a`. -/
def AmapRec.covers (r : AmapRec) (a n : Nat) : Bool :=
  decide (r.word0 % 2 ^ 44 ≤ a) && decide (a + n - 1 ≤ r.word1 % 2 ^ 44)

/-- Both words match their complements. -/
def AmapRec.intact (r : AmapRec) : Bool := r.word0 + r.comp0 == 2 ^ 64 - 1 && r.word1 + r.comp1 == 2 ^ 64 - 1

/-- First index in a list whose element satisfies `p`. -/
def indexOf? {α : Type} (p : α → Bool) : List α → Option Nat
  | [] => none
  | x :: xs => if p x then some 0 else (indexOf? p xs).map (· + 1)

/-- A mismatch in map entry `i`: it grants nothing until the next Reset, and one entry is written (R377). -/
def State.amapMismatch (s : State) (i : Nat) : State :=
  let s := { s with image := { s.image with amap := s.image.amap.modify i (fun r => { r with dead := true }) } }
  s.report 10 0x0011 objNone 0 i

/-- The access map decides: the first live entry that gives `q` the right over all `n` bytes (for KEY: any entry); the
entry that decides is checked (R375, R377). -/
def State.mapDecides (s : State) (q : Nat) (g : Right) (a n : Nat) : Bool × State :=
  match indexOf? (fun r => !r.dead && r.gives q g && (g == .key || r.covers a n)) s.image.amap with
  | none => (false, s)
  | some i =>
    match s.image.amap[i]? with
    | some r => if r.intact then (true, s) else (false, s.amapMismatch i)
    | none => (false, s)

/-- Length of the staging area: the largest image (R357). -/
def stageLen : Nat := 12582912

/-- The rights of key slots until handover (R373). -/
def State.bootRight (s : State) (q : Nat) (g : Right) (a n : Nat) : Bool :=
  decide (q < 8) && (s.keySlot q).boot &&
    (match g with
     | .read => decide (a + n ≤ 0x200000)
     | .write =>
       let b := s.get A.im IM_STAGE_BASE_DA
       (a == A.im && n == 8) || (a == A.im + 8 && n == 8) ||
         (decide (b ≤ a ∧ a + n ≤ b + stageLen) && !s.on A.im IM_RESULT_BUSY)
     | .key => false)

/-- Requester `q` has right `g` over the `n` bytes from `a`. -/
def State.hasRight (s : State) (q : Nat) (g : Right) (a n : Nat) : Bool × State :=
  if s.on A.sy SY_AMAP_LOCK_LOCKED then s.mapDecides q g a n else (s.bootRight q g a n, s)

/-- Address and access check of `n` bytes from `a`: the status, and the state after a map check (R311). -/
def State.permit (s : State) (q : Nat) (g : Right) (a n : Nat) : Nat × State :=
  let st := s.target q a n (g == .write)
  if st ≠ stOK then (st, s)
  else
    let (ok, s) := s.hasRight q g a n
    (if ok then stOK else stAccessDenied, s)

/-- Count a refused request: ACCESS_DENIED and NO_TARGET (R311). -/
def State.countDenied (s : State) (st : Nat) : State :=
  if st = stAccessDenied ∨ st = stNoTarget then s.bump A.xp XP_CNT_DENIED_COUNT else s

/-- Check every map entry against its complements: how many mismatch, and the state after (R377). -/
def State.amapCheck (s : State) : Nat × State :=
  (List.range s.image.amap.length).foldl (fun x i =>
    match x.2.image.amap[i]? with
    | some r => if r.dead || r.intact then x else (x.1 + 1, x.2.amapMismatch i)
    | none => x) (0, s)

end Sys2Proof.Machine
end

