-- ==== Sys2Proof/Machine/Feeds.lean ====
section
/-!
DEFINITION. Replay envelopes, late tests, sources, grants and the feed entry window: the commands of
spec/04_feeds_hold.md.
-/

namespace Sys2Proof.Machine

/-! ## Acceptance in the ingress slice: checks 1–8 of R97 -/

/-- The source entry of a feed admits an envelope received on lane `l` (check 7). -/
def State.sourceAdmits (s : State) (x l : Nat) (e : Envelope) : Bool :=
  let n := sliceOf l
  let b := A.fds n (s.feedSource x)
  let ip := if s.on b FD_SRC_CTRL_IPV6 then s.get b FD_SRC_IP_HI_ADDR * 2 ^ 64 + s.get b FD_SRC_IP_LO_ADDR
    else s.get b FD_SRC_IP_LO_ADDR % 2 ^ 32
  s.feedSlice x == n && s.on b FD_SRC_CTRL_EN && s.on b FD_SRC_CTRL_IPV6 == e.ip.v6 && ip == e.ip.src &&
    (s.on b FD_SRC_CTRL_ANY_INGRESS || s.get b FD_SRC_CTRL_INGRESS_LANE == l % 64)

/-- Check 8 for a frame envelope: every egress port takes the grown frame, and the profile is defined there. -/
def State.profileFits (s : State) (x n rewrite plen : Nat) : Bool :=
  (s.entryPorts n (s.entry n x) none).all (fun l =>
    s.profValid (sliceOf l) rewrite &&
      decide (plen + 4 + growthOf (s.profWord (sliceOf l) rewrite 0) ≤ s.get (A.lnp l) LN_PORT_MAXFRAME_BYTES))

/-- The kinds an envelope may have (R94). -/
def envKinds : List Nat := [0x00, 0x01, 0x02, 0x11]

/-- The first failed check of 1–8 as the FD counter it counts in, or the stream index. -/
def State.admission (s : State) (l : Nat) (e : Envelope) : Fld ⊕ Nat :=
  let n := sliceOf l
  if (s.on (A.fd n) FD_CTRL_UDP_CSUM && !e.udpGood) || decide (e.udpLen < 56) then .inl FD_CNT_BAD_UDP_COUNT
  else if !EnvF.hcrcOk e then .inl FD_CNT_BAD_HCRC_COUNT
  else if EnvF.ver e ≠ 1 ∨ EnvF.hlen e ≠ 12 ∨ !envKinds.contains (EnvF.kind e) ∨ 1000000000 ≤ EnvF.ns e then
    .inl FD_CNT_BAD_HEADER_COUNT
  else if EnvF.plen e ≠ e.udpLen - 56 ∨ (EnvF.kind e = 0 ∧ EnvF.plen e < 60) then .inl FD_CNT_BAD_LEN_COUNT
  else match s.idMap n (EnvF.streamId e) with
    | none => .inl FD_CNT_NO_STREAM_COUNT
    | some x =>
      if !s.feedOn x then .inl FD_CNT_NO_FEED_COUNT
      else if !s.sourceAdmits x l e then .inl FD_CNT_WRONG_SOURCE_COUNT
      else if EnvF.kind e = 0 ∧ !s.profileFits x n (EnvF.rewrite e) (EnvF.plen e) then .inl FD_CNT_BAD_LEN_COUNT
      else .inr x

/-! ## Acceptance in Caldera: checks 9–14 of R97 -/

/-- Key of a source: slice × 512 + source entry. -/
def State.sourceKey (s : State) (x : Nat) : Nat := s.feedSlice x * 512 + s.feedSource x

/-- An accepted envelope refreshes its source; a source that becomes UP starts its grant interval anew (R103). -/
def State.seen (s : State) (x : Nat) : State :=
  let b := A.fds (s.feedSlice x) (s.feedSource x)
  let k := s.sourceKey x
  let sent := if s.on b FD_SRC_STATUS_UP then (SMap.get (0, 0) s.sources k).2 else s.time.clk
  let s := (s.put b FD_SRC_STATUS_LAST_SEEN (shortOf s.nowQ)).put b FD_SRC_STATUS_UP 1
  { s with sources := SMap.set (0, 0) k (s.time.clk + 1, sent) s.sources }

/-- A SEQ below NEXT_SEQ (R122). -/
def State.countStale (s : State) (x q : Nat) : State :=
  if (s.feed x).late.contains q then s.bump (A.tfeed x) HM_FEED_W11_LATE_ARRIVAL
  else s.bump (A.tfeed x) HM_FEED_W12_STALE_SEQ

/-- A horizon that does not lie before the one the stream may not move back from (R269). -/
def FeedState.notBefore (f : FeedState) (e h : Nat) : Nat :=
  match f.floor with
  | some (e', h') => if e = e' then max h h' else h
  | none => h

/-- The horizon of epoch `e` for stream `x` as this unit computes it now (R106, R107). -/
def State.ownHorizon (s : State) (x e : Nat) : Option Nat :=
  let c := s.feedClock x
  let f := s.feed x
  let p := s.horizonAt x
  match s.epochHorizon c e p with
  | none => none
  | some h =>
    if f.grantEpoch = some e ∧ (s.sceneTime c p).map (·.1) = some e then
      let last := f.grantHorizon.getD h
      if (s.feedPorts x).any (fun l => s.on (A.hmp l) HM_PART_HWM_BACKPRESSURE) then some last
      else if s.policy x = 2 then some (max last h) else some h
    else some h

/-- The horizon of epoch `e` for stream `x` now (R106, R107, R269). -/
def State.horizon (s : State) (x e : Nat) : Option Nat := (s.ownHorizon x e).map ((s.feed x).notBefore e)

/-- Drop a copy for want of cells (R111, checks 13 and 14). -/
def State.holdFull (s : State) (x l : Nat) (port : Bool) : State :=
  let s := (s.bump (A.tfeed x) HM_FEED_W15_HOLD_FULL).noteFeed x 1 1
  if port then
    let s := (s.bump (A.hmp l) HM_CNT_HOLD_FULL_COUNT).event l 16 none 1
    s.limited (limitKey 3 l) 1 (fun n s => s.report 576 0x0022 objPort l n)
  else s

/-- File one copy for port `l`, and whether it passed checks 13 and 14; a held copy of the same SEQ there is replaced
(R98, R99, R110). -/
def State.fileCopy (s : State) (x l : Nat) (h : Held) : Bool × State :=
  let k := cellsFor h.inner.length
  let t := s.dropHeld (fun g => g.stream == x && g.seq == h.seq && g.lane == l)
  let cap := s.get (A.tfeed x) HM_FEED_W2_MAX_CELLS
  if !s.sliceServes (sliceOf l) then (true, s.streamMissed x)
  else if cap ≠ 0 ∧ cap < t.get (A.tfeed x) HM_FEED_W7_HELD_CELLS + k then (false, s.holdFull x l false)
  else match t.splitCells l k with
    | none => (false, s.holdFull x l true)
    | some (a, c) =>
      let t := t.takeCells l x a c
      (true, { t with held := t.held ++ [{ h with lane := l, launchCells := a, borrowed := c }] })

/-- The held frame an envelope carries, before its ports and cells. -/
def State.heldOf (s : State) (x : Nat) (e : Envelope) : Held :=
  let y := s.feedEntry x
  { lane := 0, stream := x, clock := s.clockOf y.cell, seq := EnvF.seq e, epoch := EnvF.epoch e, scene := EnvF.scene e,
    inner := e.inner, rewrite := EnvF.rewrite e, age := EnvF.age e, orig := EnvF.orig e,
    noRepeat := (EnvF.flags e).testBit 1, launchCells := 0, borrowed := 0, dropLate := y.dropLate, tc := y.tc,
    trailer := y.trailer, filedAt := s.nowQ }

/-- The stream's state after the frame `h` of `x` is filed: the first frame starts an IDLE stream, and one at or past the end
SEQ returns an ENDED one to ACTIVE (R100, R101). -/
def State.filed (s : State) (x : Nat) (h : Held) : State :=
  let s := if s.feedMode x = 0 then (s.put (A.tfeed x) HM_FEED_W3_NEXT_SEQ h.seq).put (A.tfeed x) HM_FEED_W4_STATE 1 else s
  let s := match (s.feed x).endSeq with
    | some q => if q ≤ h.seq then
        let s := s.setFeed x { s.feed x with endSeq := none }
        if s.feedMode x = 3 then s.put (A.tfeed x) HM_FEED_W4_STATE 1 else s
      else s
    | none => s
  ((s.bump (A.tfeed x) HM_FEED_W8_ACCEPTED).seen x).showFeed x

/-- File a frame on every egress port, accepted if one copy passes checks 13 and 14 (R97, R98). -/
def State.file (s : State) (x : Nat) (h : Held) : Bool × State :=
  let (ok, t) := (s.feedPorts x).foldl (fun r l => let (k, t) := r.2.fileCopy x l h; (r.1 || k, t)) (false, s)
  if ok then (true, t.filed x h) else (false, t)

/-- The HOLD stream's missing frame `h` was filed after its late test: it launches at max(p + D, t_f + H), and D follows
(R121). -/
def State.heldUp (s : State) (x : Nat) (h : Held) : State :=
  match s.physOf h.clock h.epoch h.scene with
  | some p =>
    let s := s.put (A.tfeed x) HM_FEED_W4_STATE 1
    (s.setFeed x { s.feed x with holdingAt := none }).setD x (max (p + s.feedD x) (s.nowQ + s.horizonQ h.clock) - p)
  | none => s

/-- A frame envelope that arrives after its own late test instant (R122). -/
def State.arriveLate (s : State) (x : Nat) (h : Held) : State :=
  let waiting := s.feedMode x = 2 ∧ h.seq = s.nextSeq x
  let s := if waiting then s else s.failBelow x h.seq
  if s.policy x = 2 then
    let s := if waiting ∨ s.feedMode x = 2 then s else s.countLate x 1
    match s.file x h with
    | (true, t) => if h.seq = t.nextSeq x then t.heldUp x h else t
    | (false, t) => t
  else if h.seq = s.nextSeq x then s.lateFail x (some (h.epoch, h.scene))
  else s

/-- A frame envelope that has passed checks 1–8 (R97 checks 9–14, R99, R121, R122). A REPLACE of a converted frame fails
check 11, although NEXT_SEQ has passed it (R99, R124). -/
def State.acceptFrame (s : State) (x : Nat) (e : Envelope) : State :=
  let h := s.heldOf x e
  let c := h.clock
  let replace := (EnvF.flags e).testBit 0
  if !s.epochKnown c h.epoch then s.bump (A.scc c) SC_CNT_STALE_ENV_COUNT
  else if replace && s.calendarSeq x h.seq then s.bump (A.tfeed x) HM_FEED_W13_DUP_SEQ
  else if s.feedMode x ≠ 0 ∧ h.seq < s.nextSeq x then s.countStale x h.seq
  else if s.calendarSeq x h.seq || ((s.heldSeq x h.seq).isSome && !replace) then s.bump (A.tfeed x) HM_FEED_W13_DUP_SEQ
  else
    let ahead := match s.horizon x h.epoch with
      | none => true
      | some z => decide (z + nsQ (s.get (A.tfeed x) HM_FEED_W2_AHEAD_SLACK_NS) < h.scene)
    if ahead then ((s.bump (A.tfeed x) HM_FEED_W14_AHEAD_OF_GRANT).noteFeed x 2 1)
    else
      let past := match s.launchAt h with
        | some p => decide (p < s.nowQ + s.horizonQ c)
        | none => false
      if past ∧ s.feedMode x ≠ 0 then s.arriveLate x h
      else match s.file x h with
        | (true, t) =>
          if t.feedMode x = 2 ∧ h.seq = t.nextSeq x then
            (t.put (A.tfeed x) HM_FEED_W4_STATE 1).setFeed x { t.feed x with holdingAt := none }
          else t
        | (false, t) => t

/-- An accepted heartbeat (R100). -/
def State.acceptHeartbeat (s : State) (x n : Nat) (e : Envelope) : State :=
  let c := s.feedClock x
  let q := EnvF.seq e
  if !s.epochKnown c (EnvF.epoch e) then s.bump (A.scc c) SC_CNT_STALE_ENV_COUNT
  else if s.feedMode x ≠ 0 ∧ q < s.nextSeq x then s.countStale x q
  else
    let s := (s.seen x).bump (A.fd n) FD_CNT_HEARTBEAT_COUNT
    let s := if s.feedMode x = 0 then (s.put (A.tfeed x) HM_FEED_W3_NEXT_SEQ q).put (A.tfeed x) HM_FEED_W4_STATE 1 else s
    let s := if s.nextSeq x < q then
        let f := s.feed x
        (s.noteLate x (lastMissing f.ahead (s.nextSeq x) q)).advanceTo x q none
      else s
    let s := if EnvF.sec e = 2 ^ 48 - 1 then s
      else s.setFeed x { s.feed x with announced := some (q, EnvF.epoch e, EnvF.scene e) }
    s.showFeed x

/-- An accepted end-of-stream envelope (R101). In an IDLE stream no SEQ below it is outstanding, so the stream ends at
once: the end SEQ becomes its NEXT_SEQ. DEDUCED (log 88), unsafe. -/
def State.acceptEnd (s : State) (x n : Nat) (e : Envelope) : State :=
  let s := (s.seen x).bump (A.fd n) FD_CNT_END_COUNT
  let s := if s.feedMode x = 0 then
      (s.put (A.tfeed x) HM_FEED_W3_NEXT_SEQ (EnvF.seq e)).put (A.tfeed x) HM_FEED_W4_STATE 1 else s
  (s.setFeed x { s.feed x with endSeq := some (EnvF.seq e) }).checkEnded x

/-- An accepted grant request (R102): one answer in any 10 µs. -/
def State.acceptRequest (s : State) (x n : Nat) : State :=
  let s := s.seen x
  let f := s.feed x
  let soon := f.reqDue || (match f.reqAt with
    | some t => decide (s.since t < 10000)
    | none => false)
  if soon then s.bump (A.fd n) FD_CNT_REQUEST_COUNT
  else s.setFeed x { f with reqDue := true, reqAt := some s.time.clk }

/-- A recognised envelope received on lane `l`: all checks, then its kind's effect (R97). -/
def State.envelope (s : State) (l : Nat) (e : Envelope) : State :=
  let n := sliceOf l
  match s.admission l e with
  | .inl f => s.bump (A.fd n) f
  | .inr x =>
    if EnvF.kind e = 0x00 then (s.bump (A.fd n) FD_CNT_ACCEPTED_COUNT).acceptFrame x e
    else if EnvF.kind e = 0x01 then s.acceptHeartbeat x n e
    else if EnvF.kind e = 0x02 then s.acceptEnd x n e
    else s.acceptRequest x n

/-- A frame received on lane `l` of a serving slice is an envelope of this kind. -/
def State.envelopeOf (s : State) (l : Nat) (b : Bytes) (kind : Nat) : Option Envelope :=
  if s.datapath && s.isPort l && s.linkUp l && s.sliceServes (sliceOf l) && fcsOk b then
    match s.envelope? (sliceOf l) b with
    | some e => if EnvF.kind e = kind then some e else none
    | none => none
  else none

/-- A frame of an envelope kind arrives; a frame that is none is not this event (log entry 4). -/
def State.receiveEnvelope (s : State) (l : Nat) (b : Bytes) (kind : Nat) : State :=
  match s.envelopeOf l b kind with
  | some e => (s.countRx l b.length).envelope l e
  | none => s

/-- ENVELOPE_FRAME. -/
def execEnvelopeFrame (l : Nat) (b : List Byte) (s : State) : Host.Outcome State Fault Refusal :=
  .next (s.receiveEnvelope l b 0x00)
/-- ENVELOPE_HEARTBEAT. -/
def execEnvelopeHeartbeat (l : Nat) (b : List Byte) (s : State) : Host.Outcome State Fault Refusal :=
  .next (s.receiveEnvelope l b 0x01)
/-- ENVELOPE_END_OF_STREAM. -/
def execEnvelopeEndOfStream (l : Nat) (b : List Byte) (s : State) : Host.Outcome State Fault Refusal :=
  .next (s.receiveEnvelope l b 0x02)
/-- ENVELOPE_GRANT_REQUEST. -/
def execEnvelopeGrantRequest (l : Nat) (b : List Byte) (s : State) : Host.Outcome State Fault Refusal :=
  .next (s.receiveEnvelope l b 0x11)

/-! ## Late tests (R117, R121) -/

/-- FRAME_CONVERSION of SEQ `q` of stream `x`. -/
def execFrameConversion (x q : Nat) (s : State) : Host.Outcome State Fault Refusal := .next (s.convert x q)

/-- The late test of NEXT_SEQ at its slot's instant minus H: due while the slot is known, the frame is not held, and
that instant has come. -/
def State.lateTest (s : State) (x : Nat) : State :=
  let c := s.feedClock x
  if !s.feedOn x ∨ s.feedMode x ≠ 1 ∨ (s.heldSeq x (s.nextSeq x)).isSome then s
  else match s.slotOf x with
    | none => s
    | some (e, t) => match s.physOf c e t with
      | none => s
      | some p => if p + s.feedD x ≤ s.nowQ + s.horizonQ c then s.lateFail x (some (e, t)) else s

/-- LATE_TEST. -/
def execLateTest (x : Nat) (s : State) : Host.Outcome State Fault Refusal := .next (s.lateTest x)

/-- HOLD_LIMIT_NS after its late test a frame still missing is counted again and passed over (R121). -/
def State.holdLimit (s : State) (x : Nat) : State :=
  match (s.feed x).holdingAt with
  | some t =>
    if s.feedMode x = 2 ∧ s.get (A.tfeed x) HM_FEED_W1_HOLD_LIMIT_NS ≤ s.since t then
      let q := s.nextSeq x
      let slot := s.slotOf x
      ((s.countLate x 1).noteLate x [q]).advanceTo x (q + 1) slot
    else s
  | none => s

/-- HOLD_LIMIT_EXPIRY. -/
def execHoldLimitExpiry (x : Nat) (s : State) : Host.Outcome State Fault Refusal := .next (s.holdLimit x)

/-! ## Grants (R104–R109) -/

/-- The stream's egress port is under backpressure (R106, R112). -/
def State.feedPressed (s : State) (x : Nat) : Bool := (s.feedPorts x).any (fun l => s.on (A.hmp l) HM_PART_HWM_BACKPRESSURE)

/-- The epoch of stream `x`: that of its horizon, S(t + L) (R81, R106); none without a scene time there. -/
def State.feedEpoch (s : State) (x : Nat) : Option Nat :=
  let c := s.feedClock x
  match s.sceneTime c (s.horizonAt x) with
  | none => none
  | some (e, _) => some (if s.feedPressed x then (s.feed x).grantEpoch.getD e else e)

/-- The stream's epoch is another one than its last record's (R81, R108). -/
def State.epochNews (s : State) (x : Nat) : Bool :=
  match s.feedEpoch x with
  | some e => (s.feed x).grantEpoch != some e && (s.horizon x e).isSome
  | none => false

/-- The grant record of stream `x` as it stands, and the state that has formed it; none without a scene time. -/
def State.formGrant (s : State) (x : Nat) : Option (Grant × State) :=
  let y := s.feedEntry x
  let c := s.feedClock x
  let f := s.feed x
  let hold := (s.scene c).holdAt
  let lead := s.feedLead x
  let bp := s.feedPressed x
  match s.feedEpoch x with
  | none => none
  | some e =>
    match s.horizon x e with
    | none => none
    | some z =>
      let restart := f.grantEpoch ≠ some e ∨ (f.grantHold ∧ hold.isNone)
      let g : Grant := {
        flags := bit hold.isSome + 2 * bit restart + 4 * bit (s.feedMode x == 3) + 8 * bit bp,
        streamId := y.streamId, seq := if s.feedMode x = 0 then 2 ^ 64 - 1 else s.nextSeq x, epoch := e, horizon := z,
        range := 1, cell := y.cell, lead := lead, lateLo := s.get (A.tfeed x) HM_FEED_W9_LATE_FEED }
      some (g, s.setFeed x { f with grantEpoch := some e, grantHorizon := some z, grantHold := hold.isSome })

/-- Merge runs of consecutive streams that share cell, epoch, horizon, lead and flags (R109). -/
def mergeGrants : List Grant → List Grant
  | [] => []
  | g :: t => match mergeGrants t with
    | [] => [g]
    | h :: r =>
      if h.streamId = g.streamId + 1 ∧ h.cell = g.cell ∧ h.epoch = g.epoch ∧ h.horizon = g.horizon ∧ h.lead = g.lead ∧
          h.flags = g.flags ∧ h.range < 65535 then
        { g with range := h.range + 1, seq := 2 ^ 64 - 1, lateLo := 0 } :: r
      else g :: h :: r

/-- Insert a grant by STREAM_ID. -/
def insertGrant (g : Grant) : List Grant → List Grant
  | [] => [g]
  | h :: t => if g.streamId ≤ h.streamId then g :: h :: t else h :: insertGrant g t

/-- Cut a list of records into datagrams of at most 30; `n` bounds their number. -/
def datagrams : Nat → List Grant → List (List Grant)
  | 0, _ => []
  | n + 1, gs => if gs.isEmpty then [] else gs.take 30 :: datagrams n (gs.drop 30)

/-- Send records to source entry `i` of slice `n`, in datagrams of 1–30 (R105). A unit without authority sends none. -/
def State.sendGrants (s : State) (n i : Nat) (gs : List Grant) : State :=
  if s.authority then
    let e := A.fds n i
    let l := n * 64 + s.get e FD_SRC_CTRL_GRANT_LANE
    let k := s.pcpClass l (if s.on e FD_SRC_UDP_VLAN_EN then s.get e FD_SRC_UDP_PCP else 0)
    (datagrams gs.length gs).foldl (fun s d =>
      let s := (s.add (A.fd n) FD_CNT_GRANT_RECORDS_COUNT d.length).bump (A.fd n) FD_CNT_GRANT_DATAGRAMS_COUNT
      s.relay l k { bytes := s.grantFrame n i (d.flatMap grantBytes) }) s
  else s

/-- Form the records of streams `xs`, in order. -/
def State.formGrants (s : State) (xs : List Nat) : List Grant × State :=
  xs.foldl (fun r x => match r.2.formGrant x with
    | some (g, s) => (r.1 ++ [g], s)
    | none => r) ([], s)

/-- The streams of source entry `i` of slice `n`. -/
def State.sourceFeeds (s : State) (n i : Nat) : List Nat :=
  s.enabledFeeds.filter (fun x => s.feedSlice x == n && s.feedSource x == i)

/-- Interval in ns of the grants of a source entry: PERIOD_NS while UP, 1 ms while DOWN (R103, R108). A source entry that has
never been UP is DOWN (log entry 86). -/
def State.grantInterval (s : State) (n i : Nat) : Nat :=
  if s.on (A.fds n i) FD_SRC_STATUS_UP then s.get (A.fds n i) FD_SRC_CTRL_PERIOD_NS else 1000000

/-- Grants are sent on a serving slice in the modes that serve traffic. -/
def State.grantsRun (s : State) (n i : Nat) : Bool :=
  s.serving && s.sliceServes n && s.on (A.fds n i) FD_SRC_CTRL_EN

/-- GRANT_PERIOD of source entry `i` of slice `n`: due each interval (R108, R109). -/
def State.grantPeriod (s : State) (n i : Nat) : State :=
  let k := n * 512 + i
  let r := SMap.get (0, 0) s.sources k
  if s.grantsRun n i ∧ s.grantInterval n i ≤ s.since r.2 then
    let s := { s with sources := SMap.set (0, 0) k (r.1, s.time.clk) s.sources }
    let (gs, s) := s.formGrants ((s.sourceFeeds n i).filter (fun x => s.feedMode x != 3))
    let gs := if s.on (A.fds n i) FD_SRC_CTRL_RANGE_OK then mergeGrants (gs.foldl (fun m g => insertGrant g m) []) else gs
    s.sendGrants n i gs
  else s

/-- GRANT_PERIOD. -/
def execGrantPeriod (n i : Nat) (s : State) : Host.Outcome State Fault Refusal := .next (s.grantPeriod n i)

/-- GRANT_EVENT_SEND: the records that an event made due: the stream's epoch has changed, or a hold or backpressure has
started or ended (R108). -/
def State.grantEvents (s : State) (n i : Nat) : State :=
  if s.grantsRun n i then
    let xs := (s.sourceFeeds n i).filter (fun x => (s.feed x).eventDue || s.epochNews x)
    let s := xs.foldl (fun s x => s.setFeed x { s.feed x with eventDue := false }) s
    let (gs, s) := s.formGrants xs
    s.sendGrants n i gs
  else s

/-- GRANT_EVENT_SEND. -/
def execGrantEventSend (n i : Nat) (s : State) : Host.Outcome State Fault Refusal := .next (s.grantEvents n i)

/-- GRANT_ANSWER_SEND: one unmerged record for the requesting stream (R102). -/
def State.grantAnswer (s : State) (x : Nat) : State :=
  if (s.feed x).reqDue ∧ s.feedOn x then
    let s := s.setFeed x { s.feed x with reqDue := false }
    match s.formGrant x with
    | some (g, s) => s.sendGrants (s.feedSlice x) (s.feedSource x) [g]
    | none => s
  else s

/-- GRANT_ANSWER_SEND. -/
def execGrantAnswerSend (x : Nat) (s : State) : Host.Outcome State Fault Refusal := .next (s.grantAnswer x)

/-- SOURCE_TIMEOUT: no accepted envelope for TIMEOUT_US (R103). -/
def State.sourceTimeout (s : State) (n i : Nat) : State :=
  let b := A.fds n i
  let r := SMap.get (0, 0) s.sources (n * 512 + i)
  let t := s.get b FD_SRC_CTRL_TIMEOUT_US
  if s.on b FD_SRC_STATUS_UP ∧ s.on b FD_SRC_CTRL_EN ∧ t * 1000 ≤ s.since (r.1 - 1) then
    let s := { s with sources := SMap.set (0, 0) (n * 512 + i) (r.1, s.time.clk) s.sources }
    (s.put b FD_SRC_STATUS_UP 0).report (srcSlice n 3) 0x0025 objSource (n * 512 + i) t
  else s

/-- SOURCE_TIMEOUT. -/
def execSourceTimeout (n i : Nat) (s : State) : Host.Outcome State Fault Refusal := .next (s.sourceTimeout n i)

/-! ## The feed entry window (R97, R106, R121, R124) -/

/-- Copy `n` words between two groups, from offset `o`. -/
def State.copyWords (s : State) (dst src o : Nat) : Nat → State
  | 0 => s
  | n + 1 => (s.setWord (dst + o) (s.word (src + o))).copyWords dst src (o + 8) n

/-- HM_FEED_IDX. -/
def State.feedIdx (s : State) : Nat := s.get A.hm HM_FEED_IDX_INDEX

/-- HM_FEED_CMD READ: the entry goes to the window. -/
def State.feedRead (s : State) : State :=
  ((s.showFeed s.feedIdx).copyWords A.hm (A.tfeed s.feedIdx) 0x40 16).put A.hm HM_FEED_CMD_STATUS stOK

/-- The window's W0–W2 are in range (R106). -/
def State.feedWindowOk (s : State) : Bool :=
  let b := A.hm
  let lead := s.get b HM_FEED_W0_LEAD_NS
  s.get b HM_FEED_W0_LATE_POLICY != 3 && decide (2000 ≤ lead ∧ lead ≤ 40000) && decide (1 ≤ s.get b HM_FEED_W0_REPEAT_MAX)

/-- HM_FEED_CMD WRITE: W0–W2 go to the entry; disabling it frees the stream's frames. -/
def State.feedWrite (s : State) : State :=
  if s.feedWindowOk then
    let x := s.feedIdx
    let was := s.feedOn x
    let s := s.copyWords (A.tfeed x) A.hm 0x40 3
    let s := if was && !s.feedOn x then s.stopFeed x else if !was && s.feedOn x then s.idleFeed x else s
    s.put A.hm HM_FEED_CMD_STATUS stOK
  else s.put A.hm HM_FEED_CMD_STATUS stBadValue

/-- HM_FEED_CMD CLEAR_COUNTS. -/
def State.feedClear (s : State) : State :=
  let b := A.tfeed s.feedIdx
  let s := [HM_FEED_W8_ACCEPTED, HM_FEED_W9_LATE_FEED, HM_FEED_W10_REPEATED, HM_FEED_W11_LATE_ARRIVAL,
    HM_FEED_W12_STALE_SEQ, HM_FEED_W13_DUP_SEQ, HM_FEED_W14_AHEAD_OF_GRANT, HM_FEED_W15_HOLD_FULL].foldl
    (fun s f => s.put b f 0) s
  s.put A.hm HM_FEED_CMD_STATUS stOK

/-- HM_FEED_CMD RESET_HOLD. -/
def State.feedReset (s : State) : State := (s.setD s.feedIdx 0).put A.hm HM_FEED_CMD_STATUS stOK

/-- HM_FEED_READ. -/
def execHmFeedRead (s : State) : Host.Outcome State Fault Refusal := .next s.feedRead
/-- HM_FEED_WRITE. -/
def execHmFeedWrite (s : State) : Host.Outcome State Fault Refusal := .next s.feedWrite
/-- CLEAR_COUNTS. -/
def execClearCounts (s : State) : Host.Outcome State Fault Refusal := .next s.feedClear
/-- RESET_HOLD. -/
def execResetHold (s : State) : Host.Outcome State Fault Refusal := .next s.feedReset

end Sys2Proof.Machine
end

