-- ==== Sys2Proof/Machine/Scene.lean ====
section
/-!
DEFINITION. Scene clocks: queueing, flushing and switching segments, enabling a cell, reading scene time, and serving
it over gPTP (spec/03_scene_clocks.md R70–R92).
-/

namespace Sys2Proof.Machine

/-- Base of clock `c`'s registers. -/
def scb (c : Nat) : Nat := A.scc c

/-- Set FRAMES_DISCARDED when `n` frames were counted (R460). -/
def State.discarded (s : State) (c : Nat) (f : Fld) (n : Nat) : State :=
  if n = 0 then s else (s.add (A.scc c) f n).raise (A.scc c) SC_EVENT_FLAGS 3

/-- Discard the unconverted frames of which `p` holds, counted in `f`; none of them is late (R115). -/
def State.discardHeld (s : State) (c : Nat) (f : Fld) (p : Held → Bool) : State :=
  let gone := s.held.filter p
  ((s.dropHeld p).discarded c f gone.length).resolveGone gone

/-! ## Rates and horizon (R26, R84) -/

/-- The rate is in the range of the policy (R84). -/
def rateOk (warped : Bool) (r : Nat) : Bool :=
  if warped then decide (r ≤ 0x1000000000) else decide (0xFFDF3B64 ≤ r ∧ r ≤ 0x10020C49C)

/-- The ports that the cell of clock `c` may launch on: its cell ports, and the egress ports of its REPLAY entries (R26). `n` is the
replica read. -/
def State.launchPorts (s : State) (n c : Nat) : List Nat :=
  let lo := A.tstream n 0 + (ST_W_W 0).off
  ((s.image.ports.filter (fun p => p.cellPort && s.clockOf p.cell == c)).map (·.lane)) ++ s.words.flatMap (fun e =>
    if lo ≤ e.1 ∧ e.1 < lo + 0x100 * 262144 ∧ (e.1 - lo) % 0x100 = 0 ∧ bitsOf e.2.toNat 63 63 = 1 ∧
        bitsOf e.2.toNat 62 61 = 1 ∧ s.clockOf (bitsOf e.2.toNat 51 41) = c then
      s.entryPorts n (s.entry n ((e.1 - lo) / 0x100)) none
    else [])

/-- Every launch port leaves `h` ns for its largest frame plus 2 µs (R26). -/
def State.horizonFits (s : State) (h : Nat) (ports : List Nat) : Bool :=
  ports.all (fun l => decide (s.txNs l (s.get (A.lnp l) LN_PORT_MAXFRAME_BYTES) + 2000 ≤ h))

/-- R26 for cell `c` with horizon `h`, on the golden stream table. -/
def State.horizonOk (s : State) (c h : Nat) : Bool := s.horizonFits h (s.launchPorts 8 c)

/-! ## PUSH and FLUSH (R73–R78) -/

/-- The staged switch instant. -/
def State.stagedInstant (s : State) (c : Nat) : Nat :=
  s.stamp (A.scc c) SC_STG_PHYS_SEC_SEC SC_STG_PHYS_NS_NS SC_STG_PHYS_NS_FRAC

/-- The staged scene anchor. -/
def State.stagedAnchor (s : State) (c : Nat) : Nat :=
  s.stamp (A.scc c) SC_STG_SCENE_SEC_SEC SC_STG_SCENE_NS_NS SC_STG_SCENE_NS_FRAC

/-- The last segment in force or queued. -/
def State.lastSeg (s : State) (c : Nat) : Option Segment := (s.segments c).getLast?

/-- KIND is allowed under the policy (R71). -/
def State.kindAllowed (s : State) (c kind : Nat) : Bool :=
  decide (kind ≤ 3) &&
    (kind != 1 || s.on (A.scc c) SC_CELL_CTRL_POLICY || (s.sceneMode c == 0 && (s.queueSegs c).isEmpty))

/-- The first failed check of a PUSH (R74). -/
def State.pushStatus (s : State) (c kind : Nat) : Nat :=
  let b := A.scc c
  if !s.on b SC_CELL_CTRL_EN || s.mirrorRole then stBadValue
  else if !s.kindAllowed c kind then stBadValue
  else if kind ≠ 2 ∧ !rateOk (s.on b SC_CELL_CTRL_POLICY) (s.get b SC_STG_RATE_RATE) then stBadValue
  else if kind ≠ 1 ∧ (s.segments c).isEmpty then stBadValue
  else if 16 ≤ (s.queueSegs c).length then stQueueFull
  else match s.lastSeg c with
    | some g => if s.stagedInstant c ≤ g.pa then stBadValue else stOK
    | none => stOK

/-- The effective switch instant (R75). -/
def State.effectiveInstant (s : State) (c : Nat) : Nat :=
  let p := max (s.stagedInstant c) (s.nowQ + s.horizonQ c)
  match s.lastSeg c with
  | some g => max p (g.pa + nsQ 1000)
  | none => p

/-- The segment that a PUSH queues, and whether it takes a new epoch (R71, R75, R78). -/
def State.newSegment (s : State) (c kind tag : Nat) : Segment × Bool :=
  let b := A.scc c
  let p := s.effectiveInstant c
  let staged := s.get b SC_STG_RATE_RATE
  let adj := p != s.stagedInstant c
  match s.lastSeg c with
  | none => ({ pa := p, sa := s.stagedAnchor c, rate := staged, epoch := (s.scene c).nextEpoch, kind := kind, tag := tag, adjusted := adj }, true)
  | some g =>
    let prev := sceneOn g p
    let sa := if kind = 1 then s.stagedAnchor c else prev
    let rate := if kind = 2 then (if s.on b SC_CELL_CTRL_POLICY then 0 else g.rate) else staged
    let fresh := kind == 3 || (kind == 1 && decide (sa < prev))
    ({ pa := p, sa := sa, rate := rate, epoch := if fresh then (s.scene c).nextEpoch else g.epoch, kind := kind, tag := tag, adjusted := adj }, fresh)

/-- Record the outcome of SC_SEG_CMD. -/
def State.segResult (s : State) (c tag status index flushed : Nat) (adj : Bool) : State :=
  let b := A.scc c
  let s := (s.put b SC_SEG_RESULT_TAG tag).inc b SC_SEG_RESULT_RESULT_SEQ 1
  let s := (s.put b SC_SEG_RESULT_QUEUE_INDEX index).put b SC_SEG_RESULT_FLUSHED flushed
  (s.put b SC_SEG_RESULT_HORIZON_ADJUSTED (bit adj)).put b SC_SEG_RESULT_STATUS status

/-- A SCENE record of clock `c` is due to the partner (R270). -/
def State.sceneChanged (s : State) (c : Nat) : State :=
  { s with pair := { s.pair with sceneDue := c :: s.pair.sceneDue.filter (· != c) } }

/-- PUSH of kind `kind` with identifier `tag` (R74, R75, R78). -/
def State.push (s : State) (c kind tag : Nat) : State :=
  let st := s.pushStatus c kind
  if st = stOK then
    let b := A.scc c
    let n := (s.queueSegs c).length
    let r := s.newSegment c kind tag
    let g := r.1
    let s := if r.2 then s.setScene c { s.scene c with nextEpoch := (g.epoch + 1) % 65536 } else s
    let s := (s.putQueueSeg c n g).put b SC_STATUS_QUEUE_COUNT (n + 1)
    let s := s.putStamp b SC_SEG_EFF_SEC_SEC SC_SEG_EFF_NS_NS SC_SEG_EFF_NS_FRAC g.pa
    let s := if g.adjusted then s.raise b SC_EVENT_FLAGS 2 else s
    (s.sceneChanged c).segResult c tag stOK n 0 g.adjusted
  else s.segResult c tag st 0 0 false

/-- FLUSH: remove the queued segments beyond t_v + H, and the frames of epochs removed with them (R76, R272). -/
def State.flush (s : State) (c tag : Nat) : State :=
  let gs := s.queueSegs c
  let keep := gs.filter (fun g => decide (g.pa ≤ s.nowQ + s.horizonQ c))
  let gone := gs.length - keep.length
  if s.mirrorRole then s.segResult c tag stBadValue 0 0 false
  else if gone = 0 then s.segResult c tag stNOP 0 0 false
  else
    let s := s.setQueueSegs c keep
    let s := s.discardHeld c SC_CNT_EPOCH_DISCARD_COUNT (fun h => h.clock == c && !s.epochKnown c h.epoch)
    (s.sceneChanged c).segResult c tag stOK 0 gone false

/-- SC_SEG_CMD with OP none (R73). -/
def State.segNop (s : State) (c tag : Nat) : State := s.segResult c tag stNOP 0 0 false

/-- Execute a committed SC_SEG_CMD word (R73). -/
def State.segCommand (s : State) (c w : Nat) : State :=
  let tag := bitsOf w 31 16
  match bitsOf w 1 0 with
  | 0 => s.segNop c tag
  | 1 => s.push c (bitsOf w 7 4) tag
  | 2 => s.flush c tag
  | _ => s.segResult c tag stBadValue 0 0 false

/-- PUSH. -/
def execPush (c kind tag : Nat) (s : State) : Host.Outcome State Fault Refusal :=
  .next (if s.isScene c then s.push c kind tag else s)
/-- FLUSH. -/
def execFlush (c tag : Nat) (s : State) : Host.Outcome State Fault Refusal :=
  .next (if s.isScene c then s.flush c tag else s)
/-- SEG_NOP. -/
def execSegNop (c tag : Nat) (s : State) : Host.Outcome State Fault Refusal :=
  .next (if s.isScene c then s.segNop c tag else s)

/-! ## The switch (R72, R77, R80, R85, R461) -/

/-- Make `g` the current segment of clock `c` in the registers. -/
def State.putCurSeg (s : State) (c : Nat) (g : Segment) : State :=
  let b := A.scc c
  let s := s.putStamp b SC_CUR_PHYS_SEC_SEC SC_CUR_PHYS_NS_NS SC_CUR_PHYS_NS_FRAC g.pa
  let s := (s.put b SC_CUR_SCENE_SEC_EPOCH g.epoch).putStamp b SC_CUR_SCENE_SEC_SEC SC_CUR_SCENE_NS_NS SC_CUR_SCENE_NS_FRAC g.sa
  let s := (s.put b SC_CUR_RATE_RATE g.rate).put b SC_STATUS_EPOCH g.epoch
  s.put b SC_STATUS_STATE (if g.rate = 0 then 2 else 1)

/-- The frames of an ended epoch that have no instant: relabelled under CARRY, else discarded (R80). -/
def State.endEpoch (s : State) (c old : Nat) (prev : Nat) (g : Segment) : State :=
  if s.on (A.scc c) SC_CELL_CTRL_CARRY then
    let n := (s.held.filter (fun h => h.clock == c && h.epoch == old)).length
    let s := { s with held := s.held.map (fun (h : Held) =>
      if h.clock = c ∧ h.epoch = old then { h with epoch := g.epoch, scene := h.scene - prev + g.sa } else h) }
    s.add (A.scc c) SC_CNT_RELABEL_COUNT n
  else s.discardHeld c SC_CNT_EPOCH_DISCARD_COUNT (fun h => h.clock == c && h.epoch == old)

/-- End a strict feed hold at instant `p`: its time is accumulated (R85). -/
def State.endHold (s : State) (c p : Nat) : State :=
  match (s.scene c).holdAt with
  | some h =>
    let s := s.inc (A.scc c) SC_HOLD_ACCUM_NS ((p - h) / 65536)
    let s := s.setScene c { s.scene c with holdAt := none }
    (s.put (A.scc c) SC_STATUS_FEED_HOLD 0).holdChanged c true
  | none => s

/-- Segment `g` becomes current after `f` (R77). -/
def State.switchFrom (s : State) (c : Nat) (f g : Segment) : State :=
  let b := A.scc c
  let prev := sceneOn f g.pa
  let strict := !s.on b SC_CELL_CTRL_POLICY
  let jump := g.kind == 1 && g.sa != prev
  let x := s.scene c
  let s := s.setScene c { x with
    phase := if g.kind = 1 then (g.sa : Int) - prev else x.phase,
    freq := if g.rate = f.rate then x.freq else (g.rate : Int) - f.rate }
  let s := if jump ∨ g.rate ≠ f.rate then s.inc b SC_STATUS_TBI 1 else s
  let s := if jump ∨ g.kind = 3 then s.inc b SC_STATUS_DISC 1 else s
  let s := if g.epoch = f.epoch then
      if g.kind = 1 then
        s.discardHeld c SC_CNT_JUMP_DISCARD_COUNT (fun h =>
          h.clock == c && h.epoch == g.epoch && decide (prev ≤ h.scene ∧ h.scene < g.sa))
      else s
    else ((s.endEpoch c f.epoch prev g).newEpoch c).raise b SC_EVENT_FLAGS 1
  let s := if g.kind = 0 ∨ g.kind = 3 then s.endHold c g.pa else s
  if strict ∧ g.kind = 2 ∧ (s.scene c).holdAt = none then
    let s := (s.setScene c { s.scene c with holdAt := some g.pa }).put b SC_STATUS_FEED_HOLD 1
    s.holdChanged c false
  else s

/-- SEGMENT_SWITCH of clock `c`: due at the switch instant of its first queued segment (R77). Frames whose instants
come before the switch are converted first. -/
def State.segmentSwitch (s : State) (c : Nat) : State :=
  match s.queueSegs c with
  | g :: rest =>
    if g.pa ≤ s.nowQ then
      let b := A.scc c
      let s := s.convertDue c
      let s := match s.curSeg c with
        | some f => s.switchFrom c f g
        | none => ((s.put b SC_STATUS_EPOCH g.epoch).newEpoch c).raise b SC_EVENT_FLAGS 1
      let s := (s.putCurSeg c g).setQueueSegs c rest
      let s := s.raise b SC_EVENT_FLAGS 0
      if rest.isEmpty then s.raise b SC_EVENT_FLAGS 4 else s
    else s
  | [] => s

/-- SEGMENT_SWITCH. -/
def execSegmentSwitch (c : Nat) (s : State) : Host.Outcome State Fault Refusal := .next (s.segmentSwitch c)

/-! ## SC_CELL_CTRL (R83, R86, R92) -/

/-- A port is served by 802.1AS: a configured data port without IEEE 1588 (R459). -/
def State.portDomains (s : State) (l : Nat) : Nat :=
  match s.port? l with
  | none => 0
  | some p =>
    bit (s.get (A.tbp l) TB_PORT_CTRL_ROLE_PHYS != 0) +
      ((List.range (s.get A.sc SC_INFO_CELLS)).filter (fun c => p.cellPort && s.clockOf p.cell == c && s.on (A.scc c) SC_CELL_CTRL_GPTP_EN)).length

/-- Ports that the image assigns to the cell of clock `c` (R86). -/
def State.scenePorts (s : State) (c : Nat) : List PortRec := s.image.ports.filter (fun p => p.cellPort && s.clockOf p.cell == c)

/-- The write that sets GPTP_EN with DOMAIN `d` is admitted (R86). -/
def State.gptpOk (s : State) (c d : Nat) : Bool :=
  let ps := s.scenePorts c
  let all := (s.image.ports.map (fun p => s.portDomains p.lane)).foldl (· + ·) 0
  d != s.get A.tb TB_CTRL_DOMAIN_PHYS &&
    ps.all (fun p => decide (s.portDomains p.lane + 1 ≤ 8) && !s.on (A.tbp p.lane) TB_PORT_CTRL_PTP1588_EN) &&
    decide (all + ps.length ≤ 4096)

/-- A written SC_CELL_CTRL word is accepted (R26, R83, R86). -/
def State.cellCtrlOk (s : State) (c w : Nat) : Bool :=
  let b := A.scc c
  let en := s.on b SC_CELL_CTRL_EN
  let pol := bitsOf w 1 1
  let gptp := w.testBit 3
  let d := bitsOf w 14 8
  !(en && pol != s.get b SC_CELL_CTRL_POLICY) &&
    (!gptp || (if s.on b SC_CELL_CTRL_GPTP_EN then d != s.get A.tb TB_CTRL_DOMAIN_PHYS else s.gptpOk c d)) &&
    (!w.testBit 0 || en || s.horizonOk c (s.get b SC_HORIZON_NS)) &&
    decide (d ≤ 127) && decide ((bitsOf w 19 16 + 7) % 16 ≤ 8) && decide ((bitsOf w 23 20 + 3) % 16 ≤ 6)

/-- EN goes to 0 (R92, R124): the queue and every frame of the cell that has not started go, Sync and grants stop. -/
def State.disableScene (s : State) (c : Nat) : State :=
  let b := A.scc c
  let fs := s.cellFeeds c
  let mine (x : Launch) : Bool := x.kind == .replay && x.held.clock == c
  let n := (s.launches.filter mine).length
  let s := s.endHold c s.nowQ
  let s := (s.dropLaunches mine).discarded c SC_CNT_EPOCH_DISCARD_COUNT n
  let s := s.discardHeld c SC_CNT_EPOCH_DISCARD_COUNT (fun h => h.clock == c)
  let s := s.setQueueSegs c []
  let s := s.put b SC_STATUS_STATE 0
  fs.foldl (fun s x => s.idleFeed x) s

/-- Store a written SC_CELL_CTRL (R92): on 0 to 1 the hold time restarts and the first JUMP takes a new epoch. -/
def State.cellCtrl (s : State) (c w : Nat) : State :=
  let b := A.scc c
  let was := s.on b SC_CELL_CTRL_EN
  let s := s.put b SC_CELL_CTRL_LOG_ANNOUNCE (bitsOf w 23 20)
  let s := (s.put b SC_CELL_CTRL_LOG_SYNC (bitsOf w 19 16)).put b SC_CELL_CTRL_DOMAIN (bitsOf w 14 8)
  let s := (s.put b SC_CELL_CTRL_GPTP_EN (bitsOf w 3 3)).put b SC_CELL_CTRL_CARRY (bitsOf w 2 2)
  let s := (s.put b SC_CELL_CTRL_POLICY (bitsOf w 1 1)).put b SC_CELL_CTRL_EN (bitsOf w 0 0)
  let s := s.put b SC_GM_STATUS_PORTS (if w.testBit 3 then (s.scenePorts c).length else 0)
  if was && !w.testBit 0 then s.disableScene c
  else if !was && w.testBit 0 then
    let x := s.scene c
    let s := s.setScene c { x with phase := 0, freq := 0, stopped := false }
    s.put b SC_HOLD_ACCUM_NS 0
  else s

/-- SC_CELL_ENABLE: a write of SC_CELL_CTRL whose EN is `en`; a refused one changes nothing. -/
def State.cellEnable (s : State) (c : Nat) (en : Bool) : State :=
  let w := withBits (s.word (A.scc c + SC_CELL_CTRL_EN.off)).toNat 0 0 (bit en)
  if s.isScene c && s.cellCtrlOk c w then s.cellCtrl c w else s

/-- SC_CELL_ENABLE. -/
def execScCellEnable (c : Nat) (en : Bool) (s : State) : Host.Outcome State Fault Refusal := .next (s.cellEnable c en)

/-! ## Reading scene time (R82) -/

/-- The SC_NOW_SEC word now. -/
def State.scNowWord (s : State) (c : Nat) : Nat :=
  let t := s.sceneStamp c s.nowQ
  t.1 * 2 ^ 48 + secOf t.2

/-- A read of SC_NOW_SEC latches the rest of the stamp in SC_NOW_NS. -/
def State.scNowRead (s : State) (c : Nat) : State :=
  let b := A.scc c
  let t := s.sceneStamp c s.nowQ
  let s := (s.put b SC_NOW_SEC_EPOCH t.1).put b SC_NOW_SEC_SEC (secOf t.2)
  (s.put b SC_NOW_NS_NS (nsOf t.2)).put b SC_NOW_NS_FRAC (fracOf t.2)

/-- SC_NOW_SEC_READ. -/
def execScNowSecRead (c : Nat) (s : State) : Host.Outcome State Fault Refusal :=
  .next (if s.isScene c then s.scNowRead c else s)

/-! ## Serving scene time (R86–R89) -/

/-- `(a × 2^41) / 2^32` as a signed 32-bit scaled rate (R87). -/
def scaledRate (a : Int) : Int := saturate 32 (a * 2 ^ 9)

/-- The cell serves scene time on port `l` now (R24, R89). -/
def State.servesScene (s : State) (c l : Nat) : Bool :=
  s.serving && s.isScene c && s.on (A.scc c) SC_CELL_CTRL_GPTP_EN && s.sceneMode c != 0 &&
    (s.scenePorts c).any (fun p => p.lane == l) && s.linkUp l && s.sliceServes (sliceOf l)

/-- A signed log interval of `n` bits as one octet. -/
def logOctet (n v : Nat) : Nat := toTwos 8 (sext n v)

/-- SCENE_SYNC_SEND of clock `c` on port `l`: a two-step Sync; its Follow_Up follows its departure (R87). -/
def State.sceneSync (s : State) (c l : Nat) : State :=
  if s.servesScene c l then
    let b := A.scc c
    let x := s.scene c
    let s := s.setScene c { x with syncSeq := (x.syncSeq + 1) % 65536 }
    let s := s.inc b SC_GM_STATUS_SYNC_SENT 1
    s.sendOwn l (s.gptpFrame l (syncMsg (s.get b SC_CELL_CTRL_DOMAIN) s.image.clockId (l + 1) x.syncSeq
      (logOctet 4 (s.get b SC_CELL_CTRL_LOG_SYNC)))) (.syncScene c x.syncSeq)
  else s

/-- SCENE_SYNC_SEND. -/
def execSceneSyncSend (c l : Nat) (s : State) : Host.Outcome State Fault Refusal := .next (s.sceneSync c l)

/-- The Follow_Up of a scene Sync that left port `l` at `te` (R87). -/
def State.sceneFollowUp (s : State) (c l seq te : Nat) : State :=
  let b := A.scc c
  let x := s.scene c
  let t := (s.sceneStamp c te).2
  let rate := ((segAt (s.segments c) te).map (·.rate)).getD (2 ^ 32)
  s.sendOwn l (s.gptpFrame l (followUpMsg (s.get b SC_CELL_CTRL_DOMAIN) s.image.clockId (l + 1) seq
    (logOctet 4 (s.get b SC_CELL_CTRL_LOG_SYNC)) (t / 65536 * 65536) (fracOf t)
    (toTwos 32 (scaledRate ((rate : Int) - 2 ^ 32))) (s.get b SC_STATUS_TBI) (toTwos 96 (x.phase))
    (toTwos 32 (scaledRate x.freq)))) .none

/-- SCENE_ANNOUNCE_SEND of clock `c` on port `l` (R88). -/
def State.sceneAnnounce (s : State) (c l : Nat) : State :=
  if s.servesScene c l then
    let b := A.scc c
    let x := s.scene c
    let p2 := 255 - s.effClaim / 256
    let s := s.setScene c { x with announceSeq := (x.announceSeq + 1) % 65536 }
    let s := (s.put b SC_GM_STATUS_PRIORITY1 s.image.priority1).put b SC_GM_STATUS_PRIORITY2 p2
    s.sendOwn l (s.gptpFrame l (announceMsg (s.get b SC_CELL_CTRL_DOMAIN) s.image.clockId (l + 1) x.announceSeq
      (logOctet 4 (s.get b SC_CELL_CTRL_LOG_ANNOUNCE)) s.image.priority1
      (s.get b SC_GM_CTRL_CLOCK_CLASS * 2 ^ 24 + s.get b SC_GM_CTRL_CLOCK_ACCURACY * 2 ^ 16 + s.get b SC_GM_CTRL_VARIANCE)
      p2 s.image.clockId 0 (s.get b SC_GM_CTRL_TIME_SOURCE) 0x0008)) .none
  else s

/-- SCENE_ANNOUNCE_SEND. -/
def execSceneAnnounceSend (c l : Nat) (s : State) : Host.Outcome State Fault Refusal := .next (s.sceneAnnounce c l)

end Sys2Proof.Machine
end

