-- ==== Sys2Proof/Machine/Injector.lean ====
section
/-!
DEFINITION. What the fault injectors of a port do to a frame that meets them (spec/17_selftest_faults.md R418–R422).
-/

namespace Sys2Proof.Machine

/-- Injection is permitted now: the running image sets LAB and the mode is Service or Diagnostic (R418). -/
def State.injectionOn (s : State) : Bool := s.image.flags.testBit 0 && (s.mode == 6 || s.mode == 10)

/-- Injector `k` of port `l`. -/
def State.injector (s : State) (l k : Nat) : Injector := SMap.get {} s.injectors (l * 4 + k)

/-- Store an injector and show whether it holds a frame. -/
def State.setInjector (s : State) (l k : Nat) (x : Injector) : State :=
  let s := { s with injectors := SMap.set {} (l * 4 + k) x s.injectors }
  s.put (A.fii l k) FI_INJ_STATUS_HOLDING (bit x.held.isSome)

/-- A frame as injectors see it. -/
structure InjFrame where
  bytes : Bytes
  stream : Option Nat := none
  slot : Option Nat := none
  cls : Nat := 0
  deriving DecidableEq, Repr

/-- FI_INJ_MATCH selects the frame (R419). -/
def State.injMatches (s : State) (l k : Nat) (f : InjFrame) : Bool :=
  let b := A.fii l k
  match s.get b FI_INJ_MATCH_KIND with
  | 0 => true
  | 1 => f.stream == some (s.get b FI_INJ_MATCH_STREAM)
  | 2 => f.slot == some (s.get b FI_INJ_MATCH_SLOT)
  | _ => (s.get b FI_INJ_MATCH_CLASSES).testBit f.cls

/-- What became of the frame. -/
inductive InjOut where
  | pass (bytes : Bytes)
  | drop
  /-- Injector `k` holds it. -/
  | hold (k : Nat) (bytes : Bytes)
  deriving DecidableEq, Repr

/-- CORRUPT: bit `i` of byte `o` inverted; the FCS is recomputed unless it is to stay bad or the byte lies in it (R420). -/
def corruptBytes (b : Bytes) (o i : Nat) (bad : Bool) : Bytes :=
  let x := b.set o (BitVec.ofNat 8 ((b.getD o 0).toNat ^^^ 2 ^ i))
  if bad || decide (b.length ≤ o + 4) then x else withFcs (x.take (x.length - 4))

/-- Count one injection (R419, R420). -/
def State.countInjected (s : State) (l k : Nat) : State :=
  let x := s.injector l k
  (s.bump (A.fii l k) FI_INJ_COUNT_INJECTED).setInjector l k { x with done := x.done + 1 }

/-- Disarm an injector that has made LIMIT injections (R419, R424). -/
def State.checkLimit (s : State) (l k : Nat) : State :=
  let b := A.fii l k
  let lim := s.get b FI_INJ_CTRL_LIMIT
  if lim ≠ 0 ∧ lim ≤ (s.injector l k).done then
    ((s.put b FI_INJ_CTRL_ARM 0).put b FI_INJ_STATUS_ACTIVE 0).put b FI_INJ_STATUS_DONE 1
  else s

/-- An injection that holds no frame. -/
def State.injected (s : State) (l k : Nat) : State := (s.countInjected l k).checkLimit l k

/-- The frame meets injector `k` of port `l` in direction `dir` (0 egress, 1 ingress). -/
def State.meetOne (s : State) (l k dir : Nat) (f : InjFrame) : State × InjOut :=
  let b := A.fii l k
  if !s.on b FI_INJ_STATUS_ACTIVE || s.get b FI_INJ_CTRL_DIR != dir || !s.injMatches l k f then (s, .pass f.bytes)
  else
    let s := s.inc b FI_INJ_STATUS_MATCHED 1
    let x := s.injector l k
    match x.held with
    | some h => (s.setInjector l k { x with held := some { h with left := h.left.map (· - 1) } }, .pass f.bytes)
    | none =>
      let s := s.setInjector l k { x with selected := x.selected + 1 }
      if (x.selected + 1) % max 1 (s.get b FI_INJ_CTRL_EVERY) ≠ 0 then (s, .pass f.bytes)
      else match s.get b FI_INJ_CTRL_ACTION with
        | 0 => (s.injected l k, .drop)
        | 1 =>
          let o := s.get b FI_INJ_PARAM_OFFSET
          if f.bytes.length ≤ o then (s, .pass f.bytes)
          else (s.injected l k, .pass (corruptBytes f.bytes o (s.get b FI_INJ_PARAM_BIT) (s.on b FI_INJ_PARAM_FCS_BAD)))
        | _ => (s.countInjected l k, .hold k f.bytes)

/-- The frame meets the injectors `ks` in order; a dropped or held one meets no later one (R419). -/
def State.meet : List Nat → State → Nat → Nat → InjFrame → State × InjOut
  | [], s, _, _, f => (s, .pass f.bytes)
  | k :: ks, s, l, dir, f =>
    match s.meetOne l k dir f with
    | (s, .pass b) => State.meet ks s l dir { f with bytes := b }
    | r => r

/-- The frame meets the port's injectors from number `i` on. -/
def State.inject (s : State) (l dir i : Nat) (f : InjFrame) : State × InjOut :=
  if s.injectionOn then State.meet ((List.range 4).drop i) s l dir f else (s, .pass f.bytes)

/-- Injector `k` of port `l` keeps a frame. -/
def State.holdFrame (s : State) (l k : Nat) (h : InjHeld) : State :=
  let left := if s.get (A.fii l k) FI_INJ_CTRL_ACTION = 2 then some (s.get (A.fii l k) FI_INJ_PARAM_K) else none
  s.setInjector l k { s.injector l k with held := some { h with left := left } }

/-- Nanoseconds by which an event message leaves after its egress stamp (R422); `pdelay` marks Pdelay messages. -/
def State.txSkew (s : State) (l : Nat) (pdelay : Bool) : Nat :=
  let b := A.fit l
  if s.injectionOn && s.on b FI_TSKEW_TX_EN && s.on b (if pdelay then FI_TSKEW_PDELAY else FI_TSKEW_EVENT) then
    s.get b FI_TSKEW_TX_NS
  else 0

/-- What is added to the ingress stamp of an event message, in units of 2^-16 ns (R422). -/
def State.rxSkew (s : State) (l : Nat) (pdelay : Bool) : Int :=
  let b := A.fit l
  if s.injectionOn && s.on b FI_TSKEW_RX_EN && s.on b (if pdelay then FI_TSKEW_PDELAY else FI_TSKEW_EVENT) then
    s.getI b FI_TSKEW_RX_SKEW
  else 0

end Sys2Proof.Machine
end

