-- ==== Sys2Proof/Machine/Launch.lean ====
section
/-!
DEFINITION. Rewrite profiles, staging and launch: the launch commands of spec/05_launch_gates.md (R128–R144).
-/

namespace Sys2Proof.Machine

/-! ## Rewrite at launch (R138–R142, R90, R91, R209) -/

/-- Step 1: the VLAN operation on the outer tag. -/
def rwVlan (tpids : List Nat) (w0 w1 w2 : Nat) (b : Bytes) : Bytes :=
  let tag := be 2 (bitsOf w2 63 48) ++ be 2 (bitsOf w1 62 60 * 8192 + bitsOf w1 63 63 * 4096 + bitsOf w1 59 48)
  let tagged := tpids.contains (rd b 12 2)
  match bitsOf w0 62 60 with
  | 1 => if tagged then wr b 12 tag else b
  | 2 => b.take 12 ++ tag ++ b.drop 12
  | 3 => if tagged then b.take 12 ++ b.drop 16 else b
  | _ => b

/-- Step 2: R-TAG replacement or insertion after the VLAN tags (R140). -/
def rwRtag (tpids : List Nat) (w0 seq : Nat) (b : Bytes) : Bytes :=
  let o := skipTags tpids b.length b 12
  if !w0.testBit 57 then b
  else if rd b o 2 = 0xF1C1 then wr b (o + 4) (be 2 seq)
  else b.take o ++ be 2 0xF1C1 ++ be 2 0 ++ be 2 seq ++ b.drop o

/-- Step 3: the addresses. -/
def rwAddr (w0 w1 : Nat) (b : Bytes) : Bytes :=
  let b := if w0.testBit 59 then wr b 0 (be 6 (bitsOf w0 47 0)) else b
  if w0.testBit 58 then wr b 6 (be 6 (bitsOf w1 47 0)) else b

/-- Step 4: AVTP presentation time and mr (R90, R91, R141). `scene` is the short stamp of the scene launch time. -/
def rwAvtp (tpids : List Nat) (w0 scene orig disc : Nat) (b : Bytes) : Bytes :=
  let o := skipTags tpids 2 b 12
  let o := if rd b o 2 = 0xF1C1 then o + 6 else o
  let a := o + 2
  let f := rd b (a + 1) 1
  if !w0.testBit 56 || rd b o 2 != 0x22F0 || !f.testBit 7 || !([0, 2, 3, 7].contains (rd b a 1)) || b.length < a + 16 then b
  else
    let b := wr b (a + 1) (be 1 (f ^^^ (disc % 2 * 8)))
    if f.testBit 0 then wr b (a + 12) (be 4 (scene + (rd b (a + 12) 4 + 2 ^ 32 - orig))) else b

/-- XOR of a byte string. -/
def xorBytes (b : Bytes) : Byte := b.foldl (· ^^^ ·) 0

/-- The state trailer at the end of a frame without FCS is valid (R208). -/
def trailerOk (b : Bytes) : Bool :=
  let t := b.drop (b.length - 8)
  t.length == 8 && t.head? == some 0xA5 && xorBytes (t.take 7) == (t.drop 7).headD 0

/-- A valid state trailer with a new age and further flags; CHECK follows (R208). -/
def setTrailer (b : Bytes) (age flags : Nat) : Bytes :=
  let t := b.drop (b.length - 8)
  let u := wr t 1 (be 1 age ++ be 1 (rd t 2 1 ||| flags))
  b.take (b.length - 8) ++ u.take 7 ++ [xorBytes (u.take 7)]

/-- Step 5: the age, at AGE_OFFSET or in a valid state trailer (R142, R209). -/
def rwAge (w0 w2 age : Nat) (trailer isRepeat : Bool) (b : Bytes) : Bytes :=
  if w0.testBit 55 then
    if bitsOf w2 31 16 < b.length then wr b (bitsOf w2 31 16) (be 1 age) else b
  else if trailer && trailerOk b then setTrailer b age (if isRepeat then 2 else 0) else b

/-- The frame as launched from port `l`, with its FCS (R138). -/
def State.rewrite (s : State) (l : Nat) (h : Held) : Bytes :=
  let n := sliceOf l
  let w0 := s.profWord n h.rewrite 0
  let w1 := s.profWord n h.rewrite 1
  let w2 := s.profWord n h.rewrite 2
  let b := rwVlan (s.tpids n) w0 w1 w2 h.inner
  let b := rwAddr w0 w1 (rwRtag (s.tpids n) w0 h.seq b)
  let b := rwAvtp (s.tpids n) w0 (shortOf h.scene) h.orig (s.get (A.scc h.clock) SC_STATUS_DISC) b
  withFcs (rwAge w0 w2 h.age h.trailer h.isRepeat b)

/-- The R-TAG sequence number of a frame, or 0. -/
def rtagOf (tpids : List Nat) (b : Bytes) : Nat :=
  let o := skipTags tpids b.length b 12
  if rd b o 2 = 0xF1C1 then rd b (o + 4) 2 else 0

/-! ## LAUNCH_STAGE -/

/-- Replace the first element of which `p` holds. -/
def replaceFirst {α : Type} (p : α → Bool) (f : α → α) : List α → List α
  | [] => []
  | x :: t => if p x then f x :: t else x :: replaceFirst p f t

/-- The launch waits for staging on port `l`. -/
def Launch.unstaged (l : Nat) (x : Launch) : Bool := x.held.lane == l && x.staged.isNone && x.fail.isNone

/-- A converted frame reaches Geyser and is rewritten; a profile gone or a frame too long makes it a missed launch
(R136–R138, R144). -/
def State.stage (s : State) (l : Nat) : State :=
  match s.launches.find? (Launch.unstaged l) with
  | none => s
  | some x =>
    let n := sliceOf l
    let put := fun (y : Launch) (s : State) => { s with launches := replaceFirst (Launch.unstaged l) (fun _ => y) s.launches }
    if !s.profValid n x.held.rewrite then put { x with fail := some 6 } s
    else
      let b := s.rewrite l x.held
      if s.get (A.lnp l) LN_PORT_MAXFRAME_BYTES < b.length then put { x with fail := some 5 } s
      else
        let s := put { x with staged := some b, stagedAt := s.nowQ } s
        if x.t0 < s.nowQ + nsQ (s.txNs l b.length) + nsQ 32 then
          (s.bump (A.lnp l) LN_LATE_STAGE_COUNT).raise (A.lnp l) LN_EVENT_FLAGS 4
        else s

/-- LAUNCH_STAGE. -/
def execLaunchStage (l : Nat) (s : State) : Host.Outcome State Fault Refusal :=
  .next (if s.datapath then s.stage l else s)

/-! ## LAUNCH -/

/-- The cause of R136 that keeps a launch off the wire, as far as the instant of the decision shows it. -/
def State.missCause (s : State) (l : Nat) (x : Launch) : Option Nat :=
  if !s.linkUp l then some 0
  else if !s.on (A.lnp l) LN_PORT_CTRL_LAUNCH_EN then some 1
  else if x.corrupt || (x.kind == .replay && (s.scene x.held.clock).stopped) then some 2
  else if s.sync.reloading.contains (sliceOf l) then some 3
  else if !s.sliceServes (sliceOf l) then some 4
  else x.fail

/-- Journal a miss at most once per port per second, with the cause of the first one since the previous entry. -/
def State.journalMiss (s : State) (l cause : Nat) : State :=
  let key := limitKey 4 l
  let x := SMap.get {} s.journal.limits key
  let first := if x.count = 0 then cause + 1 else x.count
  let due := match x.last with
    | none => true
    | some t => decide (1000000000 ≤ s.since t)
  let y : Limiter := if due then ⟨some s.time.clk, 0⟩ else ⟨x.last, first⟩
  let s := { s with journal := { s.journal with limits := SMap.set {} key y s.journal.limits } }
  if due then s.report (srcSlice (sliceOf l) 4) 0x0023 objPort l (first - 1) else s

/-- The launch sample of a launch, from what became of it. -/
def State.sampleOf (s : State) (l : Nat) (x : Launch) : Sample :=
  { stream := x.held.stream, isRepeat := x.held.isRepeat, kind := x.kind,
    rtag := rtagOf (s.tpids (sliceOf l)) (x.staged.getD []), sched := x.t0, actual := 0, filedAt := x.held.filedAt }

/-- The launch leaves the calendar. -/
def State.takeLaunch (s : State) (l : Nat) : State :=
  { s with launches := s.launches.eraseP (fun x => x.held.lane == l) }

/-- A missed launch (R136). -/
def State.miss (s : State) (l : Nat) (x : Launch) (cause : Nat) : State :=
  let b := A.lnp l
  let s := (s.takeLaunch l).freeLaunch x
  let s := (s.bump b LN_MISSED_COUNT).raise b LN_EVENT_FLAGS 1
  let s := if cause = 2 then s.raise b LN_EVENT_FLAGS 3 else s
  let s := (s.streamMissed x.held.stream).event l 7 (some x.held.tc) 1
  let s := s.journalMiss l cause
  s.sample l { s.sampleOf l x with missed := true }

/-- Count a late launch frame (R134). -/
def State.late (s : State) (l : Nat) (x : Launch) : State :=
  ((s.bump (A.lnp l) LN_LATE_COUNT).raise (A.lnp l) LN_EVENT_FLAGS 0).event l 6 (some x.held.tc) 1

/-- A late frame of a DROP stream is discarded (R135). -/
def State.lateDrop (s : State) (l : Nat) (x : Launch) (start : Nat) : State :=
  let s := (s.takeLaunch l).freeLaunch x
  let s := ((s.late l x).bump (A.lnp l) LN_LATE_DROP_COUNT).raise (A.lnp l) LN_EVENT_FLAGS 2
  s.sample l { s.sampleOf l x with late := true, dropped := true, actual := start }

/-- Add a replay launch to the launch digest of its millisecond (R274). -/
def State.digest (s : State) (l : Nat) (x : Launch) (rtag : Nat) : State :=
  let k := x.t0 / nsQ 1000000
  let w := x.held.stream * 2 ^ 46 + l * 2 ^ 37 + rtag * 2 ^ 21
  let v := w ^^^ (nsOf x.t0 * 0x9E3779B97F4A7C15 % 2 ^ 64)
  { s with digests := SMap.set 0 k ((SMap.get 0 s.digests k + v) % 2 ^ 64) s.digests }

/-- The next frame of a stream launches: its repeat run ends, and so does the retention of the frame before it (R120). -/
def State.realLaunch (s : State) (l : Nat) (x : Launch) : State :=
  if x.kind == .replay && !x.held.isRepeat then
    let s := s.put (A.tfeed x.held.stream) HM_FEED_W4_REPEAT_RUN 0
    let f := s.feed x.held.stream
    let s := s.setFeed x.held.stream { f with retained := f.retained.filter (fun h => h.lane != l) }
    (f.retained.filter (fun h => h.lane == l)).foldl (fun s h => s.freeHeld h) s
  else s

/-- Geyser starts a launch frame of bytes `b` at `start`; `dropped` marks one that an injector discards (R420). -/
def State.startLaunch (s : State) (l : Nat) (x : Launch) (b : Bytes) (start : Nat) (dropped : Bool) : State :=
  let stop := start + nsQ (s.txNs l b.length)
  let isLate := decide (x.t0 < start)
  let s := if x.kind == .replay then s.digest l x (rtagOf (s.tpids (sliceOf l)) b) else s
  let s := (s.takeLaunch l).realLaunch l x
  let s := s.bump (A.lnp l) LN_LAUNCHED_COUNT
  let s := if isLate then
      let s := s.late l x
      let ns := ceilDiv (start - x.t0) 65536
      if s.get (A.lnp l) LN_LATE_MAX_NS_NS < ns then s.put (A.lnp l) LN_LATE_MAX_NS_NS (min ns (2 ^ 32 - 1)) else s
    else s
  let s := if dropped then s else s.windowTx l b.length (some x.held.tc) true
  let f : EgFrame := { bytes := b, stream := some x.held.stream }
  let w := s.wire l
  (s.setWire l { w with
    freeAt := stop, shadowEnd := stop,
    tx := some { frame := f, cls := x.held.tc, express := true, start := start, stop := stop,
                 launch := some { x with staged := some b }, first := start, dropped := dropped } }).recredit l

/-- The first launch of port `l`, whose instant has come: missed, dropped, held by an injector, or started (R133–R136,
R419–R421). -/
def State.launch (s : State) (l : Nat) : State :=
  match (s.portLaunches l).head? with
  | none => s
  | some x =>
    if s.nowQ < x.t0 then s
    else match s.missCause l x, x.staged with
      | some c, _ => s.miss l x c
      | none, none => s
      | none, some b =>
        let w := s.wire l
        let start := max (max x.t0 w.freeAt) (max x.stagedAt x.released)
        if w.tx.isSome || decide (s.nowQ < start) then s
        else if x.held.dropLate && decide (x.t0 + nsQ (s.get (A.lnp l) LN_PORT_CTRL_LATE_TOL_NS) < start) then
          s.lateDrop l x start
        else
          match s.inject l 0 x.inj { bytes := b, stream := some x.held.stream, cls := x.held.tc } with
          | (s, .pass b) => s.startLaunch l x b start false
          | (s, .drop) => s.startLaunch l x b start true
          | (s, .hold k b) =>
            (s.takeLaunch l).holdFrame l k
              { bytes := b, at_ := s.nowQ, left := none, cls := x.held.tc, launch := some { x with staged := some b, inj := k + 1 } }

/-- LAUNCH. -/
def execLaunch (l : Nat) (s : State) : Host.Outcome State Fault Refusal :=
  .next (if s.datapath || !s.linkUp l then s.launch l else s)

/-! ## LN_RW_READ, LN_RW_WRITE (R139, R143) -/

/-- A profile's fields are in range, so far as the profile uses them (R139). -/
def profOk (w0 w2 w3 : Nat) : Bool :=
  let op := bitsOf w0 62 60
  decide (op ≤ 3) && bitsOf w0 54 48 == 0 && bitsOf w2 47 32 == 0 && bitsOf w2 15 8 == 0 && w3 == 0 &&
    (!(op == 1 || op == 2) || bitsOf w2 63 48 == 0x8100 || bitsOf w2 63 48 == 0x88A8) &&
    (!w0.testBit 55 || decide (14 ≤ bitsOf w2 31 16 ∧ bitsOf w2 31 16 ≤ 16379))

/-- The window's profile index, if the image defines it. -/
def State.rwIndex (s : State) (n : Nat) : Option Nat :=
  let i := s.get (A.ln n) LN_RW_IDX_INDEX
  if i < s.get (A.ln n) LN_INFO_PROFILES then some i else none

/-- LN_RW_CMD READ of slice `n`. -/
def State.rwRead (s : State) (n : Nat) : State :=
  let b := A.ln n
  match s.rwIndex n with
  | none => s.put b LN_RW_CMD_STATUS stBadValue
  | some i =>
    let s := (s.put b LN_RW_W0_W0 (s.profWord n i 0)).put b LN_RW_W1_W1 (s.profWord n i 1)
    let s := (s.put b LN_RW_W2_W2 (s.profWord n i 2)).put b LN_RW_W3_W3 (s.profWord n i 3)
    s.put b LN_RW_CMD_STATUS stOK

/-- LN_RW_READ. -/
def execLnRwRead (n : Nat) (s : State) : Host.Outcome State Fault Refusal := .next (s.atSlice n (·.rwRead n))

/-- LN_RW_CMD WRITE of slice `n`: all four words at once; GROWTH follows from word 0. -/
def State.rwWrite (s : State) (n : Nat) : State :=
  let b := A.ln n
  let w0 := s.get b LN_RW_W0_W0
  let w1 := s.get b LN_RW_W1_W1
  let w2 := s.get b LN_RW_W2_W2
  let w3 := s.get b LN_RW_W3_W3
  match s.rwIndex n with
  | none => s.put b LN_RW_CMD_STATUS stBadValue
  | some i =>
    if profOk w0 w2 w3 then
      let p := A.trwprof n i
      let s := (s.put p LN_RW_W0_W0 w0).put p LN_RW_W1_W1 w1
      let s := (s.put p LN_RW_W2_W2 (w2 / 256 * 256 + growthOf w0)).put p LN_RW_W3_W3 0
      s.put b LN_RW_CMD_STATUS stOK
    else s.put b LN_RW_CMD_STATUS stBadValue

/-- LN_RW_WRITE. -/
def execLnRwWrite (n : Nat) (s : State) : Host.Outcome State Fault Refusal := .next (s.atSlice n (·.rwWrite n))

end Sys2Proof.Machine
end

