-- ==== Sys2Proof/Machine/Gates.lean ====
section
/-!
DEFINITION. The gate control list commands of a port (spec/05_launch_gates.md R145–R152, R158).
-/

namespace Sys2Proof.Machine

/-! ## Committing and cancelling a change (R148, R149, R151) -/

/-- The admin list with its base, cycle, extension and length. -/
def State.gateAdmin (s : State) (l : Nat) : GateSet where
  base := ofStamp (s.get (A.gcp l) GC_ADMIN_BASE_SEC_SEC) (s.get (A.gcp l) GC_ADMIN_BASE_NS_NS) 0
  cycle := s.get (A.gcp l) GC_ADMIN_CYCLE_NS
  ext := s.get (A.gcp l) GC_ADMIN_EXT_NS
  entries := (List.range (s.get (A.gcp l) GC_ADMIN_LEN_LEN)).map (SMap.get 0 (s.gateLists l).admin)

/-- The result of an executed GC command. -/
def State.gateResult (s : State) (l tag status : Nat) (adjusted replaced : Bool) : State :=
  let b := A.gcp l
  let s := (s.put b GC_CMD_RESULT_TAG tag).inc b GC_CMD_RESULT_RESULT_SEQ 1
  let s := (s.put b GC_CMD_RESULT_REPLACED (bit replaced)).put b GC_CMD_RESULT_BASE_ADJUSTED (bit adjusted)
  s.put b GC_CMD_RESULT_STATUS status

/-- Show a ConfigChangeTime. -/
def State.showCct (s : State) (l q : Nat) : State :=
  (s.put (A.gcp l) GC_CCT_SEC_SEC (secOf q)).put (A.gcp l) GC_CCT_NS_NS (nsOf q)

/-- CONFIG_CHANGE: check the admin list, make it pending and fix ConfigChangeTime. -/
def State.gateChange (s : State) (l tag : Nat) : State :=
  let g := s.gateAdmin l
  let x := s.gateLists l
  let st := commitStatus g 4096 (fun e => decide (geOp e ≤ 2)) x.pending s.nowQ
  if st = stOK then
    let n := changeN g.base g.cycle (s.nowQ + nsQ 2000)
    let cct := g.base + n * nsQ g.cycle
    let s := (s.setGateLists l { x with pending := some (g, cct) }).showCct l cct
    let s := s.put (A.gcp l) GC_STATUS_CONFIG_PENDING 1
    let s := if 0 < n then s.bump (A.gcp l) GC_CNT_CFG_ERROR_COUNT else s
    s.gateResult l tag stOK (decide (0 < n)) x.pending.isSome
  else s.gateResult l tag st false false

/-- CONFIG_CHANGE. -/
def execConfigChange (l tag : Nat) (s : State) : Host.Outcome State Fault Refusal := .next (s.atPort l (·.gateChange l tag))

/-- CANCEL: a pending change at least 2 µs away is removed. -/
def State.gateCancel (s : State) (l tag : Nat) : State :=
  let x := s.gateLists l
  match x.pending with
  | none => s.gateResult l tag stNOP false false
  | some (_, cct) =>
    if cct < s.nowQ + nsQ 2000 then s.gateResult l tag stChangeLocked false false
    else
      let s := (s.setGateLists l { x with pending := none }).showCct l x.lastCct
      (s.put (A.gcp l) GC_STATUS_CONFIG_PENDING 0).gateResult l tag stOK false false

/-- CANCEL. -/
def execCancel (l tag : Nat) (s : State) : Host.Outcome State Fault Refusal := .next (s.atPort l (·.gateCancel l tag))

/-- GC_CMD_NOP: OP none. -/
def execGcCmdNop (l tag : Nat) (s : State) : Host.Outcome State Fault Refusal :=
  .next (s.atPort l (·.gateResult l tag stNOP false false))

/-- A committed GC_CMD, by its OP. -/
def State.gateCmd (s : State) (l op tag : Nat) : State :=
  match op with
  | 0 => s.gateResult l tag stNOP false false
  | 1 => s.gateChange l tag
  | 2 => s.gateCancel l tag
  | _ => s.gateResult l tag stBadValue false false

/-! ## Gate states (R146, R147, R158, R173) -/

/-- Assert or release the MAC hold, and count an assertion (R173). -/
def State.setHold (s : State) (l : Nat) (on : Bool) : State :=
  let was := s.on (A.gcp l) GC_STATUS_MAC_HOLD
  let s := (s.put (A.gcp l) GC_STATUS_MAC_HOLD (bit on)).put (A.pep l) PE_PORT_STATUS_HOLD (bit on)
  if on && !was then s.bump (A.pep l) PE_CNT_HOLD_COUNT else s

/-- Entry number `i`, words `e`, takes effect; without active pre-emption its OP acts as 0 (R145). -/
def State.enterGate (s : State) (l i e : Nat) : State :=
  let s := (s.put (A.gcp l) GC_STATUS_GATES (geGates e)).put (A.gcp l) GC_STATUS_CUR_ENTRY i
  let s := if s.peActive l && geOp e == 1 then s.setHold l true
    else if s.peActive l && geOp e == 2 then s.setHold l false else s
  s.recredit l

/-- The oper entry in force now, with the instant it began. -/
def State.operEntry (s : State) (l : Nat) : Option (Nat × Nat × Nat) :=
  let x := s.gateLists l
  match x.oper with
  | none => none
  | some g => operAt g (x.pending.map (·.2)) s.nowQ

/-- The oper entry that is due begins; `intact` says that it passed its complement check (R146, R158). -/
def State.gateEntry (s : State) (l : Nat) (intact : Bool) : State :=
  let x := s.gateLists l
  match s.operEntry l with
  | none => s
  | some (i, e, t) =>
    if !x.enabled || x.entryAt == some t then s
    else
      let s := s.setGateLists l { x with entryAt := some t }
      if intact then s.enterGate l i e
      else
        let s := s.raise (A.gcp l) GC_EVENT_FLAGS 3
        s.report (srcSlice (sliceOf l) 5) 0x0011 objPort l 0

/-- GATE_ENTRY_START. -/
def execGateEntryStart (l : Nat) (intact : Bool) (s : State) : Host.Outcome State Fault Refusal :=
  .next (s.atPort l (·.gateEntry l intact))

/-- Put GATE_EN in force at the tick after its write (R147). -/
def State.applyGateEn (s : State) (l : Nat) : State :=
  let x := s.gateLists l
  let en := s.on (A.gcp l) GC_PORT_CTRL_GATE_EN
  if x.enabled = en then s
  else if en then (s.setGateLists l { x with enabled := true, entryAt := none }).gateEntry l true
  else
    let s := s.setGateLists l { x with enabled := false, entryAt := none }
    ((s.put (A.gcp l) GC_STATUS_GATES 0xFF).setHold l false).recredit l

/-- GATE_EN_WRITE: the register holds the value now, and the gates follow at the next tick. -/
def execGateEnWrite (l : Nat) (en : Bool) (s : State) : Host.Outcome State Fault Refusal :=
  .next (s.atPort l (fun s => s.put (A.gcp l) GC_PORT_CTRL_GATE_EN (bit en)))

/-! ## CONFIG_CHANGE_TIME (R149, R150, R152) -/

/-- Compute GC_CLASS_OPEN from the oper list (R152). -/
def State.classOpen (s : State) (l : Nat) (g : GateSet) : State :=
  (List.range 8).foldl (fun s k =>
    match g.longest (fun e => (geGates e).testBit k) with
    | none => (s.put (A.gcc l k) GC_CLASS_OPEN_ALWAYS 1).put (A.gcc l k) GC_CLASS_OPEN_MAX_OPEN_NS 0
    | some n => (s.put (A.gcc l k) GC_CLASS_OPEN_ALWAYS 0).put (A.gcc l k) GC_CLASS_OPEN_MAX_OPEN_NS n) s

/-- The pending set becomes the oper set at its ConfigChangeTime. -/
def State.gateApply (s : State) (l : Nat) : State :=
  let x := s.gateLists l
  match x.pending with
  | none => s
  | some (g, cct) =>
    if s.nowQ < cct then s
    else
      let b := A.gcp l
      let s := match x.oper with
        | none => s
        | some o => if o.cycleStart cct = cct then s
            else if o.extends cct then s.raise b GC_EVENT_FLAGS 1 else s.raise b GC_EVENT_FLAGS 2
      let s := s.setGateLists l { x with pending := none, oper := some g, entryAt := none, lastCct := cct }
      let s := (s.put b GC_OPER_BASE_SEC_SEC (secOf g.base)).put b GC_OPER_BASE_NS_NS (nsOf g.base)
      let s := (s.put b GC_OPER_CYCLE_NS g.cycle).put b GC_OPER_EXT_NS g.ext
      let s := (s.put b GC_OPER_LEN_LEN g.entries.length).put b GC_STATUS_CONFIG_PENDING 0
      let s := (s.raise b GC_EVENT_FLAGS 0).bump b GC_CNT_CHANGES_COUNT
      (s.classOpen l g).gateEntry l true

/-- CONFIG_CHANGE_TIME. -/
def execConfigChangeTime (l : Nat) (s : State) : Host.Outcome State Fault Refusal := .next (s.atPort l (·.gateApply l))

/-! ## The list window (R145, R9) -/

/-- The entry at GC_LIST_PTR. -/
def State.gateData (s : State) (l : Nat) : Nat :=
  let x := s.gateLists l
  let i := s.get (A.gcp l) GC_LIST_PTR_INDEX
  match s.get (A.gcp l) GC_LIST_PTR_BANK with
  | 0 => SMap.get 0 x.admin i
  | 1 => ((x.oper.map (·.entries)).getD []).getD i 0
  | _ => ((x.pending.map (·.1.entries)).getD []).getD i 0

/-- Advance the window's INDEX under AUTO_INC. -/
def State.gateNext (s : State) (l : Nat) : State :=
  if s.on (A.gcp l) GC_LIST_PTR_AUTO_INC then s.inc (A.gcp l) GC_LIST_PTR_INDEX 1 else s

/-- GC_LIST_DATA_READ: the entry appears at the register's value address, and INDEX advances. -/
def execGcListDataRead (l : Nat) (s : State) : Host.Outcome State Fault Refusal :=
  .next (s.atPort l (fun s => (s.put (A.gcp l) GC_LIST_DATA_ENTRY (s.gateData l)).gateNext l))

/-- A pair committed through the window: it goes to the admin bank only. -/
def State.gateDataWrite (s : State) (l v : Nat) : State :=
  if s.get (A.gcp l) GC_LIST_PTR_BANK = 0 then
    let x := s.gateLists l
    (s.setGateLists l { x with admin := SMap.set 0 (s.get (A.gcp l) GC_LIST_PTR_INDEX) v x.admin }).gateNext l
  else s

end Sys2Proof.Machine
end

