-- ==== Sys2Proof/Machine/Merge.lean ====
section
/-!
DEFINITION. The MAC merge sublayer: when pre-emption is active, verification, and the LLDP exchange
(spec/06_preemption_shaping.md R165–R171).
-/

namespace Sys2Proof.Machine

/-- The peer is known to support pre-emption with it enabled (R166). -/
def State.peerOk (s : State) (l : Nat) : Bool :=
  let b := A.pep l
  s.on b PE_PORT_CTRL_PEER_ASSUME ||
    (s.on b PE_PORT_STATUS_PEER_SEEN && s.on b PE_PORT_STATUS_PEER_SUPPORTED && s.on b PE_PORT_STATUS_PEER_ENABLED)

/-- The conditions of R166 other than verification. -/
def State.peReady (s : State) (l : Nat) : Bool := s.on (A.pep l) PE_PORT_CTRL_EN && s.linkUp l && s.peerOk l

/-- The conditions of R166. -/
def State.peWanted (s : State) (l : Nat) : Bool :=
  s.peReady l && (s.on (A.pep l) PE_PORT_CTRL_VERIFY_DIS || s.get (A.pep l) PE_PORT_STATUS_VERIFY_STATUS == 3)

/-- A preemptable frame is on the wire or awaits its continuation. -/
def State.peBusy (s : State) (l : Nat) : Bool :=
  let w := s.wire l
  w.preempted.isSome || (match w.tx with | some x => !x.express | none => false)

/-- W of R132 in ns. -/
def State.fragTail (s : State) (l : Nat) : Nat :=
  if s.portRate l = 0 then 0 else wireNs (64 * (1 + s.afs l) + 12) (s.portRate l)

/-- Set ACTIVE and what follows from it (R166, R168). -/
def State.setActive (s : State) (l : Nat) (on : Bool) : State :=
  if s.peActive l = on then s
  else
    let s := (s.put (A.pep l) PE_PORT_STATUS_ACTIVE (bit on)).raise (A.pep l) PE_EVENT_FLAGS 0
    (s.setMerge l { s.merge l with lldpDue := true }).recredit l

/-- Start verification from its first frame, or leave it waiting for the other conditions (R167). -/
def State.startVerify (s : State) (l : Nat) : State :=
  let b := A.pep l
  if !s.on b PE_PORT_CTRL_EN || s.on b PE_PORT_CTRL_VERIFY_DIS then s.put b PE_PORT_STATUS_VERIFY_STATUS 0
  else if s.peReady l then (s.put b PE_PORT_STATUS_VERIFY_STATUS 2).setMerge l { s.merge l with verifies := 0 }
  else s.put b PE_PORT_STATUS_VERIFY_STATUS 1

/-- Recompute AFS_OPER, W and ACTIVE at a frame boundary, and start a verification whose conditions first hold
(R166–R171). A port with a preempted frame keeps them until its last fragment, unless its link is down. -/
def State.refreshPe (s : State) (l : Nat) : State :=
  let b := A.pep l
  let v := s.get b PE_PORT_STATUS_VERIFY_STATUS
  let s := if v < 2 ∨ !s.on b PE_PORT_CTRL_EN ∨ s.on b PE_PORT_CTRL_VERIFY_DIS then s.startVerify l else s
  if s.peBusy l && s.linkUp l then s
  else
    let peer := if s.on b PE_PORT_STATUS_PEER_SEEN then s.get b PE_PORT_STATUS_PEER_AFS else 0
    let s := s.put b PE_PORT_STATUS_AFS_OPER (max (s.get b PE_PORT_CTRL_ADD_FRAG_SIZE) peer)
    let s := (s.put (A.lnp l) LN_PORT_TIMING_TAIL_NS (s.fragTail l)).put b PE_PORT_STATUS_HOLD_ADVANCE_NS (s.fragTail l)
    s.setActive l (s.peWanted l)

/-! ## Verification (R167) -/

/-- An SMD-V or SMD-R frame: a minimum frame of zeros. -/
def mergeFrame : Bytes := withFcs (List.replicate 60 0)

/-- VERIFY_SEND: the next verify frame after the interval, or FAILED after the third. -/
def State.verifySend (s : State) (l : Nat) : State :=
  let b := A.pep l
  let m := s.merge l
  if s.get b PE_PORT_STATUS_VERIFY_STATUS ≠ 2 ∨ !s.peReady l ∨ s.isPairLink l then s
  else if m.verifies ≠ 0 ∧ s.since m.verifyAt < s.get b PE_PORT_CTRL_VERIFY_TIME_MS * 1000000 then s
  else if 3 ≤ m.verifies then
    let s := (s.put b PE_PORT_STATUS_VERIFY_STATUS 4).raise b PE_EVENT_FLAGS 1
    s.reportOther (srcSlice (sliceOf l) 6) objPort l 0
  else
    let s := s.setMerge l { m with verifies := m.verifies + 1, verifyAt := s.time.clk }
    (s.inc b PE_CNT_VERIFY_SENT 1).sendOwn l mergeFrame .verify

/-- VERIFY_SEND. -/
def execVerifySend (l : Nat) (s : State) : Host.Outcome State Fault Refusal := .next (s.atPort l (·.verifySend l))

/-- A received verify frame (`response` false) or response. -/
def State.verifyReceive (s : State) (l : Nat) (response : Bool) : State :=
  let b := A.pep l
  if response then
    if s.get b PE_PORT_STATUS_VERIFY_STATUS = 2 ∧ (s.merge l).verifies ≠ 0 then
      (s.put b PE_PORT_STATUS_VERIFY_STATUS 3).refreshPe l
    else s
  else if s.on b PE_PORT_CTRL_EN then (s.inc b PE_CNT_VERIFY_RESPONDED 1).sendOwn l mergeFrame .respond
  else s

/-- VERIFY_FRAME_RECEIVE. -/
def execVerifyFrameReceive (l : Nat) (response : Bool) (s : State) : Host.Outcome State Fault Refusal :=
  .next (s.atPort l (·.verifyReceive l response))

/-- RESTART_VERIFY. -/
def State.restartVerify (s : State) (l : Nat) : State := (s.startVerify l).refreshPe l

/-- RESTART_VERIFY. -/
def execRestartVerify (l : Nat) (s : State) : Host.Outcome State Fault Refusal := .next (s.atPort l (·.restartVerify l))

/-! ## LLDP (R168) -/

/-- The capability field the module sends: supported, enabled, active, addFragSize. -/
def State.lldpCaps (s : State) (l : Nat) : Nat :=
  1 + 2 * s.get (A.pep l) PE_PORT_CTRL_EN + 4 * bit (s.peActive l) + 8 * s.get (A.pep l) PE_PORT_CTRL_ADD_FRAG_SIZE

/-- LLDP_SEND: an LLDPDU every TX_S seconds, and when the module's own pre-emption state has changed. -/
def State.lldpSend (s : State) (l : Nat) : State :=
  let m := s.merge l
  let tx := s.get (A.pep l) PE_LLDP_TX_S
  let due := m.lldpDue || match m.lldpAt with
    | none => true
    | some t => decide (tx * 1000000000 ≤ s.since t)
  if s.on (A.pep l) PE_PORT_CTRL_LLDP_EN && s.linkUp l && !s.isPairLink l && due then
    let s := s.setMerge l { m with lldpDue := false, lldpAt := some s.time.clk }
    s.sendOwn l (lldpFrame (((s.port? l).map (·.mac)).getD 0) l (min 65535 (4 * tx + 1)) (s.lldpCaps l)) .none
  else s

/-- LLDP_SEND. -/
def execLldpSend (l : Nat) (s : State) : Host.Outcome State Fault Refusal := .next (s.atPort l (·.lldpSend l))

/-- The TTL and the Additional Ethernet Capabilities of an LLDPDU from offset `o` on. -/
def lldpScan (b : Bytes) : Nat → Nat → Option Nat × Option Nat → Option Nat × Option Nat
  | 0, _, r => r
  | n + 1, o, r =>
    let h := rd b o 2
    let len := h % 512
    if h / 512 = 0 ∨ b.length < o + 2 + len then r
    else
      let r := if h / 512 = 3 then (some (rd b (o + 2) 2), r.2) else r
      let r := if h / 512 = 127 ∧ rd b (o + 2) 4 = 0x00120F07 then (r.1, some (rd b (o + 6) 2)) else r
      lldpScan b n (o + 2 + len) r

/-- Forget the peer's TLV. -/
def State.peerGone (s : State) (l : Nat) : State :=
  let b := A.pep l
  let s := (s.put b PE_PORT_STATUS_PEER_SEEN 0).put b PE_PORT_STATUS_PEER_SUPPORTED 0
  ((s.put b PE_PORT_STATUS_PEER_ENABLED 0).put b PE_PORT_STATUS_PEER_AFS 0).refreshPe l

/-- A received LLDPDU, as a frame with FCS. -/
def State.lldpReceive (s : State) (l : Nat) (f : Bytes) : State :=
  let b := A.pep l
  if !s.on b PE_PORT_CTRL_LLDP_EN then s
  else match lldpScan (f.take (f.length - 4)) f.length 14 (none, none) with
    | (some ttl, some caps) =>
      if ttl = 0 then s.peerGone l
      else
        let s := (s.put b PE_PORT_STATUS_PEER_SEEN 1).put b PE_PORT_STATUS_PEER_SUPPORTED (caps % 2)
        let s := (s.put b PE_PORT_STATUS_PEER_ENABLED (caps / 2 % 2)).put b PE_PORT_STATUS_PEER_AFS (caps / 8 % 4)
        (s.setMerge l { s.merge l with peerUntil := s.time.clk + ttl * 1000000000 }).refreshPe l
    | _ => s

/-- LLDP_RECEIVE. -/
def execLldpReceive (l : Nat) (f : List Byte) (s : State) : Host.Outcome State Fault Refusal :=
  .next (s.atPort l (·.lldpReceive l f))

/-- LLDP_TTL_EXPIRY: the peer's TLV has passed its TTL. -/
def State.lldpExpire (s : State) (l : Nat) : State :=
  if s.on (A.pep l) PE_PORT_STATUS_PEER_SEEN && decide ((s.merge l).peerUntil ≤ s.time.clk) then s.peerGone l else s

/-- LLDP_TTL_EXPIRY. -/
def execLldpTtlExpiry (l : Nat) (s : State) : Host.Outcome State Fault Refusal := .next (s.atPort l (·.lldpExpire l))

end Sys2Proof.Machine
end

