-- ==== Sys2Proof/Machine/Select.lean ====
section
/-!
DEFINITION. Transmission selection, pre-emption, algorithm changes and queue samples
(spec/06_preemption_shaping.md R160–R164, R173–R183; spec/05_launch_gates.md R131, R132, R153–R155).
-/

namespace Sys2Proof.Machine

/-! ## Heads of queues (R155, R131) -/

/-- Drop the oversize frames at the head of class `k` (R155). -/
def State.dropQueueHeads (s : State) (l k : Nat) : State :=
  let q := s.queue l k
  let bad := q.takeWhile (fun f => s.oversize l k f.bytes.length)
  if bad.isEmpty then s else bad.foldl (fun s f => s.dropOversize l k f) (s.setQueue l k (q.drop bad.length))

/-- Drop the oversize frames at the head of fair flow `i` of class `k`, which holds `q`; each next one enters with the
flow treated as busy (R178, R183). -/
def State.dropFlowHeads (s : State) (l i k : Nat) : List EgFrame → State
  | [] => s
  | f :: q =>
    if s.oversize l k f.bytes.length then
      let s := (s.setFlow l i q).dropOversize l k f
      let s := match q with
        | g :: _ => s.headChanged l i g.bytes.length false
        | [] => s
      s.dropFlowHeads l i k q
    else s

/-- Test every head frame of the port against the oper list in force. -/
def State.dropHeads (s : State) (l : Nat) : State :=
  let s := (List.range 8).foldl (fun s k => s.dropQueueHeads l k) s
  (List.range 64).foldl (fun s i => s.dropFlowHeads l i (s.get (A.shf l i) SH_FLOW_CTRL_CLASS) (s.flow l i)) s

/-- The head frame of class `k` is newly deferred by a shadow or its guard band. -/
def State.newlyDeferred (s : State) (l k : Nat) (q : List EgFrame) : Bool :=
  match q with
  | f :: _ => !f.deferred && !(s.peActive l && s.preemptable l k) &&
      (match s.startRule l k f.bytes.length with | .shadow _ => true | _ => false)
  | [] => false

/-- Mark the first frame of a queue as deferred. -/
def markDeferred : List EgFrame → List EgFrame
  | f :: q => { f with deferred := true } :: q
  | [] => []

/-- Count one deferred frame of class `k` (R131). -/
def State.countDefer (s : State) (l k : Nat) : State :=
  (s.bump (A.lnp l) LN_SHADOW_DEFER_COUNT).event l 8 (some k) 1

/-- Count the head frames that a shadow or guard band defers, each once. -/
def State.noteDeferred (s : State) (l : Nat) : State :=
  let s := (List.range 8).foldl (fun s k =>
    if s.newlyDeferred l k (s.queue l k) then (s.setQueue l k (markDeferred (s.queue l k))).countDefer l k else s) s
  (List.range 64).foldl (fun s i =>
    let k := s.get (A.shf l i) SH_FLOW_CTRL_CLASS
    if s.newlyDeferred l k (s.flow l i) then (s.setFlow l i (markDeferred (s.flow l i))).countDefer l k else s) s

/-! ## Selection (R161, R162, R178) -/

/-- A frame chosen for the wire: its level, its class, its fair flow if it has one. -/
structure Pick where
  level : Nat
  cls : Nat
  flow : Option Nat
  frame : EgFrame
  deriving DecidableEq, Repr

/-- The head frame `f` of class `k` may start now (R161). -/
def State.eligible (s : State) (l k : Nat) (f : EgFrame) : Bool :=
  s.startRule l k f.bytes.length == .start

/-- The flow with the smaller start tag by signed difference; ties go to the lower number (R178). -/
def State.earlierFlow (s : State) (l : Nat) (a b : Pick) : Pick :=
  let tag := fun (p : Pick) => s.get (A.shf l (p.flow.getD 0)) SH_FLOW_START_S
  if sext 64 (tag b + 2 ^ 64 - tag a) < 0 then b else a

/-- The frame that the FAIR classes among `ks` supply, at the level of the highest of them with a frame allowed to
start. -/
def State.fairPick (s : State) (l : Nat) (ks : List Nat) : Option Pick :=
  let cands := (List.range 64).filterMap (fun i =>
    let k := s.get (A.shf l i) SH_FLOW_CTRL_CLASS
    match s.flow l i with
    | f :: _ => if ks.contains k && s.algo l k == 2 && s.eligible l k f then some (⟨k, k, some i, f⟩ : Pick) else none
    | [] => none)
  match cands with
  | [] => none
  | p :: ps =>
    let level := cands.foldl (fun m q => max m q.cls) 0
    some { ps.foldl (s.earlierFlow l) p with level := level }

/-- The frame that the STRICT or CBS class `k` supplies. -/
def State.classPick (s : State) (l k : Nat) : Option Pick :=
  match s.queue l k with
  | f :: _ =>
    if s.eligible l k f && (s.algo l k != 1 || decide (0 ≤ s.creditNow l k)) then some ⟨k, k, none, f⟩ else none
  | [] => none

/-- The frame that the highest eligible level among the classes `ks` supplies. -/
def State.pick (s : State) (l : Nat) (ks : List Nat) : Option Pick :=
  let own := ks.filterMap (s.classPick l)
  (own ++ (s.fairPick l ks).toList).foldl (fun m p => match m with
    | none => some p
    | some q => if q.level < p.level then some p else some q) none

/-- The classes of the express MAC (`express`), or of the preemptable one. -/
def State.macClasses (s : State) (l : Nat) (express : Bool) : List Nat :=
  (List.range 8).filter (fun k => express == !(s.peActive l && s.preemptable l k))

/-- Remove the chosen frame from its queue; serving the FAIR level sets V and the next head's tags. -/
def State.takePick (s : State) (l : Nat) (p : Pick) : State :=
  match p.flow with
  | none => s.setQueue l p.cls ((s.queue l p.cls).drop 1)
  | some i =>
    let rest := (s.flow l i).drop 1
    let s := (s.setFlow l i rest).put (A.shp l) SH_VTIME_V (s.get (A.shf l i) SH_FLOW_START_S)
    let s := s.setMerge l { s.merge l with served := i :: (s.merge l).served.filter (· != i) }
    match rest with
    | f :: _ => s.headChanged l i f.bytes.length false
    | [] => s

/-- The chosen frame starts on the wire now. -/
def State.startFrame (s : State) (l : Nat) (p : Pick) (b : Bytes) : State :=
  let w := s.wire l
  let stop := s.nowQ + nsQ (s.txNs l b.length)
  let s := s.windowTx l b.length (some p.cls) false
  let s := if p.frame.own = .verify then s.setMerge l { s.merge l with verifyAt := s.time.clk } else s
  s.setWire l { w with
    freeAt := stop, shadowEnd := 0,
    tx := some { frame := { p.frame with bytes := b }, cls := p.cls,
                 express := !(s.peActive l && s.preemptable l p.cls), start := s.nowQ, stop := stop, first := s.nowQ } }

/-- The chosen frame leaves its queue, meets the port's egress injectors, and starts (R161, R419, R420). -/
def State.serve (s : State) (l : Nat) (p : Pick) : State :=
  let s := (s.noteDepth l p.cls).takePick l p
  match s.inject l 0 p.frame.inj { bytes := p.frame.bytes, stream := p.frame.stream, slot := p.frame.slot, cls := p.cls } with
  | (s, .pass b) => s.startFrame l p b
  | (s, .drop) => s.freeRelay l p.frame.cells
  | (s, .hold k b) =>
    s.holdFrame l k { bytes := b, at_ := s.nowQ, left := none, cls := p.cls, frame := some { p.frame with bytes := b, inj := k + 1 } }

/-- The continuation of the preempted frame starts, where its class may start it (R162, R171). -/
def State.continuation (s : State) (l : Nat) (x : Tx) : State :=
  let n := x.frame.bytes.length - x.sent
  if s.startRule l x.cls n = .start then
    let stop := s.nowQ + nsQ (s.txNs l n)
    let w := s.wire l
    let s := s.put (A.pep l) PE_PORT_STATUS_TX_IN_PROGRESS 0
    s.setWire l { w with freeAt := stop, shadowEnd := 0, preempted := none, tx := some { x with start := s.nowQ, stop := stop } }
  else s

/-- One selection on a free wire. -/
def State.select (s : State) (l : Nat) : State :=
  let w := s.wire l
  if w.tx.isSome || decide (s.nowQ < w.freeAt) || !s.linkUp l then s
  else
    let s := (s.dropHeads l).noteDeferred l
    let s := match s.pick l (s.macClasses l true), w.preempted with
      | some p, _ => s.serve l p
      | none, some x => s.continuation l x
      | none, none => match s.pick l (s.macClasses l false) with
        | some p => s.serve l p
        | none => s
    (s.groupIdle l).recredit l

/-- TRANSMIT_SELECT. -/
def execTransmitSelect (l : Nat) (s : State) : Host.Outcome State Fault Refusal := .next (s.atPort l (·.select l))

/-! ## SHADOW_OPEN (R130, R131, R164) -/

/-- SHADOW_OPEN: frames that the shadow defers are counted, and credits go on under R164. -/
def execShadowOpen (l : Nat) (s : State) : Host.Outcome State Fault Refusal :=
  .next (s.atPort l (fun s => if s.inShadow l s.nowQ then (s.noteDeferred l).recredit l else s))

/-! ## PREEMPT (R132, R154, R162, R173) -/

/-- A shadow asks for pre-emption now: r of an open or coming shadow has come (R132). -/
def State.shadowPreempts (s : State) (l : Nat) : Bool :=
  (s.shadows l).any (fun x => decide (s.nowQ < x.2.1 ∧ s.preemptAt l x ≤ s.nowQ))

/-- The close of the class's opening asks for pre-emption now (R154). -/
def State.gatePreempts (s : State) (l k : Nat) : Bool :=
  match s.openEnd l k s.nowQ with
  | none => false
  | some e => decide (e ≤ s.nowQ + s.holdMargin l + nsQ (s.tailNs l))

/-- Bytes of the fragment in progress that must leave before it may end: those sent, and the shortest legal fragment. -/
def State.fragBytes (s : State) (l : Nat) (x : Tx) : Nat :=
  max ((s.nowQ - x.start) * s.portRate l / (8 * 65536) - 8) (60 + 64 * s.afs l)

/-- PREEMPT: the fragment in progress ends at its next legal boundary, where a shadow, a gate close, the MAC hold or an
express frame asks for it. A frame with fewer than 64 bytes left completes. -/
def State.preempt (s : State) (l : Nat) : State :=
  let w := s.wire l
  match w.tx with
  | none => s
  | some x =>
    let shadow := s.shadowPreempts l
    let ask := shadow || s.gatePreempts l x.cls || s.macHold l || (s.pick l (s.macClasses l true)).isSome
    let d := s.fragBytes l x
    if x.express || !s.peActive l || !s.peWanted l || !ask || decide (x.frame.bytes.length < x.sent + d + 64) then s
    else
      let stop := x.start + nsQ (wireNs (d + 24) (s.portRate l))
      let s := s.emit (.fragment l x.start (slice x.frame.bytes x.sent d))
      let s := s.setWire l { w with
        freeAt := max stop s.nowQ, tx := none, preempted := some { x with sent := x.sent + d, frags := x.frags + 1 } }
      let s := (s.put (A.pep l) PE_PORT_STATUS_TX_IN_PROGRESS 1).bump (A.pep l) PE_CNT_FRAG_TX_COUNT
      let s := s.event l 12 (some x.cls) 1
      let s := if shadow then (s.bump (A.lnp l) LN_SHADOW_PREEMPT_COUNT).event l 9 (some x.cls) 1 else s
      s.recredit l

/-- PREEMPT. -/
def execPreempt (l : Nat) (s : State) : Host.Outcome State Fault Refusal := .next (s.atPort l (·.preempt l))

/-! ## ALGO_APPLY (R160, R176) -/

/-- A written ALGO takes effect on an empty class queue, with credit 0. -/
def State.algoApply (s : State) (l k : Nat) : State :=
  if s.on (A.shc l k) SH_CLASS_CTRL_ALGO_PENDING && (s.classFrames l k).isEmpty then
    let s := s.put (A.shc l k) SH_CLASS_CTRL_ALGO_PENDING 0
    (s.setCredit l k { s.credit l k with value := 0, at_ := s.nowQ, cond := 0, algo := 0 }).recredit l
  else s

/-- ALGO_APPLY. -/
def execAlgoApply (l k : Nat) (s : State) : Host.Outcome State Fault Refusal :=
  .next (s.atPort l (fun s => if k < 8 then s.algoApply l k else s))

/-! ## QUEUE_SAMPLE (R180–R182) -/

/-- Sampling period in µs and class mask as the registers hold them. -/
def State.qsRegs (s : State) (l : Nat) : Nat × Nat :=
  (s.get (A.shp l) SH_PORT_CTRL_QS_PERIOD_US, s.get (A.shp l) SH_PORT_CTRL_QS_CLASSES)

/-- The four words of a queue sample (R181). -/
def State.qsWords (s : State) (l k q : Nat) (reconf : Bool) : List Nat :=
  let c := s.credit l k
  [ l % 64 * 2 ^ 58 + k * 2 ^ 55 + bit reconf * 2 ^ 54 + secOf q,
    nsOf q * 2 ^ 32 + min (s.classFrames l k).length 65535 * 2 ^ 16,
    max c.maxCells (s.classCells l k) % 2 ^ 22 * 2 ^ 32 + s.classCells l k % 2 ^ 22,
    min (max c.maxDelay (s.headDelay l k)) (2 ^ 32 - 1) * 2 ^ 32 + min (s.headDelay l k) (2 ^ 32 - 1) ]

/-- Sample class `k` of port `l` at instant `q`. -/
def State.qsClass (s : State) (l q k : Nat) : State :=
  let n := sliceOf l
  let m := s.merge l
  let ws := s.qsWords l k q (m.qsReconf.testBit k)
  let s := s.setMerge l { m with qsReconf := if m.qsReconf.testBit k then m.qsReconf - 2 ^ k else m.qsReconf }
  let s := s.setCredit l k { s.credit l k with maxCells := s.classCells l k, maxDelay := s.headDelay l k }
  let buf := SMap.get [] s.qsBuf n
  if buf.length < 4096 then
    let s := { s with qsBuf := SMap.set [] n (buf ++ [ws]) s.qsBuf }
    s.put (A.sh n) SH_QS_FILL_ENTRIES (buf.length + 1)
  else s.bump (A.sh n) SH_QS_LOST_COUNT

/-- QUEUE_SAMPLE: one record per selected class at the latest whole multiple of the period. -/
def State.queueSample (s : State) (l : Nat) : State :=
  let m := s.merge l
  if s.on (A.shp l) SH_PORT_CTRL_QS_EN then
    let cfg := m.qsCfg.getD (s.qsRegs l)
    let per := nsQ (max cfg.1 1 * 1000)
    let q := s.nowQ / per * per
    if m.qsCfg.isSome && decide (q ≤ m.qsAt) then s
    else
      let s := ((List.range 8).filter (cfg.2.testBit ·)).foldl (fun s k => s.qsClass l q k) s
      let new := s.qsRegs l
      let m := s.merge l
      s.setMerge l { m with qsCfg := some new, qsAt := q, qsReconf := if new = cfg then m.qsReconf else new.2 }
  else s.setMerge l { m with qsCfg := none }

/-- QUEUE_SAMPLE. -/
def execQueueSample (l : Nat) (s : State) : Host.Outcome State Fault Refusal := .next (s.atPort l (·.queueSample l))

end Sys2Proof.Machine
end

