-- ==== Sys2Proof/Machine/Time.lean ====
section
/-!
DEFINITION. Time inputs, path delays and the servo (spec/02_physical_time.md R32–R46, R53–R56, R459).

An input is named by its code of TB_INPUT_SEL: a data port by its lane, 0x200 and 0x201 control lanes A and B, 0x210 the
pair partner, 0x220 PPS_IN. `A.tbp` reaches the registers of every input that has some.
-/

namespace Sys2Proof.Machine

/-! ## Inputs (R38, R53–R55) -/

/-- Code of the pair partner. -/
def inPartner : Nat := 0x210
/-- Code of PPS_IN. -/
def inPps : Nat := 0x220
/-- No input. -/
def inNone : Nat := 0xFFFF

/-- State of an input beyond its registers. -/
def State.input (s : State) (i : Nat) : InputState := SMap.get {} s.sync.inputs i

/-- Store the state of an input. -/
def State.setInput (s : State) (i : Nat) (x : InputState) : State :=
  { s with sync := { s.sync with inputs := SMap.set {} i x s.sync.inputs } }

/-- Input `i` has a register set of its own: a configured port, or a control lane. -/
def State.isInput (s : State) (i : Nat) : Bool := s.isPort i || i == 0x200 || i == 0x201

/-- Insert an integer into a sorted list. -/
def insertInt (x : Int) : List Int → List Int
  | [] => [x]
  | y :: t => if x ≤ y then x :: y :: t else y :: insertInt x t

/-- The lower middle value of a list; 0 of none (R53). -/
def median (xs : List Int) : Int := ((xs.foldl (fun m x => insertInt x m) []).getD ((xs.length - 1) / 2) 0)

/-- Nanoseconds of 2^`k` seconds. -/
def logNs (k : Int) : Nat := if 0 ≤ k then 1000000000 * 2 ^ k.toNat else 1000000000 / 2 ^ (-k).toNat

/-- The pair link whose path delay the partner input takes: P-A while it is USABLE, else P-B (R261). -/
def State.partnerLink (s : State) : Option Nat :=
  match s.image.pa with
  | some a => if s.get (A.tbp a) TB_PORT_STATUS_INPUT_STATE = 1 then some a else s.image.pb
  | none => s.image.pb

/-- Nanoseconds between the samples of an input. -/
def State.inputNs (s : State) (i : Nat) : Nat :=
  if i = inPps then 1000000000
  else if i = inPartner ∨ some i = s.image.pa ∨ some i = s.image.pb then 10000
  else logNs (s.input i).logSync

/-- 2 / T of R41 for an input whose sync interval is T seconds. -/
def State.inputRate (s : State) (i : Nat) : Nat := 2000000000 / s.inputNs i

/-- An input is USABLE; in Halt none is used (R381). -/
def State.inputUsable (s : State) (i : Nat) : Bool :=
  s.mode != 11 && !(s.input i).stale &&
    (if i = inPps then s.on A.tb TB_PPS_CTRL_IN_EN && s.on A.tb TB_STATUS_PPS_IN_VALID
     else if i = inPartner then match s.partnerLink with
       | some l => s.get (A.tbp l) TB_PORT_STATUS_INPUT_STATE == 1
       | none => false
     else s.isInput i && s.get (A.tbp i) TB_PORT_STATUS_INPUT_STATE == 1)

/-- The inputs that the role and TB_INPUT_SEL name, in rank order (R38). -/
def State.rankedInputs (s : State) : List Nat :=
  match s.sync.role with
  | 0 => []
  | 1 => [inPps]
  | _ => [s.get A.tb TB_INPUT_SEL_PRIMARY, s.get A.tb TB_INPUT_SEL_SECONDARY, s.get A.tb TB_INPUT_SEL_TERTIARY].filter
      (· != inNone)

/-- Select the first usable input, and show it. -/
def State.selectInput (s : State) : State :=
  s.put A.tb TB_STATUS_ACTIVE_INPUT ((s.rankedInputs.find? s.inputUsable).getD inNone)

/-- The input in use. -/
def State.activeInput (s : State) : Nat := s.get A.tb TB_STATUS_ACTIVE_INPUT

/-- Show the path delay of an input and settle whether it is IDLE or USABLE (R37, R53). -/
def State.showInput (s : State) (i : Nat) : State :=
  let b := A.tbp i
  let h := (s.input i).history
  let pd := median h
  let gptp := decide (i < 0x200) && !s.isPairLink i && !s.on b TB_PORT_CTRL_PTP1588_EN
  let near := !h.isEmpty && decide (pd ≤ nsQ 10000)
  let s := (s.putI b TB_PORT_PD_PD pd).put b TB_PORT_STATUS_PD_SAMPLES h.length
  let s := s.put b TB_PORT_STATUS_AS_CAPABLE (bit (gptp && near))
  let st := s.get b TB_PORT_STATUS_INPUT_STATE
  let s := if st < 2 then s.put b TB_PORT_STATUS_INPUT_STATE (bit (decide (8 ≤ h.length) && (!gptp || near))) else s
  s.selectInput

/-- PD_STEP_LIMIT of an input in units of 2^-16 ns. -/
def State.pdLimit (s : State) (i : Nat) : Nat := nsQ (s.get (A.tbp i) TB_PORT_CTRL_PD_STEP_LIMIT)

/-- A path-delay measurement of an input enters its tracking (R53, R54). -/
def State.measurePd (s : State) (i : Nat) (d : Int) : State :=
  let b := A.tbp i
  let x := s.input i
  let pd := median x.history
  let s := s.putI b TB_PORT_PD_LAST_PD_LAST d
  if 8 ≤ x.history.length ∧ (s.pdLimit i : Int) < ((d - pd).natAbs : Int) then
    let s := if s.get b TB_PORT_STATUS_INPUT_STATE = 3 then s.setInput i { x with history := [d] }
      else
        let s := s.setInput i { x with history := [d], suspectAt := s.time.clk }
        ((s.put b TB_PORT_STATUS_INPUT_STATE 2).put b TB_PORT_STATUS_EXTENSIONS 0).put b TB_PORT_STATUS_SUSPECT_REMAIN 16
    let s := s.report 0 0x0030 (if i < 0x200 then objPort else objNone) (if i < 0x200 then i else 0)
      (toTwos 32 ((d - pd) / 65536))
    s.showInput i
  else (s.setInput i { x with history := (d :: x.history).take 64 }).showInput i

/-- SUSPECT_END: the end of a SUSPECT interval of 16 sync intervals (R55). -/
def State.suspectEnd (s : State) (i : Nat) : State :=
  let b := A.tbp i
  let x := s.input i
  if s.get b TB_PORT_STATUS_INPUT_STATE ≠ 2 ∨ s.since x.suspectAt < 16 * s.inputNs i then s
  else
    let last := x.history.take 8
    let steady := last.length == 8 && last.all (fun d => decide (((d - median last).natAbs : Int) ≤ s.pdLimit i))
    if steady then
      ((s.put b TB_PORT_STATUS_INPUT_STATE 1).put b TB_PORT_STATUS_EXTENSIONS 0).put b TB_PORT_STATUS_SUSPECT_REMAIN 0
        |>.showInput i
    else if s.get b TB_PORT_STATUS_EXTENSIONS = 4 then
      (s.put b TB_PORT_STATUS_INPUT_STATE 3).put b TB_PORT_STATUS_SUSPECT_REMAIN 0
    else
      let s := s.setInput i { x with suspectAt := s.time.clk }
      (s.inc b TB_PORT_STATUS_EXTENSIONS 1).put b TB_PORT_STATUS_SUSPECT_REMAIN 16

/-- SUSPECT_END. -/
def execSuspectEnd (i : Nat) (s : State) : Host.Outcome State Fault Refusal :=
  .next (if s.isInput i then s.suspectEnd i else s)

/-- FLUSH_PD: the path-delay history is cleared. -/
def State.flushPd (s : State) (i : Nat) : State := (s.setInput i { s.input i with history := [] }).showInput i

/-- FLUSH_PD. -/
def execFlushPd (i : Nat) (s : State) : Host.Outcome State Fault Refusal := .next (if s.isInput i then s.flushPd i else s)

/-- CLEAR_FAULTY: a FAULTY input returns to IDLE. -/
def State.clearFaulty (s : State) (i : Nat) : State :=
  let b := A.tbp i
  if s.get b TB_PORT_STATUS_INPUT_STATE = 3 then
    (s.put b TB_PORT_STATUS_INPUT_STATE 0).put b TB_PORT_STATUS_EXTENSIONS 0
  else s

/-- CLEAR_FAULTY. -/
def execClearFaulty (i : Nat) (s : State) : Host.Outcome State Fault Refusal :=
  .next (if s.isInput i then s.clearFaulty i else s)

/-! ## The servo (R32, R41–R45) -/

/-- Servo state: 0 FREE_RUN, 1 ACQUIRE, 2 LOCKED, 3 HOLDOVER. -/
def State.servoState (s : State) : Nat := s.get A.tb TB_STATUS_STATE

/-- Terms are held in units of 2^-33 ppb; this many make one addend LSB. -/
def lsbUnits : Nat := 2000000000

/-- Form the effective addend from its three terms, and the oscillator compensation while in HOLDOVER (R32, R42, R43). -/
def State.formAddend (s : State) : State :=
  let t := s.sync
  let terms := if s.servoState = 0 then 0 else roundDiv (t.phase + t.integ) lsbUnits
  let comp := if s.servoState = 3 then t.comp else 0
  let s := s.putI A.tb TB_SERVO_INTEG_INTEG (roundDiv t.integ lsbUnits)
  s.putI A.tb TB_ADDEND_EFF_ADDEND_EFF ((s.get A.tb TB_ADDEND_ADDEND : Int) + terms + comp)

/-- `x` held within ±`m`. -/
def clampAbs (m : Nat) (x : Int) : Int := max (-(m : Int)) (min m x)

/-- The PI update for an offset `o` in units of 2^-16 ns at 2 / T = `r` (R41). -/
def State.servoUpdate (s : State) (o : Int) (r : Nat) : State :=
  if s.on A.tb TB_CTRL_SERVO_EN then
    let t := s.sync
    let unit := 2 ^ 33
    let phase := clampAbs (s.get A.tb TB_SLEW_LIMIT_PPB * unit) (-(s.get A.tb TB_SERVO_GAIN_KP : Int) * o * r)
    let integ := clampAbs (150000 * unit) (t.integ - (s.get A.tb TB_SERVO_GAIN_KI : Int) * o * r)
    { s with sync := { t with phase := phase, integ := integ, integHist := (integ :: t.integHist).take 64 } }.formAddend
  else { s with sync := { s.sync with phase := 0, integ := 0 } }.formAddend

/-- Enter HOLDOVER: the integral term freezes at the mean of its last values, the phase term is 0 (R42, R43). -/
def State.enterHoldover (s : State) : State :=
  let t := s.sync
  let mean := if t.integHist.isEmpty then 0 else roundDiv (t.integHist.foldl (· + ·) 0) t.integHist.length
  let s := { s with sync := { t with phase := 0, integ := mean, okRun := 0 } }
  let s := (s.put A.tb TB_STATUS_STATE 3).raise A.tb TB_EVENT_FLAGS 1
  (s.put A.tb TB_HOLDOVER_SINCE_SEC (secOf s.nowQ)).formAddend

/-- A step awaits authorisation or its application. -/
def State.stepPending (s : State) : Bool := s.on A.tb TB_STATUS_STEP_PENDING

/-- Show whether a step is pending and whether it is armed. -/
def State.showStep (s : State) (pending armed : Bool) : State :=
  let s := (s.put A.tb TB_STATUS_STEP_PENDING (bit pending)).put A.tb TB_STEP_STATUS_PENDING (bit pending)
  s.put A.tb TB_STEP_STATUS_ARMED (bit armed)

/-- Withdraw a step: its SEQ is invalid from now on (R50). -/
def State.withdrawStep (s : State) : State :=
  let s := (s.showStep false false).raise A.tb TB_EVENT_FLAGS 4
  { s with sync := { s.sync with autoStep := false } }

/-- An offset above 1 ms raises a step, or brings a pending one up to date (R46). -/
def State.raiseStep (s : State) (o : Int) : State :=
  let s := s.putI A.tb TB_STEP_OFFSET_OFFSET o
  if s.stepPending then s
  else
    let q := (s.sync.stepSeq + 1) % 2 ^ 32
    let s := { s with sync := { s.sync with stepSeq := q } }
    let s := (s.put A.tb TB_STEP_STATUS_SEQ q).showStep true false
    if s.serving then
      let s := if s.servoState = 3 then s else s.enterHoldover
      (s.raise A.tb TB_EVENT_FLAGS 2).report 0 0x0032 objNone 0 q
    else { s with sync := { s.sync with autoStep := true, stepAt := s.nowQ } }

/-- An offset of at most 1 ms: withdraw an unarmed step, move the servo's state, and update its terms (R42, R44, R45,
R50). -/
def State.slew (s : State) (o : Int) (r : Nat) : State :=
  let s := if s.stepPending && !s.on A.tb TB_STEP_STATUS_ARMED then s.withdrawStep else s
  let lock := decide (((o.natAbs : Nat)) < nsQ (s.get A.tb TB_SERVO_GAIN_LOCK_NS))
  let run := if lock then s.sync.okRun + 1 else 0
  let s := { s with sync := { s.sync with okRun := run } }
  let s := match s.servoState with
    | 2 => if lock then s else (s.put A.tb TB_STATUS_STATE 1).raise A.tb TB_EVENT_FLAGS 0
    | 1 => if 16 ≤ run then s.put A.tb TB_STATUS_STATE 2 else s
    | _ => s.put A.tb TB_STATUS_STATE 1
  s.servoUpdate o r

/-- An offset sample of the input in use (R39–R46). -/
def State.offsetSample (s : State) (i : Nat) (o : Int) (seq : Nat) : State :=
  let s := (s.putI A.tb TB_LAST_OFFSET_OFFSET o).put A.tb TB_LAST_SEQ_INPUT i
  let s := s.put A.tb TB_LAST_SEQ_SEQ_ID seq
  let s := { s with sync := { s.sync with lastGood := s.time.clk, secondsKnown := s.sync.secondsKnown || i != inPps } }
  if nsQ 1000000 < o.natAbs then s.raiseStep o else s.slew o (s.inputRate i)

/-! ## SYNC_RECEIVE (R36, R37, R39, R51, R56) -/

/-- The input takes Sync messages: a slave or BMCA port of the physical domain, or a 1588 slave (R37, R38, R459). -/
def State.takesSync (s : State) (i : Nat) : Bool :=
  s.isInput i && (s.on (A.tbp i) TB_PORT_CTRL_PTP1588_EN || decide (i < 0x200 ∧ 2 ≤ s.get (A.tbp i) TB_PORT_CTRL_ROLE_PHYS))

/-- A whole Sync (a one-step Sync, or a Sync with its Follow_Up): origin and correction in units of 2^-16 ns, ingress
stamp `rx` taken at tick `tick`, and the master's logSyncInterval. -/
def State.syncReceive (s : State) (i domain seq origin : Nat) (corr : Int) (rx tick : Nat) (log : Int) : State :=
  let old := match s.sync.stepClk with
    | some c => decide (tick ≤ c)
    | none => false
  if !s.takesSync i || domain != s.get A.tb TB_CTRL_DOMAIN_PHYS || old then s
  else
    let t : Int := (rx : Int) + (if i < 0x200 then s.rxSkew i false else 0)
    let ms := t - origin - corr
    let s := s.setInput i { s.input i with logSync := log, stale := false, msOff := some ms }
    let s := if i < 0x200 ∧ s.rxSkew i false ≠ 0 then s.bump (A.fit i) FI_TSKEW_CNT_COUNT else s
    let s := s.selectInput
    if s.activeInput = i ∧ s.sync.role = 2 then
      let pd := median (s.input i).history + s.getI (A.tbp i) TB_PORT_ASYM_ASYM
      let s := { s with sync := { s.sync with upstream := some (origin, corr + pd, t.toNat) } }
      s.offsetSample i (ms - pd) seq
    else s

/-- SYNC_RECEIVE. -/
def execSyncReceive (i domain seq origin : Nat) (corr : Int) (rx tick : Nat) (log : Int) (s : State) :
    Host.Outcome State Fault Refusal := .next (s.syncReceive i domain seq origin corr rx tick log)

/-- PPS_IN_EDGE: an edge of PPS_IN now, `falling` or rising (R40). -/
def State.ppsEdge (s : State) (falling : Bool) : State :=
  if s.on A.tb TB_PPS_CTRL_IN_EN && falling == s.on A.tb TB_PPS_CTRL_IN_FALLING then
    let q := s.nowQ / 16384 * 16384
    let b := A.tb
    let s := ((s.put b TB_PPS_IN_NS_NS (nsOf q)).put b TB_PPS_IN_NS_FRAC (fracOf q)).put b TB_PPS_IN_NS_VALID 1
    let ph := q % secQ
    let o : Int := if 2 * ph < secQ then ph else (ph : Int) - secQ
    let ok := decide (2 * o.natAbs < secQ) && s.sync.secondsKnown
    let s := s.put b TB_STATUS_PPS_IN_VALID (bit ok)
    let s := (s.setInput inPps { s.input inPps with stale := false }).selectInput
    if ok && s.activeInput == inPps then s.offsetSample inPps o 0 else s
  else s

/-- PPS_IN_EDGE. -/
def execPpsInEdge (falling : Bool) (s : State) : Host.Outcome State Fault Refusal := .next (s.ppsEdge falling)

/-- HOLDOVER_TIMEOUT: the input in use has given no usable offset for HOLDOVER_SYNCS of its intervals (R42). -/
def State.holdoverTimeout (s : State) : State :=
  let i := s.get A.tb TB_LAST_SEQ_INPUT
  let late := s.get A.tb TB_CTRL_HOLDOVER_SYNCS * s.inputNs i
  if s.servoState = 1 ∨ s.servoState = 2 then
    if s.since s.sync.lastGood < late then s
    else
      let s := (s.setInput i { s.input i with stale := true }).selectInput
      if s.activeInput = inNone then s.enterHoldover.report 0 0x0031 objNone 0 i
      else { s with sync := { s.sync with lastGood := s.time.clk } }
  else s

/-- HOLDOVER_TIMEOUT. -/
def execHoldoverTimeout (s : State) : Host.Outcome State Fault Refusal := .next s.holdoverTimeout

/-! ## TB_ADDEND, TB_CTRL.ROLE, TB_STEP_AUTH (R32, R33, R38, R47) -/

/-- A committed TB_ADDEND: in force from the next tick; out of range it is rejected. -/
def State.commitAddend (s : State) (v : Nat) : Nat × State :=
  if 0x00FFDF3B64 ≤ v ∧ v ≤ 0x10020C49C then (stOK, (s.put A.tb TB_ADDEND_ADDEND v).formAddend) else (stBadValue, s)

/-- TB_ADDEND_COMMIT. -/
def execTbAddendCommit (v : Nat) (s : State) : Host.Outcome State Fault Refusal := .next (s.commitAddend v).2

/-- TB_ROLE_WRITE: the register holds the role now, and the servo follows at the next tick. -/
def execTbRoleWrite (role : Nat) (s : State) : Host.Outcome State Fault Refusal :=
  .next (if role ≤ 2 then s.put A.tb TB_CTRL_ROLE role else s)

/-- Put a written role in force (R38). -/
def State.applyRole (s : State) : State :=
  let r := s.get A.tb TB_CTRL_ROLE
  if r = s.sync.role then s
  else
    let t := s.sync
    let t := if r = 0 then { t with phase := 0, integ := 0 } else t
    let s := { s with sync := { t with role := r, okRun := 0 } }
    ((s.put A.tb TB_STATUS_STATE 0).selectInput).formAddend

/-- A committed TB_STEP_AUTH arms the pending step it names, or is rejected (R47). -/
def State.stepAuth (s : State) (seq : Nat) : Nat × State :=
  if s.stepPending && !s.sync.autoStep && s.get A.tb TB_STEP_STATUS_SEQ == seq then
    let s := (s.put A.tb TB_STEP_AUTH_SEQ seq).showStep true true
    (stOK, { s with sync := { s.sync with stepAt := s.nowQ } })
  else (stBadValue, s.raise A.tb TB_EVENT_FLAGS 7)

/-- STEP_AUTH. -/
def execStepAuth (seq : Nat) (s : State) : Host.Outcome State Fault Refusal := .next (s.stepAuth seq).2

/-! ## Slice time copies (R34) -/

/-- SLICE_TIME_COMPARE: slice `n` differs from Armature by `d` units of 2^-16 ns; beyond 1 ns its launches stop. -/
def execSliceTimeCompare (n d : Nat) (s : State) : Host.Outcome State Fault Refusal :=
  .next (s.atSlice n (fun s =>
    if nsQ 1 < d ∧ !s.sync.reloading.contains n then { s with sync := { s.sync with reloading := n :: s.sync.reloading } }
    else s))

/-- SLICE_TIME_RELOAD: the slice's copy is loaded again and its launches resume. -/
def execSliceTimeReload (n : Nat) (s : State) : Host.Outcome State Fault Refusal :=
  .next (if s.sync.reloading.contains n then
    { s with sync := { s.sync with reloading := s.sync.reloading.filter (· != n) } }.reportOther 0 objSlice n 0
  else s)

end Sys2Proof.Machine
end

