-- ==== Sys2Proof/Machine/Ptp.lean ====
section
/-!
DEFINITION. The messages of the physical domain and the path-delay exchanges (spec/02_physical_time.md R37, R53, R459;
spec/09_redundancy.md R262). Message layouts are those of log entry 7.
-/

namespace Sys2Proof.Machine

/-- gPTP and 1588 run on the module's ports: from Ready onward (R24, R381). -/
def State.ptpRuns (s : State) : Bool := decide (5 ≤ s.mode ∧ s.mode ≤ 8) || s.mode == 10

/-- Port `l` runs 802.1AS now. -/
def State.gptpPort (s : State) (l : Nat) : Bool :=
  s.isPort l && !s.isPairLink l && s.ptpRuns && s.linkUp l && !s.on (A.tbp l) TB_PORT_CTRL_PTP1588_EN

/-- Port `l` is a master port of the physical domain (R38). -/
def State.masterPort (s : State) (l : Nat) : Bool :=
  s.gptpPort l &&
    (match s.get (A.tbp l) TB_PORT_CTRL_ROLE_PHYS with
     | 0 => false
     | 1 => true
     | r => s.sync.role != 2 || (r == 2 && s.get A.tb TB_INPUT_SEL_PRIMARY != l))

/-- Nanoseconds have passed since a tick, or nothing has happened yet. -/
def State.dueAfter (s : State) (last : Option Nat) (ns : Nat) : Bool :=
  match last with
  | none => true
  | some t => decide (ns ≤ s.since t)

/-- The interval octet of a 4-bit signed log field. -/
def logOf (w : Nat) : Int := sext 4 w

/-! ## Sync and Announce of the physical domain -/

/-- PHYS_SYNC_SEND: a two-step Sync at the port's interval; a slave sends none before it has followed a Sync. -/
def State.physSync (s : State) (l : Nat) : State :=
  let x := s.input l
  let log := s.get (A.tbp l) TB_PORT_CTRL_LOG_SYNC
  if s.masterPort l && s.dueAfter x.syncAt (logNs (logOf log)) && (s.sync.role != 2 || s.sync.upstream.isSome) then
    let s := s.setInput l { x with syncSeq := (x.syncSeq + 1) % 65536, syncAt := some s.time.clk }
    s.sendOwn l (s.gptpFrame l (syncMsg (s.get A.tb TB_CTRL_DOMAIN_PHYS) s.image.clockId (l + 1) x.syncSeq
      (toTwos 8 (logOf log)))) (.syncPhys x.syncSeq)
  else s

/-- PHYS_SYNC_SEND. -/
def execPhysSyncSend (l : Nat) (s : State) : Host.Outcome State Fault Refusal := .next (s.physSync l)

/-- The Follow_Up of a Sync that left port `l` at `te`: the module's own time as grandmaster, and as a time-aware system
the master's origin with the residence time added (R37). -/
def State.physFollowUp (s : State) (l seq te : Nat) : State :=
  let (origin, corr) : Nat × Int := match s.sync.role, s.sync.upstream with
    | 2, some (o, c, rx) => (o, c + te - rx)
    | _, _ => (te / 65536 * 65536, (fracOf te : Nat))
  s.sendOwn l (s.gptpFrame l (followUpMsg (s.get A.tb TB_CTRL_DOMAIN_PHYS) s.image.clockId (l + 1) seq
    (toTwos 8 (logOf (s.get (A.tbp l) TB_PORT_CTRL_LOG_SYNC))) origin (toTwos 64 corr) 0 0 0 0)) .none

/-- The grandmaster the module follows in ROLE 2, as its active input announced it. -/
def State.upstreamGm (s : State) : Option AnnounceVec :=
  if s.sync.role = 2 then (s.input s.activeInput).announce else none

/-- grandmasterIdentity of the module's physical time. -/
def State.gmIdentity (s : State) : Nat := (s.upstreamGm.map (·.gm)).getD s.image.clockId

/-- PHYS_ANNOUNCE_SEND: at the announce interval of 1 s; as grandmaster its priority2 comes from the effective claim
(R88, R262). Its clock quality and time source are open (log entry 1). -/
def State.physAnnounce (s : State) (l : Nat) : State :=
  let x := s.input l
  if s.masterPort l && s.dueAfter x.announceAt 1000000000 then
    let s := s.setInput l { x with announceSeq := (x.announceSeq + 1) % 65536, announceAt := some s.time.clk }
    let (w, s) := s.fresh
    let v : AnnounceVec := match s.upstreamGm with
      | some v => { v with steps := v.steps + 1 }
      | none => ⟨s.image.priority1, bitsOf w.toNat 31 0, 255 - s.effClaim / 256, s.image.clockId, 0, bitsOf w.toNat 39 32⟩
    s.sendOwn l (s.gptpFrame l (announceMsg (s.get A.tb TB_CTRL_DOMAIN_PHYS) s.image.clockId (l + 1) x.announceSeq 0
      v.prio1 v.quality v.prio2 v.gm v.steps v.source 0)) .none
  else s

/-- PHYS_ANNOUNCE_SEND. -/
def execPhysAnnounceSend (l : Nat) (s : State) : Host.Outcome State Fault Refusal := .next (s.physAnnounce l)

/-- A vector as one number: lower is better. -/
def AnnounceVec.rank (v : AnnounceVec) : Nat :=
  (((v.prio1 * 2 ^ 32 + v.quality) * 2 ^ 8 + v.prio2) * 2 ^ 64 + v.gm) * 2 ^ 16 + v.steps

/-- The BMCA port with the best announced vector. -/
def State.bestPort (s : State) : Option Nat :=
  let c := s.image.ports.filterMap (fun p =>
    if s.get (A.tbp p.lane) TB_PORT_CTRL_ROLE_PHYS = 2 then (s.input p.lane).announce.map (fun v => (v.rank, p.lane)) else none)
  (c.foldl (fun m e => match m with
    | none => some e
    | some b => if e.1 < b.1 then some e else m) none).map (·.2)

/-- ANNOUNCE_RECEIVE: an Announce feeds BMCA in ROLE 2, and is counted and ignored where BMCA does not run (R38). -/
def State.announceReceive (s : State) (i domain : Nat) (v : AnnounceVec) : State :=
  if !s.isInput i || domain != s.get A.tb TB_CTRL_DOMAIN_PHYS then s
  else if s.sync.role != 2 || s.sync.extPortCfg then { s with sync := { s.sync with announces := s.sync.announces + 1 } }
  else
    let s := s.setInput i { s.input i with announce := some v }
    match s.bestPort with
    | some l => (s.put A.tb TB_INPUT_SEL_PRIMARY l).selectInput
    | none => s

/-- ANNOUNCE_RECEIVE. -/
def execAnnounceReceive (i domain prio1 quality prio2 gm steps source : Nat) (s : State) :
    Host.Outcome State Fault Refusal := .next (s.announceReceive i domain ⟨prio1, quality, prio2, gm, steps, source⟩)

/-! ## Peer delay (R37, R53) -/

/-- PDELAY_REQ_SEND: the next Pdelay_Req of an 802.1AS port at its interval. -/
def State.pdelayReq (s : State) (l : Nat) : State :=
  let x := s.input l
  let log := s.get (A.tbp l) TB_PORT_CTRL_LOG_PDELAY
  if s.gptpPort l && s.dueAfter x.delayAt (logNs (logOf log)) then
    let q := (x.reqSeq + 1) % 65536
    let s := s.setInput l { x with reqSeq := q, reqAt := none, delayAt := some s.time.clk }
    s.sendOwn l (s.gptpFrame l (pdelayReqMsg s.image.clockId (l + 1) q (toTwos 8 (logOf log)))) (.request l)
  else s

/-- PDELAY_REQ_SEND. -/
def execPdelayReqSend (l : Nat) (s : State) : Host.Outcome State Fault Refusal := .next (s.pdelayReq l)

/-- PDELAY_MEASUREMENT: the exchange of request `seq` completes with the responder's stamps `t2` and `t3`, the ingress
stamp `t4` and neighborRateRatio − 1 in units of 2^-32 where it is valid. -/
def State.pdelayMeasure (s : State) (l seq t2 t3 t4 : Nat) (nrr : Option Int) : State :=
  let x := s.input l
  match x.reqAt with
  | none => s
  | some t1 =>
    if x.reqSeq ≠ seq ∨ !s.gptpPort l then s
    else
      let k := s.rxSkew l true
      let turn : Int := (t4 : Int) + k - t1
      let d := (turn + turn * (nrr.getD 0) / 2 ^ 32 - ((t3 : Int) - t2)) / 2
      let s := s.setInput l { x with reqAt := none }
      let s := (s.putI (A.tbp l) TB_PORT_NRR_NRR_DEV (nrr.getD 0)).put (A.tbp l) TB_PORT_STATUS_NRR_VALID (bit nrr.isSome)
      let s := if k = 0 then s else s.bump (A.fit l) FI_TSKEW_CNT_COUNT
      s.measurePd l d

/-- PDELAY_MEASUREMENT. -/
def execPdelayMeasurement (l seq t2 t3 t4 : Nat) (nrr : Option Int) (s : State) : Host.Outcome State Fault Refusal :=
  .next (s.pdelayMeasure l seq t2 t3 t4 nrr)

/-- A Pdelay_Req received on port `l` with sequence `seq` from port identity `req`, stamped `rx`: the module answers
with a two-step Pdelay_Resp. -/
def State.pdelayRespond (s : State) (l seq req rx : Nat) : State :=
  if s.gptpPort l then
    let t2 := ((rx : Int) + s.rxSkew l true).toNat
    s.sendOwn l (s.gptpFrame l (pdelayRespMsg 3 s.image.clockId (l + 1) seq t2 req)) (.response seq req)
  else s

/-- The Pdelay_Resp_Follow_Up of a response that left at `te`. -/
def State.pdelayFollowUp (s : State) (l seq req te : Nat) : State :=
  s.sendOwn l (s.gptpFrame l (pdelayRespMsg 10 s.image.clockId (l + 1) seq te req)) .none

/-! ## Delay request-response (R459) -/

/-- A Delay_Req as a frame on a data port; over UDP the source address is open (log entry 1). -/
def State.delayReqFrame (s : State) (i seq : Nat) : Bytes × State :=
  let msg := delayReqMsg (s.get A.tb TB_CTRL_DOMAIN_PHYS) s.image.clockId (i + 1) seq
  let mac := ((s.port? i).map (·.mac)).getD 0
  match s.get (A.tbp i) TB_PORT_CTRL_TRANSPORT_1588 with
  | 0 => (ethFrame 0x011B19000000 mac none 0x88F7 msg, s)
  | 1 =>
    let (w, s) := s.fresh
    let p := udpPayload false (w.toNat % 2 ^ 32) 0xE0000181 319 319 msg
    (ethFrame 0x01005E000181 mac none p.1 p.2, s)
  | _ =>
    let (w, s) := s.fresh
    let p := udpPayload true w.toNat (0xFF0E * 2 ^ 112 + 0x181) 319 319 msg
    (ethFrame 0x333300000181 mac none p.1 p.2, s)

/-- DELAY_REQ_SEND: a 1588 slave input sends its next Delay_Req at the master's interval. -/
def State.delayReq (s : State) (i : Nat) : State :=
  let x := s.input i
  if s.isInput i && s.on (A.tbp i) TB_PORT_CTRL_PTP1588_EN && s.dueAfter x.delayAt (logNs x.logDelay) then
    let q := (x.reqSeq + 1) % 65536
    let x := { x with reqSeq := q, delayAt := some s.time.clk }
    if i < 0x200 then
      if s.linkUp i && s.ptpRuns then
        let (b, s) := (s.setInput i { x with reqAt := none }).delayReqFrame i q
        s.sendOwn i b (.request i)
      else s
    else
      (s.setInput i { x with reqAt := some s.nowQ }).emit
        (.lanePtp (i - 0x200) (delayReqMsg (s.get A.tb TB_CTRL_DOMAIN_PHYS) s.image.clockId (i + 1) q))
  else s

/-- DELAY_REQ_SEND. -/
def execDelayReqSend (i : Nat) (s : State) : Host.Outcome State Fault Refusal := .next (s.delayReq i)

/-- DELAY_RESP_RECEIVE: the master received request `seq` at `t4`; `corr` is the message's correction and `log` its
logMessageInterval. -/
def State.delayResp (s : State) (i seq t4 : Nat) (corr log : Int) : State :=
  let x := s.input i
  if !s.isInput i || !s.on (A.tbp i) TB_PORT_CTRL_PTP1588_EN || x.reqSeq != seq then s
  else match x.reqAt, x.msOff with
    | some t3, some ms =>
      let s := s.setInput i { x with reqAt := none, logDelay := max (-7) (min 5 log) }
      s.measurePd i ((ms + ((t4 : Int) - corr - t3)) / 2)
    | _, _ => s

/-- DELAY_RESP_RECEIVE. -/
def execDelayRespReceive (i seq t4 : Nat) (corr log : Int) (s : State) : Host.Outcome State Fault Refusal :=
  .next (s.delayResp i seq t4 corr log)

/-! ## What follows an own frame's transmission -/

/-- An event message left port `l` with egress stamp `te`: what the module does next (R37, R87). -/
def State.ownSent (s : State) (l : Nat) (own : OwnKind) (te : Nat) : State :=
  match own with
  | .syncPhys q => s.physFollowUp l q te
  | .syncScene c q => s.sceneFollowUp c l q te
  | .request i => s.setInput i { s.input i with reqAt := some te }
  | .response q req => s.pdelayFollowUp l q req te
  | .heartbeat k q =>
    let f := fun (x : PairLink) => { x with prevTx := te, sent := ((q, te) :: x.sent).take 64 }
    { s with pair := if k = 0 then { s.pair with linkA := f s.pair.linkA } else { s.pair with linkB := f s.pair.linkB } }
  | _ => s

/-- Extra transmit delay of an own event message (R422). -/
def State.ownSkew (s : State) (l : Nat) (own : OwnKind) : Nat :=
  match own with
  | .syncPhys _ => s.txSkew l false
  | .syncScene _ _ => s.txSkew l false
  | .request i => s.txSkew l (!s.on (A.tbp i) TB_PORT_CTRL_PTP1588_EN)
  | .response _ _ => s.txSkew l true
  | _ => 0

end Sys2Proof.Machine
end

