-- ==== Sys2Proof/Machine/Pins.lean ====
section
/-!
DEFINITION. The time pins TIO0–TIO15, PPS_OUT, and the reads that latch the time (spec/02_physical_time.md R31, R52,
R58–R63).
-/

namespace Sys2Proof.Machine

/-- State of a pin beyond its registers. -/
def State.pin (s : State) (p : Nat) : PinState := SMap.get {} s.sync.pins p

/-- Store the state of a pin. -/
def State.setPin (s : State) (p : Nat) (x : PinState) : State :=
  { s with sync := { s.sync with pins := SMap.set {} p x s.sync.pins } }

/-- An operation on pin `p` of the sixteen. -/
def State.atPin (s : State) (p : Nat) (f : State → State) : State := if p < 16 then f s else s

/-- Outputs may pulse: neither Reset nor Halt (R63). -/
def State.pinsDrive (s : State) : Bool := s.mode != 0 && s.mode != 11

/-- Show whether the output of a pin is armed. -/
def State.showArmed (s : State) (p : Nat) (on : Bool) : State :=
  (s.put (A.tp p) TP_CTRL_ARM (bit on)).put (A.tp p) TP_STATUS_ARMED (bit on)

/-- The smallest `start + k × period` that is at least `t`. -/
def nextPeriodic (start period t : Nat) : Nat :=
  start + ceilDiv (t - start) (max 1 (nsQ period)) * nsQ period

/-- TP_CTRL.ARM: the checks of R59 and R60; the status it returns. -/
def State.tpArm (s : State) (p : Nat) : Nat × State :=
  let b := A.tp p
  let start := ofStamp (s.get b TP_START_SEC_SEC) (s.get b TP_START_NS_NS) (s.get b TP_START_NS_FRAC / 4096 * 4096)
  let soon := s.nowQ + nsQ 1000
  let width := s.get b TP_WIDTH_WIDTH
  let per := s.get b TP_PERIOD_PERIOD
  let arm := fun (t : Nat) => ((s.setPin p { s.pin p with target := some t }).showArmed p true).put b TP_STATUS_PULSES 0
  match s.get b TP_CTRL_MODE with
  | 1 =>
    if width < 8 ∨ per < 100 then (stBadValue, s)
    else if start < soon then (stOK, s.put b TP_STATUS_MISSED 1)
    else (stOK, arm start)
  | 2 =>
    if width < 8 ∨ per ≤ width ∨ per < 100 then (stBadValue, s)
    else (stOK, arm (nextPeriodic start per soon))
  | _ => (stOK, s)

/-- TP_ARM. -/
def execTpArm (p : Nat) (s : State) : Host.Outcome State Fault Refusal := .next (s.atPin p (fun s => (s.tpArm p).2))

/-- TP_CTRL.DISARM: a pending output is cancelled. -/
def State.tpDisarm (s : State) (p : Nat) : State := (s.setPin p { s.pin p with target := none }).showArmed p false

/-- TP_DISARM. -/
def execTpDisarm (p : Nat) (s : State) : Host.Outcome State Fault Refusal := .next (s.atPin p (·.tpDisarm p))

/-- One pulse of a pin at `t` (R58). -/
def State.pulse (s : State) (p t : Nat) : State :=
  let b := A.tp p
  (s.emit (.pulse p (!s.on b TP_CTRL_POLARITY) t (s.get b TP_WIDTH_WIDTH))).inc b TP_STATUS_PULSES 1

/-- TP_OUTPUT_COMPARE: the time base is at or beyond the pin's target. -/
def State.tpCompare (s : State) (p : Nat) : State :=
  let x := s.pin p
  match x.target with
  | none => s
  | some t =>
    if s.nowQ < t ∨ !s.pinsDrive then s
    else
      let s := s.pulse p t
      if s.get (A.tp p) TP_CTRL_MODE = 2 then s.setPin p { x with target := some (t + nsQ (s.get (A.tp p) TP_PERIOD_PERIOD)) }
      else s.tpDisarm p

/-- TP_OUTPUT_COMPARE. -/
def execTpOutputCompare (p : Nat) (s : State) : Host.Outcome State Fault Refusal := .next (s.atPin p (·.tpCompare p))

/-- A step has moved the time base by `d`: pending targets that it passed are skipped (R61). -/
def State.skipTarget (s : State) (p : Nat) (d : Int) : State :=
  let x := s.pin p
  match x.target with
  | none => s
  | some t =>
    if d ≤ 0 ∨ s.nowQ < t then s
    else
      let s := s.put (A.tp p) TP_STATUS_SKIPPED_BY_STEP 1
      if s.get (A.tp p) TP_CTRL_MODE = 2 then
        s.setPin p { x with target := some (nextPeriodic t (s.get (A.tp p) TP_PERIOD_PERIOD) (s.nowQ + nsQ 1000)) }
      else s.tpDisarm p

/-- The edge is one that CAP_EDGE selects. -/
def capSelects (sel : Nat) (rising : Bool) : Bool := sel == 3 || (sel == 1 && rising) || (sel == 2 && !rising)

/-- TP_CAPTURE_EDGE: an edge now on a capture pin (R62). -/
def State.tpCapture (s : State) (p : Nat) (rising : Bool) : State :=
  let b := A.tp p
  let x := s.pin p
  if s.get b TP_CTRL_MODE = 3 ∧ capSelects (s.get b TP_CTRL_CAP_EDGE) rising then
    if 16 ≤ x.caps.length then s.put b TP_STATUS_CAP_OVERFLOW 1
    else
      let s := s.setPin p { x with caps := x.caps ++ [s.nowQ / 16384 * 16384] }
      s.put b TP_STATUS_CAP_COUNT (x.caps.length + 1)
  else s

/-- TP_CAPTURE_EDGE. -/
def execTpCaptureEdge (p : Nat) (rising : Bool) (s : State) : Host.Outcome State Fault Refusal :=
  .next (s.atPin p (·.tpCapture p rising))

/-- TP_CAP_SEC_READ: the oldest stamp moves to the read registers; with none queued their stamp is open (log entry 1). -/
def State.tpCapRead (s : State) (p : Nat) : State :=
  let b := A.tp p
  let x := s.pin p
  let show_ := fun (s : State) (q : Nat) => s.putStamp b TP_CAP_SEC_SEC TP_CAP_NS_NS TP_CAP_NS_FRAC q
  match x.caps with
  | q :: r => ((show_ (s.setPin p { x with caps := r }) q).put b TP_STATUS_CAP_COUNT r.length).put b TP_CAP_NS_VALID 1
  | [] =>
    let (w, s) := s.fresh
    let (v, s) := s.fresh
    let s := ((s.put b TP_CAP_SEC_SEC w.toNat).put b TP_CAP_NS_NS v.toNat).put b TP_CAP_NS_FRAC (v.toNat / 2 ^ 32)
    s.put b TP_CAP_NS_VALID 0

/-- TP_CAP_SEC_READ. -/
def execTpCapSecRead (p : Nat) (s : State) : Host.Outcome State Fault Refusal := .next (s.atPin p (·.tpCapRead p))

/-- PPS_OUT_PULSE: one pulse at each whole second, none less than 500 ms after the previous one (R52, R63). -/
def State.ppsOut (s : State) : State :=
  let sec := secOf s.nowQ
  let t := s.sync
  let fresh := match t.ppsSec with
    | some k => k != sec
    | none => nsOf s.nowQ == 0
  let gap := match t.ppsAt with
    | some c => decide (500000000 ≤ s.since c)
    | none => true
  if !s.on A.tb TB_PPS_CTRL_OUT_EN || !s.pinsDrive then s
  else if fresh && gap then
    ({ s with sync := { t with ppsSec := some sec, ppsAt := some s.time.clk } }).emit
      (.pulse 16 true (sec * secQ) (s.get A.tb TB_PPS_CTRL_OUT_WIDTH))
  else { s with sync := { t with ppsSec := some sec } }

/-- PPS_OUT_PULSE. -/
def execPpsOutPulse (s : State) : Host.Outcome State Fault Refusal := .next s.ppsOut

/-- A read of TB_NOW_SEC latches the rest of the same stamp (R31). -/
def State.tbNowRead (s : State) : State := s.putStamp A.tb TB_NOW_SEC_SEC TB_NOW_NS_NS TB_NOW_NS_FRAC s.nowQ

/-- TB_NOW_SEC_READ. -/
def execTbNowSecRead (s : State) : Host.Outcome State Fault Refusal := .next s.tbNowRead

end Sys2Proof.Machine
end

