-- ==== Sys2Proof/Machine/Matrix.lean ====
section
/-!
DEFINITION. The cycle matrix of a cell: committing and running it, node entries, cycle marks
(spec/07_cells.md R184–R192, R204, R206, R211–R214).
-/

namespace Sys2Proof.Machine

/-! ## Nodes and rates -/

/-- The port of node `d` on channel `ch`, where its entry is valid, belongs to cell `c` and has one. -/
def State.nodePort (s : State) (c d ch : Nat) : Option Nat :=
  let b := A.tnode d
  if s.on b CL_NODE_CFG_VALID && s.get b CL_NODE_CFG_CELL == c then
    if ch = 0 then (if s.on b CL_NODE_CFG_A_EN then some (s.get b CL_NODE_CFG_PORT_A) else none)
    else if s.on b CL_NODE_CFG_B_EN then some (s.get b CL_NODE_CFG_PORT_B) else none
  else none

/-- The node of cell `c` whose port on channel `ch` is `l`; the lowest one. -/
def State.nodeOf (s : State) (c l ch : Nat) : Option Nat :=
  let lo := A.tnode 0 + CL_NODE_CFG_VALID.off
  (s.words.find? (fun e => decide (lo ≤ e.1 ∧ e.1 < lo + 0x100 * 16384) && (e.1 - lo) % 0x100 == 0 &&
    s.nodePort c ((e.1 - lo) / 0x100) ch == some l)).map (fun e => (e.1 - lo) / 0x100)

/-- A port of the cell whose rate is known, for T_w of R188. -/
def State.cellRatePort (s : State) (c : Nat) : Nat :=
  (((s.cellPorts c).find? (fun p => s.portRate p.lane != 0)).map (·.lane)).getD 0

/-- T_w of a window in ns (R188). -/
def State.winTx (s : State) (c : Nat) (w : Nat × Nat) : Nat := s.txNs (s.cellRatePort c) (winFrame w)

/-! ## COMMIT (R189, R190) -/

/-- The admin bank as a matrix. -/
def State.adminMatrix (s : State) (c : Nat) : List Basic :=
  let x := s.cell c
  (List.range (min x.hdr 64)).map (fun b =>
    let cyc := SMap.get 1000000 x.cycs b
    { len := bitsOf cyc 26 0, wins := (List.range (min 257 (bitsOf cyc 40 32))).map (fun w => SMap.get (0, 0) x.wins (b * 256 + w)) })

/-- The first window of a matrix of which `bad` holds, as basic cycle and window. -/
def firstBad (bad : Basic → Nat × Nat → Bool) : List Basic → Nat → Option (Nat × Nat)
  | [], _ => none
  | x :: m, b =>
    match x.wins.findIdx? (bad x) with
    | some w => some (b, w)
    | none => firstBad bad m (b + 1)

/-- KIND, CHAN and place of a window are legal. -/
def winPlaced (x : Basic) (w : Nat × Nat) : Bool :=
  winKind w != 3 && winChan w != 0 && decide (winOpen w + winLen w ≤ x.len)

/-- FRAME_LEN, ACTION_NS and reserved bits of a window are legal. -/
def winFields (w : Nat × Nat) : Bool :=
  bitsOf w.1 58 57 == 0 && bitsOf w.2 35 27 == 0 &&
    (winKind w == 2 || decide (64 ≤ winFrame w ∧ winFrame w ≤ 16000 ∧ winAction w < winLen w))

/-- An EXCLUSIVE window's node has a port on each of its channels. -/
def State.winNodeOk (s : State) (c : Nat) (w : Nat × Nat) : Bool :=
  winKind w != 0 ||
    ((!(winOnChan w 0) || (s.nodePort c (winNode w) 0).isSome) && (!(winOnChan w 1) || (s.nodePort c (winNode w) 1).isSome))

/-- Insert a window instance by its opening. -/
def insertInst (i : Inst) : List Inst → List Inst
  | [] => [i]
  | j :: t => if i.opens ≤ j.opens then i :: j :: t else j :: insertInst i t

/-- The later one of the first pair of neighbours whose occupancies with margin `m` overlap. -/
def overlapIn (m : Nat) : List Inst → Option (Nat × Nat)
  | i :: j :: t => if j.opens ≤ i.closes + 2 * m then some (j.cyc, j.win) else overlapIn m (j :: t)
  | _ => none

/-- The first overlap of occupancies on channel `ch`, across cycle boundaries and the matrix wrap. -/
def overlap (m : List Basic) (margin ch : Nat) : Option (Nat × Nat) :=
  let xs := ((cycleInsts m 0 0).filter (fun i => winOnChan i.words ch)).foldl (fun l i => insertInst i l) []
  match overlapIn margin xs, xs.head?, xs.getLast? with
  | some e, _, _ => some e
  | none, some a, some z => if a.opens + nsQ (matrixLen m) ≤ z.closes + 2 * margin then some (a.cyc, a.win) else none
  | _, _, _ => none

/-- Substitution windows of a matrix, counted once per channel. -/
def substWindows (m : List Basic) : Nat :=
  m.foldl (fun n x => x.wins.foldl (fun n w =>
    if winKind w = 0 ∧ 0 < winSubst w then n + bit (winOnChan w 0) + bit (winOnChan w 1) else n) n) 0

/-- The pending matrix fails its checks: status, basic cycle and window of the first failure (R189). -/
def State.matrixFail (s : State) (c : Nat) (m : List Basic) : Option (Nat × Nat × Nat) :=
  let at_ := fun (e : Nat × Nat) => some (stBadValue, e.1, e.2)
  let q := s.marginQ c
  let others := s.cells.foldl (fun n e =>
    if e.1 ≠ c ∧ s.homeSlice e.1 = s.homeSlice c then n + substWindows e.2.oper else n) 0
  if m.isEmpty ∨ 64 < (s.cell c).hdr then some (stBadValue, 0, 0)
  else match m.findIdx? (fun x => !(decide (10000 ≤ x.len ∧ x.len ≤ 100000000) && decide (x.wins.length ≤ 256))) with
  | some b => some (stBadValue, b, 0)
  | none => match firstBad (fun x w => !winPlaced x w) m 0 with
  | some e => at_ e
  | none => match firstBad (fun _ w => !winFields w) m 0 with
  | some e => at_ e
  | none => match firstBad (fun _ w => winKind w != 2 && decide (winLen w < s.winTx c w)) m 0 with
  | some e => at_ e
  | none => match firstBad (fun _ w => !s.winNodeOk c w) m 0 with
  | some e => at_ e
  | none => match (overlap m q 0).orElse (fun _ => overlap m q 1) with
  | some e => at_ e
  | none => match firstBad (fun _ w => winKind w == 0 && decide (0 < winSubst w ∧ 1536 < winFrame w)) m 0 with
  | some e => at_ e
  | none => if 4096 < others + substWindows m then some (stBadValue, 0, 0) else none

/-- Show the effective instant of a matrix change: `x` in physical time. -/
def State.showEff (s : State) (c x : Nat) : State :=
  let b := A.cl ((s.homeSlice c).getD 0)
  (s.put b CL_MX_EFF_SEC_SEC (secOf x)).put b CL_MX_EFF_NS_NS (nsOf x)

/-- The result of an executed CL_MX command. -/
def State.matrixResult (s : State) (c tag status cyc win : Nat) (replaced : Bool) : State :=
  let b := A.cl ((s.homeSlice c).getD 0)
  let s := (s.put b CL_MX_RESULT_TAG tag).inc b CL_MX_RESULT_RESULT_SEQ 1
  let s := (s.put b CL_MX_RESULT_FAIL_CYCLE cyc).put b CL_MX_RESULT_FAIL_WINDOW win
  (s.put b CL_MX_RESULT_REPLACED (bit replaced)).put b CL_MX_RESULT_STATUS status

/-- A matrix becomes the oper matrix, effective at `eff` in cell time. -/
def State.setMatrix (s : State) (c : Nat) (m : List Basic) (eff : Nat) : State :=
  let b := s.cellBase c
  let s := s.setCell c { s.cell c with oper := m, pending := none, lastEff := s.fromCell c eff }
  let s := (s.put b CL_STATUS_CYCLES m.length).put b CL_MATRIX_LEN_NS (matrixLen m)
  ((s.put b CL_STATUS_CONFIG_PENDING 0).raise b CL_EVENT_FLAGS 0).showEff c (s.fromCell c eff)

/-- The first start `b + k × M` (k whole, of either sign) at or after `t`. -/
def gridStart (b m t : Nat) : Nat := if m = 0 then t else t + (((b : Int) - t) % (m : Int)).toNat

/-- Fix the start of the oper matrix of an enabled cell (R191). -/
def State.startMatrix (s : State) (c : Nat) : State :=
  let x := s.cell c
  let b := s.cellBase c
  if x.oper.isEmpty then s
  else
    let cl := s.stamp b CL_BASE_SEC_SEC CL_BASE_NS_NS ⟨CL_BASE_NS_NS.off, 31, 31⟩
    let t := gridStart (cl / 65536 * 65536) (nsQ (matrixLen x.oper)) (s.toCell c s.nowQ + nsQ 2000)
    s.setCell c { x with base := some t, cycleAt := none }

/-- COMMIT: check the admin matrix and schedule it (R189, R190). -/
def State.matrixCommit (s : State) (c tag : Nat) : State :=
  let x := s.cell c
  let m := s.adminMatrix c
  let now := s.toCell c s.nowQ
  let locked := match x.pending with
    | some (_, e) => decide (e < now + nsQ 2000)
    | none => false
  match s.matrixFail c m with
  | some (st, cyc, win) => s.matrixResult c tag st cyc win false
  | none =>
    if locked then s.matrixResult c tag stChangeLocked 0 0 false
    else
      let s := s.matrixResult c tag stOK 0 0 x.pending.isSome
      match s.cellOn c, x.base with
      | true, some b =>
        let len := nsQ (matrixLen x.oper)
        let eff := b + ceilDiv (now + nsQ 2000 - b) len * len
        let s := s.setCell c { x with pending := some (m, eff) }
        (s.put (s.cellBase c) CL_STATUS_CONFIG_PENDING 1).showEff c (s.fromCell c eff)
      | true, none => (s.setMatrix c m now).startMatrix c
      | false, _ => s.setMatrix c m now

/-- An operation on a cell that has ports. -/
def State.atCell (s : State) (c : Nat) (f : State → State) : State := if (s.homeSlice c).isSome then f s else s

/-- COMMIT. -/
def execCommit (c tag : Nat) (s : State) : Host.Outcome State Fault Refusal := .next (s.atCell c (·.matrixCommit c tag))

/-- CL_MX_CANCEL: a pending change at least 2 µs away is removed (R190). -/
def State.matrixCancel (s : State) (c tag : Nat) : State :=
  let x := s.cell c
  match x.pending with
  | none => s.matrixResult c tag stNOP 0 0 false
  | some (_, e) =>
    if e < s.toCell c s.nowQ + nsQ 2000 then s.matrixResult c tag stChangeLocked 0 0 false
    else
      let s := (s.setCell c { x with pending := none }).put (s.cellBase c) CL_STATUS_CONFIG_PENDING 0
      (s.showEff c x.lastEff).matrixResult c tag stOK 0 0 false

/-- CL_MX_CANCEL. -/
def execClMxCancel (c tag : Nat) (s : State) : Host.Outcome State Fault Refusal := .next (s.atCell c (·.matrixCancel c tag))

/-- CL_MX_NOP: OP none. -/
def execClMxNop (c tag : Nat) (s : State) : Host.Outcome State Fault Refusal :=
  .next (s.atCell c (·.matrixResult c tag stNOP 0 0 false))

/-- A committed CL_MX_CMD, by its OP. -/
def State.matrixCmd (s : State) (c op tag : Nat) : State :=
  match op with
  | 0 => s.matrixResult c tag stNOP 0 0 false
  | 1 => s.matrixCommit c tag
  | 2 => s.matrixCancel c tag
  | _ => s.matrixResult c tag stBadValue 0 0 false

/-- MATRIX_CHANGE_EFFECTIVE: the pending matrix becomes the oper matrix at its instant, or at once while the cell is
disabled (R190). -/
def State.matrixApply (s : State) (c : Nat) : State :=
  let x := s.cell c
  match x.pending with
  | none => s
  | some (m, e) =>
    if !s.cellOn c then s.setMatrix c m (s.toCell c s.nowQ)
    else if s.toCell c s.nowQ < e then s
    else (s.setMatrix c m e).setCell c { (s.setMatrix c m e).cell c with base := some e, cycleAt := none }

/-- MATRIX_CHANGE_EFFECTIVE. -/
def execMatrixChangeEffective (c : Nat) (s : State) : Host.Outcome State Fault Refusal := .next (s.atCell c (·.matrixApply c))

/-! ## Enabling a cell (R191, R204, R214) -/

/-- The ranked node IDs, bits [15:14] included. -/
def State.ranks (s : State) (c : Nat) : List Nat :=
  let b := s.cellBase c
  (List.range (min 8 (s.get b CL_CS_CTRL_RANKS))).map (fun i =>
    if i < 4 then s.get b CL_CS_RANK_LO_RANK0_3 / 65536 ^ i % 65536 else s.get b CL_CS_RANK_HI_RANK4_7 / 65536 ^ (i - 4) % 65536)

/-- The rank list lets the cell start (R204). -/
def State.ranksOk (s : State) (c : Nat) : Bool :=
  let r := s.ranks c
  r.length == r.eraseDups.length && r.all (fun d => decide (d < 16384) &&
    s.on (A.tnode d) CL_NODE_CFG_VALID && s.get (A.tnode d) CL_NODE_CFG_CELL == c)

/-- Nodes of cell `c`. -/
def State.cellNodes (s : State) (c : Nat) : List Nat :=
  let lo := A.tnode 0 + CL_NODE_CFG_VALID.off
  (s.words.filter (fun e => decide (lo ≤ e.1 ∧ e.1 < lo + 0x100 * 16384) && (e.1 - lo) % 0x100 == 0 &&
    bitsOf e.2.toNat 63 63 == 1 && bitsOf e.2.toNat 62 52 == c)).map (fun e => (e.1 - lo) / 0x100)

/-- EN goes to 1: the rank list is checked, C is 0, and the matrix starts at least 2 µs later. -/
def State.startCell (s : State) (c : Nat) : Nat × State :=
  let b := s.cellBase c
  if !s.ranksOk c then (stBadValue, s)
  else
    let x := s.cell c
    let s := s.setCell c { x with
      halted := false, base := none, cycleAt := none, bad := [], syncs := [], loss := 0, csOpen := none, csFrames := [],
      arb := [], started := [], substituted := [], store := [] }
    let s := (s.put b CL_CELL_CTRL_EN 1).put b CL_MATRIX_COUNT_COUNT 0
    let s := ((s.put b CL_CORR_C 0).put b CL_STATUS_STATE (bit (s.on b CL_CELL_CTRL_MASTER)))
    (stOK, s.startMatrix c)

/-- EN goes to 0: matrix and marks stop, the substitution store and the drift estimates are cleared (R214). -/
def State.stopCell (s : State) (c : Nat) : State :=
  let b := s.cellBase c
  let x := s.cell c
  let nodes := s.cellNodes c
  let s := { s with drifts := s.drifts.filter (fun e => !nodes.contains (e.1 / 2)) }
  let s := s.setCell c { x with
    halted := true, base := none, cycleAt := none, bad := [], syncs := [], loss := 0, csOpen := none, csFrames := [],
    arb := [], started := [], substituted := [], store := [] }
  ((s.put b CL_CELL_CTRL_EN 0).put b CL_STATUS_STATE 0).matrixApply c

/-- Write EN of a cell; the status the write returns. -/
def State.enableCell (s : State) (c : Nat) (en : Bool) : Nat × State :=
  if en = s.cellOn c then (stOK, s) else if en then s.startCell c else (stOK, s.stopCell c)

/-- CL_CELL_ENABLE. -/
def execClCellEnable (c : Nat) (en : Bool) (s : State) : Host.Outcome State Fault Refusal :=
  .next (s.atCell c (fun s => (s.enableCell c en).2))

/-! ## MATRIX_CYCLE_START (R186, R206) -/

/-- Move C at the start of a matrix cycle of an EXTERNAL cell in SYNC, or lose SYNC (R206). Only the unit with authority
moves C (R207). -/
def State.correct (s : State) (c : Nat) : State :=
  let b := s.cellBase c
  let x := s.cell c
  if !s.cellExternal c || s.get b CL_STATUS_STATE != 2 || !s.authority || s.get b CL_MATRIX_COUNT_COUNT == 0 then s
  else match x.syncs with
    | d :: ds =>
      let lim : Int := nsQ (s.get b CL_GUARD_CORR_LIMIT_NS)
      let mean := (ds.foldl (· + ·) d) / (x.syncs.length : Nat)
      let k := max (-lim) (min lim mean)
      ((s.putI b CL_CORR_C (s.cellCorr c + k)).putI b CL_CORR_LAST_DELTA k).setCell c { x with loss := 0 }
    | [] =>
      if x.loss + 1 < s.get b CL_CS_CTRL_LOSS_CYCLES then s.setCell c { x with loss := x.loss + 1 }
      else
        let s := s.setCell c { x with loss := 0, store := [] }
        let s := (s.put b CL_STATUS_STATE 1).bump b CL_CNT_SYNC_LOST_COUNT
        (s.raise b CL_EVENT_FLAGS 2).reportOther (srcSlice ((s.homeSlice c).getD 0) 7) objCell c 0

/-- A matrix cycle starts. -/
def State.cycleStart (s : State) (c : Nat) : State :=
  let x := s.cell c
  let len := nsQ (matrixLen x.oper)
  match x.base with
  | none => s
  | some b0 =>
    let t := match x.cycleAt with
      | none => b0
      | some u => u + len
    if !s.cellOn c || decide (s.toCell c s.nowQ < t) then s
    else
      let s := s.correct c
      let b := s.cellBase c
      let x := s.cell c
      let keep := fun (e : Nat × Nat × Nat × Nat) => decide (t ≤ e.2.2.2 + nsQ 65536)
      let s := s.setCell c { x with
        cycleAt := some t, bad := [], syncs := [], started := x.started.filter keep,
        substituted := x.substituted.filter keep, arb := x.arb.filter (fun e => keep e.1) }
      let s := s.bump b CL_MATRIX_COUNT_COUNT
      if s.cellExternal c then s else s.put b CL_STATUS_STATE 2

/-- MATRIX_CYCLE_START. -/
def execMatrixCycleStart (c : Nat) (s : State) : Host.Outcome State Fault Refusal := .next (s.atCell c (·.cycleStart c))

/-! ## Matrix and node windows (R187, R214, R9) -/

/-- The word pair at CL_MX_SEL of slice `n`. -/
def State.mxWindow (s : State) (n : Nat) : Nat × Nat :=
  let b := A.cl n
  let x := s.cell (s.get b CL_MX_SEL_CELL)
  let cyc := s.get b CL_MX_SEL_CYCLE
  let win := s.get b CL_MX_SEL_WINDOW
  match s.get b CL_MX_SEL_BANK with
  | 0 => SMap.get (0, 0) x.wins (cyc * 256 + win)
  | 1 => ((x.oper[cyc]?).map (fun y => y.wins.getD win (0, 0))).getD (0, 0)
  | _ => ((x.pending.bind (fun p => p.1[cyc]?)).map (fun y => y.wins.getD win (0, 0))).getD (0, 0)

/-- Advance the window under AUTO_INC. -/
def State.mxNext (s : State) (n : Nat) : State :=
  if s.on (A.cl n) CL_MX_SEL_AUTO_INC then s.inc (A.cl n) CL_MX_SEL_WINDOW 1 else s

/-- CL_MX_W1_READ: the second word appears at its value address, and WINDOW advances. -/
def execClMxW1Read (n : Nat) (s : State) : Host.Outcome State Fault Refusal :=
  .next (s.atSlice n (fun s => (s.put (A.cl n) CL_MX_W1_ENTRY1 (s.mxWindow n).2).mxNext n))

/-- The window registers of slice `n` act on cell `c`: its home slice is this one (R192). -/
def State.isHome (s : State) (n c : Nat) : Bool := s.homeSlice c == some n

/-- A pair committed to CL_MX_W1 stores both words in the admin bank. -/
def State.mxWrite (s : State) (n v : Nat) : State :=
  let b := A.cl n
  let c := s.get b CL_MX_SEL_CELL
  if s.get b CL_MX_SEL_BANK = 0 ∧ s.isHome n c then
    let x := s.cell c
    (s.setCell c { x with
      wins := SMap.set (0, 0) (s.get b CL_MX_SEL_CYCLE * 256 + s.get b CL_MX_SEL_WINDOW) (s.get b CL_MX_W0_ENTRY0, v) x.wins }).mxNext n
  else s

/-- A pair committed to CL_MX_CYC. -/
def State.mxCycWrite (s : State) (n v : Nat) : State :=
  let c := s.get (A.cl n) CL_MX_SEL_CELL
  if s.get (A.cl n) CL_MX_SEL_BANK = 0 ∧ s.isHome n c then
    s.setCell c { s.cell c with cycs := SMap.set 1000000 (s.get (A.cl n) CL_MX_SEL_CYCLE) v (s.cell c).cycs }
  else s

/-- A pair committed to CL_MX_HDR. -/
def State.mxHdrWrite (s : State) (n v : Nat) : State :=
  let c := s.get (A.cl n) CL_MX_SEL_CELL
  if s.get (A.cl n) CL_MX_SEL_BANK = 0 ∧ s.isHome n c then s.setCell c { s.cell c with hdr := v % 128 } else s

/-- The CL_MX_CYC word of the selected bank. -/
def State.mxCyc (s : State) (n : Nat) : Nat :=
  let b := A.cl n
  let x := s.cell (s.get b CL_MX_SEL_CELL)
  let i := s.get b CL_MX_SEL_CYCLE
  let word := fun (m : List Basic) => ((m[i]?).map (fun y => y.wins.length * 2 ^ 32 + y.len)).getD 0
  match s.get b CL_MX_SEL_BANK with
  | 0 => SMap.get 1000000 x.cycs i
  | 1 => word x.oper
  | _ => word ((x.pending.map (·.1)).getD [])

/-- The CL_MX_HDR word of the selected bank. -/
def State.mxHdr (s : State) (n : Nat) : Nat :=
  let b := A.cl n
  let x := s.cell (s.get b CL_MX_SEL_CELL)
  match s.get b CL_MX_SEL_BANK with
  | 0 => x.hdr
  | 1 => x.oper.length
  | _ => ((x.pending.map (·.1)).getD []).length

/-- A port of a written node entry belongs to its cell on its channel. -/
def State.nodePortOk (s : State) (c l ch : Nat) : Bool :=
  (s.cellPorts c).any (fun p => p.lane == l && bit p.channelB == ch)

/-- CL_NODE_CFG of slice `n` is written with word `w` (R214). -/
def State.nodeWrite (s : State) (n w : Nat) : State :=
  let b := A.cl n
  let d := s.get b CL_NODE_SEL_NODE
  let c := bitsOf w 62 52
  let old := s.get (A.tnode d) CL_NODE_CFG_CELL
  let busy := (s.on (A.tnode d) CL_NODE_CFG_VALID && s.cellOn old) || (w.testBit 63 && s.cellOn c)
  let ok := !w.testBit 63 || ((!w.testBit 51 || s.nodePortOk c (bitsOf w 50 42) 0) && (!w.testBit 41 || s.nodePortOk c (bitsOf w 40 32) 1))
  if !s.isHome n (if w.testBit 63 then c else old) then s
  else if busy || !ok then s.put b CL_NODE_CFG_STATUS stBadValue
  else
    let a := A.tnode d + CL_NODE_CFG_VALID.off
    (s.setWord a (BitVec.ofNat 64 (w / 2 ^ 32 * 2 ^ 32))).put b CL_NODE_CFG_STATUS stOK

/-- CL_NODE_CFG_WRITE. -/
def execClNodeCfgWrite (n w : Nat) (s : State) : Host.Outcome State Fault Refusal := .next (s.atSlice n (·.nodeWrite n w))

/-! ## Cycle marks (R211–R213) -/

/-- Mark `m` of cell `c`. -/
def State.mark (s : State) (c m : Nat) : Mark := SMap.get {} (s.cell c).marks m

/-- Store a mark. -/
def State.setMark (s : State) (c m : Nat) (x : Mark) : State :=
  s.setCell c { s.cell c with marks := SMap.set {} m x (s.cell c).marks }

/-- The configuration of a mark as last written. -/
def Mark.latest (x : Mark) : Nat := match x.next with
  | some (w, _) => w
  | none => x.cfg

/-- Starts of the basic cycles of the matrix cycle in progress and of the next one. -/
def basicStarts : List Basic → Nat → List Nat
  | [], t => [t]
  | x :: m, t => t :: basicStarts m (t + nsQ x.len)

/-- The next start of a basic cycle in cell time; none while no matrix runs. -/
def State.nextBasic (s : State) (c : Nat) : Option Nat :=
  let x := s.cell c
  match x.cycleAt with
  | some t => (basicStarts x.oper t).find? (fun u => decide (s.toCell c s.nowQ < u))
  | none => x.base

/-- Pin `p` is driven by an enabled mark other than mark `m` of cell `c`. -/
def State.pinMarked (s : State) (p c m : Nat) : Bool :=
  s.cells.any (fun e => e.2.marks.any (fun k =>
    !(e.1 == c && k.1 == m) && k.2.latest.testBit 63 && k.2.latest.testBit 53 && bitsOf k.2.latest 47 44 == p))

/-- A written CL_MARK_CFG word is accepted (R212). -/
def State.markOk (s : State) (c m w : Nat) : Bool :=
  let p := bitsOf w 47 44
  decide (bitsOf w 26 0 < 100000000) &&
    (!w.testBit 53 || (s.get (A.tp p) TP_CTRL_MODE == 4 && !s.pinMarked p c m))

/-- CL_MARK_CFG of slice `n` is written with word `w`: it takes effect at the next start of a basic cycle. -/
def State.markWrite (s : State) (n w : Nat) : State :=
  let b := A.cl n
  let c := s.get b CL_MARK_SEL_CELL
  let m := s.get b CL_MARK_SEL_MARK
  if !s.isHome n c then s
  else if !s.markOk c m w then s.put b CL_MARK_STATUS_STATUS stBadValue
  else
    let x := s.mark c m
    let x := match s.nextBasic c with
      | some t => { x with next := some (w, t) }
      | none => { x with cfg := w, next := none }
    (s.setMark c m x).put b CL_MARK_STATUS_STATUS stOK

/-- CL_MARK_CFG_WRITE. -/
def execClMarkCfgWrite (n w : Nat) (s : State) : Host.Outcome State Fault Refusal := .next (s.atSlice n (·.markWrite n w))

/-- Instants of a mark with configuration `w` in the matrix cycle that starts at `t` (R211). -/
def markInstants (w : Nat) : List Basic → Nat → Nat → List Nat
  | [], _, _ => []
  | x :: m, b, t =>
    let o := bitsOf w 26 0
    let here := (w.testBit 62 || bitsOf w 61 56 == b) && decide (o < x.len)
    (if here then [t + nsQ o] else []) ++ markInstants w m (b + 1) (t + nsQ x.len)

/-- The HOST action, within 200,000 messages per second (R213). -/
def State.markEvent (s : State) (c m t : Nat) : State :=
  let sec := s.time.clk / 1000000000
  let k := if s.markSecond.1 = sec then s.markSecond.2 else 0
  if k < 200000 then
    ({ s with markSecond := (sec, k + 1) }).formEvent 2
      (be 2 c ++ be 1 m ++ be 5 0 ++ be 8 (s.get (s.cellBase c) CL_MATRIX_COUNT_COUNT) ++ be 12 (stampBits (s.fromCell c t)) ++ be 4 0)
  else
    ({ s with markSecond := (sec, k) }).bump (A.cl ((s.homeSlice c).getD 0)) CL_CNT_MARK_LOST_COUNT
      |>.raise (s.cellBase c) CL_EVENT_FLAGS 5

/-- CYCLE_MARK: mark `m` fires at its latest instant that has come, with each action set for it. -/
def State.fireMark (s : State) (c m : Nat) : State :=
  let now := s.toCell c s.nowQ
  let x := s.mark c m
  let x := match x.next with
    | some (w, t) => if t ≤ now then { x with cfg := w, next := none, firedAt := max x.firedAt (t - 1) } else x
    | none => x
  let y := s.cell c
  let runs := s.cellOn c && s.get (s.cellBase c) CL_STATUS_STATE == 2
  match y.cycleAt with
  | none => s
  | some t0 =>
    let due := ((markInstants x.cfg y.oper 0 t0).filter (fun u => decide (u ≤ now ∧ x.firedAt < u))).getLast?
    match due with
    | none => s.setMark c m x
    | some t =>
      if !runs || !x.cfg.testBit 63 then s.setMark c m x
      else
        let x := { x with fired := (x.fired + 1) % 2 ^ 32, firedAt := t, core := x.core + bit (x.cfg.testBit 55) }
        let s := s.setMark c m x
        let s := if x.cfg.testBit 54 then s.markEvent c m t else s
        if x.cfg.testBit 53 && s.pinsDrive then
          let p := bitsOf x.cfg 47 44
          s.emit (.pulse p (!s.on (A.tp p) TP_CTRL_POLARITY) (s.fromCell c t) (s.get (A.tp p) TP_WIDTH_WIDTH))
        else s

/-- CYCLE_MARK. -/
def execCycleMark (c m : Nat) (s : State) : Host.Outcome State Fault Refusal :=
  .next (s.atCell c (fun s => if m < 16 then s.fireMark c m else s))

end Sys2Proof.Machine
end

