-- ==== Sys2Proof/Machine/Parser.lean ====
section
/-!
DEFINITION. The parser: one pass over a frame's headers, the key fields it fills, and the reason code it may end with
(spec/08_parse_classify.md R216–R219, R224).
-/

namespace Sys2Proof.Machine

/-! ## What a pass fills -/

/-- The fields of R222–R224, and where the pass's tunnel payload begins. -/
structure Keys where
  flags : Nat := 0
  tags : Nat := 0
  pcp : Nat := 0
  vid : Nat := 0
  etherType : Nat := 0
  da : Nat := 0
  sa : Nat := 0
  dscp : Nat := 0
  proto : Nat := 0
  l4Src : Nat := 0
  l4Dst : Nat := 0
  dstIp : Nat := 0
  srcIp : Nat := 0
  tunId : Nat := 0
  inDa : Nat := 0
  inEtherType : Nat := 0
  inProto : Nat := 0
  inL4Dst : Nat := 0
  inDstIp : Nat := 0
  /-- Offset of the header after the first tunnel header, and its EtherType where it is an IP header (R230). -/
  tunnel : Option (Nat × Option Nat) := none
  deriving DecidableEq, Repr

/-- The headers of R216, as the parser visits them; `ext` is an IPv6 extension header, `stop` the end of the parse. -/
inductive Hdr where
  | ether (inner : Bool)
  | vlan | rtag
  | mpls | ipv4 | ipv6
  | ext (next : Nat)
  | udp | tcp | vxlan | geneve | gre | avtp | ptp | lldp
  | stop
  deriving DecidableEq, Repr

/-- A pass in progress. -/
structure Pass where
  keys : Keys := {}
  /-- Offset of the next header. -/
  pos : Nat := 0
  levels : Nat := 0
  /-- The pass has entered its tunnel's inner frame; a tunnel header has been seen. -/
  inner : Bool := false
  tunneled : Bool := false
  /-- An IP header, an inner IP header, a transport header and an inner one have filled their fields. -/
  ip : Bool := false
  inIp : Bool := false
  l4 : Bool := false
  inL4 : Bool := false
  /-- VLAN tags, MPLS labels and IPv6 extension headers so far in the present run of them. -/
  nTags : Nat := 0
  nLabels : Nat := 0
  nExts : Nat := 0
  /-- Reason code of R219. -/
  reason : Option Nat := none
  deriving DecidableEq, Repr

/-- What a pass needs beside the frame: the slice's PR_CTRL fields, its image edges, and how far it may read. -/
structure PassEnv where
  tpids : List Nat
  edges : List EdgeRec
  vxlan : Nat
  geneve : Nat
  gre : Bool
  csum : Bool
  guess : Bool
  /-- Offsets at which the parse depth and the frame end. -/
  depth : Nat
  stop : Nat
  deriving DecidableEq, Repr

/-- The environment of a pass that starts at `start` over a frame of `n` bytes without FCS. -/
def State.passEnv (s : State) (slice start n : Nat) : PassEnv where
  tpids := s.tpids slice
  edges := s.image.edges.filter (fun e => e.slice == slice)
  vxlan := s.get (A.pr slice) PR_CTRL_VXLAN_PORT
  geneve := s.get (A.pr slice) PR_CTRL_GENEVE_PORT
  gre := s.on (A.pr slice) PR_CTRL_GRE_EN
  csum := s.on (A.pr slice) PR_CTRL_IPV4_CSUM
  guess := s.on (A.pr slice) PR_CTRL_MPLS_GUESS
  depth := start + s.get (A.pr slice) PR_CTRL_DEPTH
  stop := n

/-- The header that a header code of R360 names. -/
def hdrOfCode : Nat → Hdr
  | 1 => .vlan | 2 => .rtag | 3 => .mpls | 4 => .ipv4 | 5 => .ipv6 | 6 => .udp | 7 => .tcp | 8 => .vxlan
  | 9 => .geneve | 10 => .gre | 11 => .avtp | 12 => .ptp | 13 => .lldp | 14 => .ether true | _ => .stop

/-- The image edge of a kind and value, if there is one. -/
def edgeTo (es : List EdgeRec) (kind value : Nat) : Hdr :=
  match es.find? (fun e => e.kind == kind && e.value == value) with
  | some e => hdrOfCode e.next
  | none => .stop

/-- The header that an EtherType leads to. -/
def etherEdge (env : PassEnv) (et : Nat) : Hdr :=
  if et = 0x8847 ∨ et = 0x8848 then .mpls
  else if et = 0x0800 then .ipv4
  else if et = 0x86DD then .ipv6
  else if et = 0x22F0 then .avtp
  else if et = 0x88F7 then .ptp
  else if et = 0x88CC then .lldp
  else edgeTo env.edges 0 et

/-- The header that an IP protocol leads to. -/
def protoEdge (env : PassEnv) (p : Nat) : Hdr :=
  if p = 17 then .udp
  else if p = 6 then .tcp
  else if p = 47 then (if env.gre then .gre else .stop)
  else edgeTo env.edges 1 p

/-- The header that a UDP destination port leads to. -/
def portEdge (env : PassEnv) (p : Nat) : Hdr :=
  if p = 319 ∨ p = 320 then .ptp
  else if p = env.vxlan then .vxlan
  else if p = env.geneve then .geneve
  else edgeTo env.edges 2 p

/-- The IPv6 extension headers of R216. -/
def isExt (p : Nat) : Bool := p == 0 || p == 43 || p == 60 || p == 44

/-! ## Steps of a pass -/

/-- FLAGS bit numbers of R222. -/
def flSHORT : Nat := 8

/-- Set FLAGS bit `i`. -/
def Pass.flag (p : Pass) (i : Nat) : Pass := { p with keys := { p.keys with flags := p.keys.flags ||| 2 ^ i } }

/-- Set FLAGS bit `i` for a header outside the tunnel's inner frame. -/
def Pass.flagOuter (p : Pass) (i : Nat) : Pass := if p.inner then p else p.flag i

/-- End the parse with a reason. -/
def Pass.fail (p : Pass) (r : Nat) : Pass × Hdr := ({ p with reason := some r }, .stop)

/-- Take a header of `n` bytes, which counts `lv` levels, and go on as `k` says: too many levels, a header past the depth
and one past the frame's end stop the parse (R217, R219). -/
def Pass.take (p : Pass) (env : PassEnv) (n lv : Nat) (k : Pass → Pass × Hdr) : Pass × Hdr :=
  if 24 < p.levels + lv then p.fail 2
  else if env.depth < p.pos + n then (p.flag flSHORT, .stop)
  else if env.stop < p.pos + n then p.fail 1
  else k { p with pos := p.pos + n, levels := p.levels + lv }

/-- Go on from the EtherType `et` after an Ethernet header, a VLAN tag or (`tagged` false) an R-TAG. -/
def Pass.afterEther (p : Pass) (env : PassEnv) (et : Nat) (tagged : Bool) : Pass × Hdr :=
  let h := if tagged && env.tpids.contains et then Hdr.vlan
    else if tagged && et == 0xF1C1 then .rtag
    else etherEdge env et
  match h with
  | .vlan => if tagged then (p, .vlan) else (p, .stop)
  | .rtag => if tagged then (p, .rtag) else (p, .stop)
  | h =>
    if et < 0x0600 then (p, .stop)
    else
      let p := if p.inner then { p with keys := { p.keys with inEtherType := et } }
        else { p with keys := { p.keys with etherType := et } }
      (p, h)

/-- Enter the inner frame that begins at the present offset. -/
def Pass.enter (p : Pass) (ip : Option Nat) : Pass :=
  { p with inner := true, keys := { p.keys with tunnel := some (p.keys.tunnel.getD (p.pos, ip)) } }

/-- Ethernet: addresses and EtherType. As an added edge it begins the pass's tunnel. -/
def Pass.ether (p : Pass) (env : PassEnv) (b : Bytes) (edge : Bool) : Pass × Hdr :=
  if edge && p.tunneled then (p, .stop)
  else
    let p := if edge then ({ p with tunneled := true }.flag 6).enter none else p
    p.take env 14 1 (fun q =>
      let o := p.pos
      let q := if q.inner then { q with keys := { q.keys with inDa := rd b o 6 } }
        else { q with keys := { q.keys with da := rd b o 6, sa := rd b (o + 6) 6 } }
      ({ q with nTags := 0 }).afterEther env (rd b (o + 12) 2) true)

/-- A VLAN tag: its TCI and the EtherType after it. -/
def Pass.vlan (p : Pass) (env : PassEnv) (b : Bytes) : Pass × Hdr :=
  if 4 ≤ p.nTags then p.fail 2
  else p.take env 4 1 (fun q =>
    let t := rd b p.pos 2
    let q := { q with nTags := p.nTags + 1 }
    let q := if q.inner then q
      else
        let k := { q.keys with tags := q.nTags }
        { q with keys := if p.nTags = 0 then { k with pcp := t / 8192, vid := t % 4096 } else k }
    q.afterEther env (rd b (p.pos + 2) 2) true)

/-- The R-TAG. -/
def Pass.rtag (p : Pass) (env : PassEnv) (b : Bytes) : Pass × Hdr :=
  p.take env 6 1 (fun q => (q.flagOuter 7).afterEther env (rd b (p.pos + 4) 2) false)

/-- The header after the bottom MPLS label, by the first nibble. An IP header fills the outer fields when none precedes
the labels (R224). -/
def Pass.afterLabels (p : Pass) (env : PassEnv) (b : Bytes) : Pass × Hdr :=
  let v := rd b p.pos 1 / 16
  let go := fun (et : Nat) (h : Hdr) =>
    ({ p with inner := p.inner || p.ip, keys := { p.keys with tunnel := some (p.keys.tunnel.getD (p.pos, some et)) } }, h)
  if !env.guess then (p, .stop)
  else if v = 4 then go 0x0800 .ipv4
  else if v = 6 then go 0x86DD .ipv6
  else (p, .stop)

/-- One MPLS label. -/
def Pass.mpls (p : Pass) (env : PassEnv) (b : Bytes) : Pass × Hdr :=
  if p.nLabels = 0 ∧ p.tunneled then (p, .stop)
  else if 8 ≤ p.nLabels then p.fail 2
  else p.take env 4 1 (fun q =>
    let w := rd b p.pos 4
    let q := { q with nLabels := p.nLabels + 1, tunneled := true }.flag 6
    let q := if p.nLabels = 0 then { q with keys := { q.keys with tunId := w / 4096 } } else q
    if w.testBit 8 then ({ q with nLabels := 0 }).afterLabels env b else (q, .mpls))

/-- Fill the address fields of an IP header. -/
def Pass.fillIp (p : Pass) (v6 : Bool) (dscp proto src dst : Nat) : Pass :=
  if p.inner then
    if p.inIp then p else { p with inIp := true, keys := { p.keys with inProto := proto, inDstIp := dst % 2 ^ 32 } }
  else if p.ip then p
  else { p with ip := true, keys := { p.keys with dscp := dscp, proto := proto, srcIp := src, dstIp := dst } }.flag
    (if v6 then 1 else 0)

/-- IPv4. -/
def Pass.ipv4 (p : Pass) (env : PassEnv) (b : Bytes) : Pass × Hdr :=
  let o := p.pos
  let ihl := rd b o 1 % 16
  p.take env (4 * max 5 ihl) 1 (fun q =>
    if rd b o 1 / 16 ≠ 4 ∨ ihl < 5 ∨ (env.csum ∧ foldSum (wordSum (slice b o (4 * ihl))) ≠ 65535) ∨
        env.stop < o + rd b (o + 2) 2 then q.fail 3
    else
      let q := q.fillIp false (rd b (o + 1) 1 / 4) (rd b (o + 9) 1) (rd b (o + 12) 4) (rd b (o + 16) 4)
      if rd b (o + 6) 2 % 0x4000 ≠ 0 then q.fail 4 else (q, protoEdge env (rd b (o + 9) 1)))

/-- Go on from the next header `n` of IPv6. -/
def afterIpv6 (env : PassEnv) (n : Nat) : Hdr :=
  if isExt n then .ext n else if n = 50 ∨ n = 51 then .stop else protoEdge env n

/-- IPv6. -/
def Pass.ipv6 (p : Pass) (env : PassEnv) (b : Bytes) : Pass × Hdr :=
  let o := p.pos
  p.take env 40 1 (fun q =>
    if rd b o 1 / 16 ≠ 6 ∨ env.stop < o + 40 + rd b (o + 4) 2 then q.fail 3
    else
      let n := rd b (o + 6) 1
      (({ q with nExts := 0 }).fillIp true (rd b o 2 / 64 % 64) n (rd b (o + 8) 16) (rd b (o + 24) 16), afterIpv6 env n))

/-- An IPv6 extension header of type `t`: PROTO follows its next header. -/
def Pass.ext (p : Pass) (env : PassEnv) (b : Bytes) (t : Nat) : Pass × Hdr :=
  if 4 ≤ p.nExts then p.fail 2
  else p.take env (if t = 44 then 8 else 8 * (rd b (p.pos + 1) 1 + 1)) 1 (fun q =>
    let n := rd b p.pos 1
    let q := { q with nExts := p.nExts + 1 }
    let q := if q.inner then { q with keys := { q.keys with inProto := n } } else { q with keys := { q.keys with proto := n } }
    if t = 44 then q.fail 4 else (q, afterIpv6 env n))

/-- The ports of a UDP (`n` 8) or TCP header, in flag bit `f`. -/
def Pass.fillL4 (p : Pass) (b : Bytes) (o f : Nat) : Pass :=
  if p.inner then
    if p.inL4 then p else { p with inL4 := true, keys := { p.keys with inL4Dst := rd b (o + 2) 2 } }
  else if p.l4 then p
  else { p with l4 := true, keys := { p.keys with l4Src := rd b o 2, l4Dst := rd b (o + 2) 2 } }.flag f

/-- A tunnel header of `n` bytes with identifier `id`, before the header `h`. Inside an inner frame, and after another
tunnel, it ends the parse (R218). -/
def Pass.tunnel (p : Pass) (env : PassEnv) (n id et : Nat) : Pass × Hdr :=
  if p.tunneled then (p, .stop)
  else p.take env n 1 (fun q =>
    let q := { q with tunneled := true, keys := { q.keys with tunId := id } }.flag 6
    if et = 0x6558 then (q.enter none, .ether false)
    else if et = 0x0800 then (q.enter (some et), .ipv4)
    else if et = 0x86DD then (q.enter (some et), .ipv6)
    else (q, .stop))

/-- GRE of version 0; any other version is not recognised. -/
def Pass.gre (p : Pass) (env : PassEnv) (b : Bytes) : Pass × Hdr :=
  let o := p.pos
  let f := rd b o 2
  if f % 8 ≠ 0 then (p, .stop)
  else
    let c := if f.testBit 15 then 4 else 0
    let k := if f.testBit 13 then 4 else 0
    p.tunnel env (4 + c + k + (if f.testBit 12 then 4 else 0)) (if k = 0 then 0 else rd b (o + 4 + c) 4) (rd b (o + 2) 2)

/-- AVTPDUs with a stream header (R216); the division of the subtypes is that of IEEE 1722-2016 (log entry 7). -/
def avtpStream (sub : Nat) : Bool := decide (sub < 0x80) && sub != 0x04 && sub != 0x6E

/-- AVTP: PROTO is the subtype, and the source address field the stream_id. -/
def Pass.avtp (p : Pass) (env : PassEnv) (b : Bytes) : Pass × Hdr :=
  let o := p.pos
  let sub := rd b o 1
  p.take env (if avtpStream sub then 24 else 12) 0 (fun q =>
    if q.inner || q.ip then (q, .stop)
    else
      let k := { q.keys with proto := sub }
      let k := if (rd b (o + 1) 1).testBit 7 then { k with srcIp := rd b (o + 4) 8 } else k
      ({ q with keys := k }.flag 4, .stop))

/-- One header of a pass. -/
def Pass.step (p : Pass) (env : PassEnv) (b : Bytes) : Hdr → Pass × Hdr
  | .ether e => p.ether env b e
  | .vlan => p.vlan env b
  | .rtag => p.rtag env b
  | .mpls => p.mpls env b
  | .ipv4 => p.ipv4 env b
  | .ipv6 => p.ipv6 env b
  | .ext t => p.ext env b t
  | .udp => p.take env 8 1 (fun q => (q.fillL4 b p.pos 2, portEdge env (rd b (p.pos + 2) 2)))
  | .tcp => p.take env 20 1 (fun q => (q.fillL4 b p.pos 3, .stop))
  | .vxlan => p.tunnel env 8 (rd b (p.pos + 4) 3) 0x6558
  | .geneve =>
    let et := rd b (p.pos + 2) 2
    p.tunnel env (8 + 4 * (rd b p.pos 1 % 64)) (rd b (p.pos + 4) 3) (if et = 0x6558 then et else 0)
  | .gre => p.gre env b
  | .avtp => p.avtp env b
  | .ptp => p.take env 34 0 (fun q => (q.flagOuter 5, .stop))
  | .lldp => (p, .stop)
  | .stop => (p, .stop)

/-- Follow the graph from header `h`; a pass visits at most 24 levels and one header that is no level (R217). -/
def Pass.run (env : PassEnv) (b : Bytes) : Nat → Pass → Hdr → Pass
  | 0, p, _ => p
  | n + 1, p, h =>
    match h with
    | .stop => p
    | h =>
      let r := p.step env b h
      Pass.run env b n r.1 r.2

/-- A pass over the frame `b` (without FCS) of slice `n`, from the start (R216–R219). -/
def State.parse (s : State) (n : Nat) (b : Bytes) : Pass :=
  Pass.run (s.passEnv n 0 b.length) b 32 {} (.ether false)

/-- A second pass that starts behind the first tunnel header of `k` (R230). -/
def State.parseInner (s : State) (n : Nat) (b : Bytes) (k : Keys) : Pass :=
  match k.tunnel with
  | none => s.parse n b
  | some (o, none) => Pass.run (s.passEnv n o b.length) b 32 { pos := o } (.ether false)
  | some (o, some et) =>
    Pass.run (s.passEnv n o b.length) b 32 { pos := o, keys := { etherType := et } } (if et = 0x0800 then .ipv4 else .ipv6)

end Sys2Proof.Machine
end

