-- ==== Sys2Proof/Machine/Tcam.lean ====
section
/-!
DEFINITION. Keys, the TCAM lookup, action words, and the commands of the CF entry window with its rule-set epochs
(spec/08_parse_classify.md R221–R230).
-/

namespace Sys2Proof.Machine

/-! ## Keys (R222, R223) -/

/-- The 64-bit prefix of a key. -/
def keyPrefix (lane second meta_ : Nat) (k : Keys) : Nat :=
  lane % 64 * 2 ^ 58 + second * 2 ^ 57 + k.flags * 2 ^ 48 + k.tags * 2 ^ 45 + k.pcp * 2 ^ 42 + k.vid * 2 ^ 30 +
    k.etherType * 2 ^ 14 + meta_

/-- The key of a table of width code `w` (0: 160, 1: 320, 2: 640 bits). -/
def keyOf (w lane second meta_ : Nat) (k : Keys) : Nat :=
  let p := keyPrefix lane second meta_ k
  match w with
  | 0 => p * 2 ^ 96 + k.da * 2 ^ 48 + k.sa
  | 1 => p * 2 ^ 256 + k.dscp * 2 ^ 250 + k.proto * 2 ^ 242 + k.l4Src * 2 ^ 226 + k.l4Dst * 2 ^ 210 + k.dstIp * 2 ^ 82 +
      k.srcIp % 2 ^ 64 * 2 ^ 18
  | _ => p * 2 ^ 576 + k.da * 2 ^ 528 + k.sa * 2 ^ 480 + k.dscp * 2 ^ 474 + k.proto * 2 ^ 466 + k.l4Src * 2 ^ 450 +
      k.l4Dst * 2 ^ 434 + k.dstIp * 2 ^ 306 + k.srcIp * 2 ^ 178 + k.tunId * 2 ^ 146 + k.inDa * 2 ^ 98 +
      k.inEtherType * 2 ^ 82 + k.inProto * 2 ^ 74 + k.inL4Dst * 2 ^ 58 + k.inDstIp * 2 ^ 26

/-- Bits of a key of width code `w`. -/
def keyBits : Nat → Nat
  | 0 => 160 | 1 => 320 | _ => 640

/-- Slots of an entry of width code `w`. -/
def keySlots : Nat → Nat
  | 0 => 1 | 1 => 2 | _ => 4

/-- Reserved key bits of width code `w`. -/
def keyReserved : Nat → Nat
  | 0 => 0 | 1 => 2 ^ 18 - 1 | _ => 2 ^ 26 - 1

/-! ## Entries and lookup (R225, R228) -/

/-- Ten words at base `b` from field `f` on as one number. -/
def State.wide (s : State) (b : Nat) (f : Nat → Fld) : Nat :=
  (List.range 10).foldl (fun v k => v + s.get b (f k) * 2 ^ (64 * k)) 0

/-- Store a number in ten words. -/
def State.putWide (s : State) (b : Nat) (f : Nat → Fld) (v : Nat) : State :=
  (List.range 10).foldl (fun s k => s.put b (f k) (v / 2 ^ (64 * k))) s

/-- The slots of slice `n` that some rule set holds, in order. -/
def State.tcamSlots (s : State) (n : Nat) : List Nat :=
  let lo := A.ttcam n 0 + CF_EIN_IN.off
  s.words.filterMap (fun e =>
    if lo ≤ e.1 ∧ e.1 < lo + 0x200 * 65536 ∧ (e.1 - lo) % 0x200 = 0 then some ((e.1 - lo) / 0x200) else none)

/-- Table `t` of slice `n` is defined, and slot `i` lies in it. -/
def State.inTable (s : State) (n t i : Nat) : Bool :=
  let b := A.cf n
  s.on b (CF_TABLE_VALID t) &&
    decide (s.get b (CF_TABLE_BASE t) ≤ i ∧ i < s.get b (CF_TABLE_BASE t) + s.get b (CF_TABLE_SIZE t))

/-- Entry `i` belongs to the rule set of epoch `e` and matches the key. -/
def State.tcamMatches (s : State) (n i e key : Nat) : Bool :=
  let b := A.ttcam n i
  (s.get b CF_EIN_IN).testBit e &&
    ((key ^^^ s.wide b CF_EK_VALUE) &&& s.wide b CF_EM_MASK) == 0

/-- The lowest-numbered slot of table `t` that matches. -/
def State.tcamLookup (s : State) (n t e key : Nat) : Option Nat :=
  (s.tcamSlots n).find? (fun i => s.inTable n t i && s.tcamMatches n i e key)

/-! ## Actions (R226) -/

/-- KIND: 0 FORWARD, 1 DROP, 2 SLOW, 3 RECIRC. -/
def actKind (a : Nat) : Nat := bitsOf a 63 62
/-- STREAM. -/
def actStream (a : Nat) : Nat := bitsOf a 61 44
/-- FLOW, if FLOW_EN. -/
def actFlow (a : Nat) : Option Nat := optField a 43 42 37
/-- COLDSTART. -/
def actCold (a : Nat) : Bool := a.testBit 36
/-- CAP_PROFILE. -/
def actCap (a : Nat) : Nat := bitsOf a 35 32
/-- TC, if TC_EN. -/
def actTc (a : Nat) : Option Nat := optField a 31 30 28
/-- DECAP. -/
def actDecap (a : Nat) : Nat := bitsOf a 27 26
/-- META. -/
def actMeta (a : Nat) : Nat := bitsOf a 13 0

/-! ## The entry window -/

/-- CF_SLOT of slice `n`. -/
def State.cfSlot (s : State) (n : Nat) : Nat := s.get (A.cf n) CF_SLOT_SLOT

/-- Report the status of an entry command. -/
def State.cfStatus (s : State) (n st : Nat) : State := s.put (A.cf n) CF_ECMD_STATUS st

/-- The staging epoch of slice `n`. -/
def State.staging (s : State) (n : Nat) : Nat := 1 - s.get (A.cf n) CF_EPOCH_CURRENT

/-- READ: the entry at CF_SLOT goes to the window. -/
def State.cfRead (s : State) (n : Nat) : State :=
  let e := A.ttcam n (s.cfSlot n)
  let s := (s.copyWords (A.cf n) e 0x90 3).copyWords (A.cf n) e 0x100 10
  (s.copyWords (A.cf n) e 0x180 10).cfStatus n stOK

/-- The width code of the table in which slot `i` is an aligned first slot of an entry. -/
def State.slotWidth (s : State) (n i : Nat) : Option Nat :=
  ((List.range 8).find? (fun t =>
    let k := keySlots (s.get (A.cf n) (CF_TABLE_WIDTH t))
    s.inTable n t i && s.inTable n t (i + k - 1) && (i - s.get (A.cf n) (CF_TABLE_BASE t)) % k == 0)).map
    (fun t => s.get (A.cf n) (CF_TABLE_WIDTH t))

/-- An action word is in range: reserved bits 0, and DECAP 0 or 1 where it is used. -/
def actionOk (a : Nat) : Bool := bitsOf a 25 14 == 0 && (actKind a != 3 || decide (actDecap a ≤ 1))

/-- ADD: value, mask and action go to a free entry, which joins the staging rule set. -/
def State.tcamAdd (s : State) (n : Nat) : State :=
  let b := A.cf n
  let i := s.cfSlot n
  if s.on b CF_EPOCH_RETIRING then s.cfStatus n stBusyEpoch
  else match s.slotWidth n i with
  | none => s.cfStatus n stBadValue
  | some w =>
    let e := A.ttcam n i
    let mask := s.wide b CF_EM_MASK % 2 ^ keyBits w
    let a := s.get b CF_EA_ACTION
    if s.get e CF_EIN_IN != 0 || mask &&& keyReserved w != 0 || !actionOk a then s.cfStatus n stBadValue
    else
      let s := (s.putWide e CF_EK_VALUE (s.wide b CF_EK_VALUE % 2 ^ keyBits w)).putWide e CF_EM_MASK mask
      let s := (s.put e CF_EA_ACTION a).put e CF_EHITS_HITS 0
      (s.raise e CF_EIN_IN (s.staging n)).cfStatus n stOK

/-- REMOVE: the entry leaves the staging rule set. -/
def State.tcamRemove (s : State) (n : Nat) : State :=
  let e := A.ttcam n (s.cfSlot n)
  let i := s.staging n
  if s.on (A.cf n) CF_EPOCH_RETIRING then s.cfStatus n stBusyEpoch
  else if (s.get e CF_EIN_IN).testBit i then
    (s.put e CF_EIN_IN (s.get e CF_EIN_IN - 2 ^ i)).cfStatus n stOK
  else s.cfStatus n stNOP

/-- COMMIT_EPOCH: the staging rule set becomes current (R229). -/
def State.commitEpoch (s : State) (n : Nat) : State :=
  let b := A.cf n
  if s.on b CF_EPOCH_RETIRING then s.cfStatus n stBusyEpoch
  else ((s.put b CF_EPOCH_CURRENT (s.staging n)).put b CF_EPOCH_RETIRING 1).cfStatus n stOK

/-- CLEAR_HITS: the entry's hit counter returns to 0. -/
def State.clearHits (s : State) (n : Nat) : State :=
  (s.put (A.ttcam n (s.cfSlot n)) CF_EHITS_HITS 0).cfStatus n stOK

/-- A command of CF_ECMD, by its OP. -/
def State.cfCommand (s : State) (n op : Nat) : State :=
  match op with
  | 1 => s.cfRead n
  | 2 => s.tcamAdd n
  | 3 => s.tcamRemove n
  | 4 => s.commitEpoch n
  | 5 => s.clearHits n
  | _ => s.cfStatus n stBadValue

/-- CF_READ. -/
def execCfRead (n : Nat) (s : State) : Host.Outcome State Fault Refusal := .next (s.atSlice n (·.cfRead n))
/-- ADD. -/
def execAdd (n : Nat) (s : State) : Host.Outcome State Fault Refusal := .next (s.atSlice n (·.tcamAdd n))
/-- REMOVE. -/
def execRemove (n : Nat) (s : State) : Host.Outcome State Fault Refusal := .next (s.atSlice n (·.tcamRemove n))
/-- COMMIT_EPOCH. -/
def execCommitEpoch (n : Nat) (s : State) : Host.Outcome State Fault Refusal := .next (s.atSlice n (·.commitEpoch n))
/-- CLEAR_HITS. -/
def execClearHits (n : Nat) (s : State) : Host.Outcome State Fault Refusal := .next (s.atSlice n (·.clearHits n))

/-! ## Retirement (R229) -/

/-- No frame of slice `n` stamped with epoch `e` waits for its second pass. -/
def State.epochClear (s : State) (n e : Nat) : Bool :=
  (List.range 8).all (fun k => (SMap.get [] s.recirc (n * 8 + k)).all (fun r => r.epoch != e))

/-- The old epoch is retired: memberships follow the current rule set, and entries in neither are free. -/
def State.retire (s : State) (n : Nat) : State :=
  let c := s.get (A.cf n) CF_EPOCH_CURRENT
  if s.on (A.cf n) CF_EPOCH_RETIRING && s.epochClear n (1 - c) then
    let s := (s.tcamSlots n).foldl (fun s i =>
      let b := A.ttcam n i
      s.put b CF_EIN_IN (if (s.get b CF_EIN_IN).testBit c then 3 else 0)) s
    s.put (A.cf n) CF_EPOCH_RETIRING 0
  else s

/-- EPOCH_RETIRE. -/
def execEpochRetire (n : Nat) (s : State) : Host.Outcome State Fault Refusal := .next (s.atSlice n (·.retire n))

end Sys2Proof.Machine
end

