-- ==== Sys2Proof/Machine/Streams.lean ====
section
/-!
DEFINITION. The stream table's batches, replicas and counters: the ST_CMD and ST_GRP_CMD commands
(spec/08_parse_classify.md R233–R241, R245).
-/

namespace Sys2Proof.Machine

/-! ## Results -/

/-- The result of an ST_CMD through slice `n`. -/
def State.stResult (s : State) (n tag status fail : Nat) : State :=
  let b := A.st n
  let s := (s.put b ST_RESULT_TAG tag).put b ST_RESULT_STAGED s.batch.length
  (s.put b ST_RESULT_FAIL_INDEX fail).put b ST_RESULT_STATUS status

/-- ST_NOP. -/
def execStNop (n tag : Nat) (s : State) : Host.Outcome State Fault Refusal :=
  .next (s.atSlice n (·.stResult n tag stNOP 0))

/-- ST_CMD READ: this slice's replica entry goes to ST_W0–ST_W3. -/
def State.stRead (s : State) (n tag : Nat) : State :=
  (s.copyWords (A.st n) (A.tstream n (s.get (A.st n) ST_IDX_INDEX)) 0x18 4).stResult n tag stOK 0

/-- ST_READ. -/
def execStRead (n tag : Nat) (s : State) : Host.Outcome State Fault Refusal := .next (s.atSlice n (·.stRead n tag))

/-- ST_CMD READ_COUNTS: the stream's counters go to ST_CNT_W. -/
def State.readCounts (s : State) (n tag : Nat) : State :=
  (s.copyWords (A.st n) (A.tstcnt 0 (s.get (A.st n) ST_IDX_INDEX)) 0x80 6).stResult n tag stOK 0

/-- READ_COUNTS. -/
def execReadCounts (n tag : Nat) (s : State) : Host.Outcome State Fault Refusal := .next (s.atSlice n (·.readCounts n tag))

/-- The bit BLOCKED of an entry in the replica of slice `n`. -/
def State.setBlocked (s : State) (n x : Nat) (on : Bool) : State :=
  s.put (A.tstream n x) ⟨(ST_W_W 3).off, 46, 46⟩ (bit on)

/-- ST_CMD UNBLOCK: BLOCKED of the entry clears on every slice. -/
def State.unblock (s : State) (n tag : Nat) : State :=
  let x := s.get (A.st n) ST_IDX_INDEX
  ((List.range 8).foldl (fun s m => s.setBlocked m x false) s).stResult n tag stOK 0

/-- UNBLOCK. -/
def execUnblock (n tag : Nat) (s : State) : Host.Outcome State Fault Refusal := .next (s.atSlice n (·.unblock n tag))

/-! ## Staging (R237) -/

/-- Put an item into the batch: a later one of the same index replaces the earlier one; at most 256. -/
def stageItem (x : BatchItem) (b : List BatchItem) : Option (List BatchItem) :=
  let same := fun (y : BatchItem) => y.group == x.group && y.index == x.index
  if b.any same then some (b.map (fun y => if same y then x else y))
  else if b.length < 256 then some (b ++ [x])
  else none

/-- ST_CMD STAGE: the window's entry joins the batch; BLOCKED is no part of it. -/
def State.stStage (s : State) (n tag : Nat) : State :=
  let b := A.st n
  let w3 := s.get b (ST_W_W 3)
  let x : BatchItem := ⟨false, s.get b ST_IDX_INDEX,
    [s.get b (ST_W_W 0), s.get b (ST_W_W 1), s.get b (ST_W_W 2), if w3.testBit 46 then w3 - 2 ^ 46 else w3]⟩
  match stageItem x s.batch with
  | some q => ({ s with batch := q }).stResult n tag stOK 0
  | none => s.stResult n tag stQueueFull 0

/-- STAGE. -/
def execStage (n tag : Nat) (s : State) : Host.Outcome State Fault Refusal := .next (s.atSlice n (·.stStage n tag))

/-- ST_CMD ABORT: the batch is emptied. -/
def State.stAbort (s : State) (n tag : Nat) : State :=
  if s.batch.isEmpty then s.stResult n tag stNOP 0 else ({ s with batch := [] }).stResult n tag stOK 0

/-- ABORT. -/
def execStAbort (n tag : Nat) (s : State) : Host.Outcome State Fault Refusal := .next (s.atSlice n (·.stAbort n tag))

/-- ST_GRP_CMD READ: the group goes to the window. -/
def State.groupRead (s : State) (n : Nat) : State :=
  (s.copyWords (A.st n) (A.tgroup n (s.get (A.st n) ST_GRP_IDX_GROUP)) 0x110 8).put (A.st n) ST_GRP_CMD_STATUS stOK

/-- ST_GRP_READ. -/
def execStGrpRead (n : Nat) (s : State) : Host.Outcome State Fault Refusal := .next (s.atSlice n (·.groupRead n))

/-- ST_GRP_CMD STAGE: the window's group joins the batch. -/
def State.groupStage (s : State) (n : Nat) : State :=
  let b := A.st n
  let x : BatchItem := ⟨true, s.get b ST_GRP_IDX_GROUP, (List.range 8).map (fun k => s.get b (ST_GRP_W_LANES k))⟩
  match stageItem x s.batch with
  | some q => (({ s with batch := q }).put b ST_RESULT_STAGED q.length).put b ST_GRP_CMD_STATUS stOK
  | none => s.put b ST_GRP_CMD_STATUS stQueueFull

/-- ST_GRP_STAGE. -/
def execStGrpStage (n : Nat) (s : State) : Host.Outcome State Fault Refusal := .next (s.atSlice n (·.groupStage n))

/-! ## The checks of COMMIT (R237) -/

/-- Reserved bits of a staged entry are 0. -/
def entryReservedOk (ws : List Nat) : Bool :=
  bitsOf (ws.getD 0 0) 53 52 == 0 && bitsOf (ws.getD 0 0) 40 32 == 0 && bitsOf (ws.getD 1 0) 17 0 == 0 &&
    bitsOf (ws.getD 2 0) 18 0 == 0 && bitsOf (ws.getD 3 0) 45 0 == 0

/-- A staged entry passes the first check. -/
def State.entryOk (s : State) (ws : List Nat) : Bool :=
  let e := entryOf (ws.getD 0 0) (ws.getD 1 0) (ws.getD 2 0) (ws.getD 3 0)
  entryReservedOk ws &&
    (!e.valid || (decide (e.kind ≤ 2) && decide (e.cell < s.get A.sc SC_INFO_CELLS) && (e.isGroup || s.isPort e.egress)))

/-- A staged group names only first lanes of configured ports. -/
def State.groupOk (s : State) (ws : List Nat) : Bool :=
  ws.zipIdx.all (fun e => (List.range 64).all (fun i => !e.1.testBit i || s.isPort (e.2 * 64 + i)))

/-- Store an item in replica `n` (8: the golden copy); BLOCKED stays as it is there. -/
def State.applyItem (s : State) (n : Nat) (x : BatchItem) : State :=
  if x.group then x.words.zipIdx.foldl (fun s e => s.put (A.tgroup n x.index) (ST_GRP_W_LANES e.2) e.1) s
  else
    let blocked := (s.entryWord n x.index 3).testBit 46
    (x.words.zipIdx.foldl (fun s e => s.put (A.tstream n x.index) (ST_W_W e.2) e.1) s).setBlocked n x.index blocked

/-- Store items in replica `n`. -/
def State.applyItems (s : State) (n : Nat) (xs : List BatchItem) : State := xs.foldl (fun s x => s.applyItem n x) s

/-- The VALID REPLAY entries of replica `n` as STREAM_ID and index. -/
def State.replayIds (s : State) (n : Nat) : List (Nat × Nat) :=
  let lo := A.tstream n 0 + (ST_W_W 0).off
  s.words.filterMap (fun e =>
    if lo ≤ e.1 ∧ e.1 < lo + 0x100 * 262144 ∧ (e.1 - lo) % 0x100 = 0 ∧ bitsOf e.2.toNat 63 63 = 1 ∧
        bitsOf e.2.toNat 62 61 = 1 then some (bitsOf e.2.toNat 31 0, (e.1 - lo) / 0x100)
    else none)

/-- A staged entry would share its STREAM_ID with another VALID REPLAY entry of the golden copy `t`. -/
def State.sharesId (t : State) (x : BatchItem) : Bool :=
  let e := t.entry 8 x.index
  !x.group && e.valid && e.kind == 1 && (t.replayIds 8).any (fun r => r.1 == e.streamId && r.2 != x.index)

/-- R26 holds for every enabled cell on the golden copy. -/
def State.horizonsOk (t : State) : Bool :=
  (List.range (t.get A.sc SC_INFO_CELLS)).all (fun c =>
    !t.on (A.scc c) SC_CELL_CTRL_EN || t.horizonOk c (t.get (A.scc c) SC_HORIZON_NS))

/-- The batch fails its checks: status and FAIL_INDEX. -/
def State.batchFail (s : State) : Option (Nat × Nat) :=
  let at_ := fun (x : BatchItem) => some (stBadValue, x.index)
  let t := s.applyItems 8 s.batch
  match s.batch.find? (fun x => !x.group && !s.entryOk x.words) with
  | some x => at_ x
  | none => match s.batch.find? (fun x => x.group && !s.groupOk x.words) with
  | some x => at_ x
  | none => match s.batch.find? t.sharesId with
  | some x => at_ x
  | none =>
    if !t.horizonsOk then
      some (stBadValue, (((List.range s.batch.length).find? (fun k =>
        !(s.applyItems 8 (s.batch.take (k + 1))).horizonsOk)).bind (fun k => (s.batch[k]?).map (·.index))).getD 0)
    else if s.update.isSome then some (stChangeLocked, 0)
    else none

/-- The slices that take a batch at its apply instant; one that is being rebuilt reloads the golden copy instead. -/
def State.liveSlices (s : State) : List Nat :=
  (List.range 8).filter (fun n => s.isSlice n && [0, 1, 4].contains (s.sliceState n))

/-- ST_CMD COMMIT. -/
def State.stCommit (s : State) (n tag : Nat) : State :=
  if s.batch.isEmpty then s.stResult n tag stNOP 0
  else match s.batchFail with
    | some (st, i) => s.stResult n tag st i
    | none =>
      let e := (s.get (A.st n) ST_EPOCH_COMMITTED + 1) % 2 ^ 32
      let u : Update := ⟨s.batch, e, s.nowQ + nsQ (s.get (A.st n) ST_CTRL_APPLY_LEAD_NS), s.liveSlices⟩
      let s := { s with batch := [], update := if u.slices.isEmpty then none else some u }
      let s := if u.slices.isEmpty then s.applyItems 8 u.items else s
      let s := (List.range 8).foldl (fun s m => s.put (A.st m) ST_EPOCH_COMMITTED e) s
      s.stResult n tag stOK 0

/-- ST_COMMIT. -/
def execStCommit (n tag : Nat) (s : State) : Host.Outcome State Fault Refusal := .next (s.atSlice n (·.stCommit n tag))

/-- A command of ST_CMD, by its OP. -/
def State.stCommand (s : State) (n op tag : Nat) : State :=
  match op with
  | 0 => s.stResult n tag stNOP 0
  | 1 => s.stRead n tag
  | 2 => s.stStage n tag
  | 3 => s.stCommit n tag
  | 4 => s.stAbort n tag
  | 5 => s.readCounts n tag
  | 6 => s.unblock n tag
  | _ => s.stResult n tag stBadValue 0

/-- A command of ST_GRP_CMD, by its OP. -/
def State.groupCommand (s : State) (n op : Nat) : State :=
  match op with
  | 1 => s.groupRead n
  | 2 => s.groupStage n
  | _ => s.put (A.st n) ST_GRP_CMD_STATUS stBadValue

/-! ## Apply (R237, R238) -/

/-- Slice `n` applies the committed batch, whose golden copy is written with it. -/
def State.applyUpdate (s : State) (n : Nat) (u : Update) : State :=
  let s := (s.applyItems 8 u.items).applyItems n u.items
  let s := (s.put (A.st n) ST_EPOCH_APPLIED u.epoch).put (A.st n) ST_APPLY_NS (shortOf u.at_)
  let left := u.slices.filter (fun m => m != n)
  { s with update := if left.isEmpty then none else some { u with slices := left } }

/-- BATCH_APPLY: at or after t_a slice `n`, which holds the batch intact, applies all of it between two lookups. -/
def State.batchApply (s : State) (n : Nat) : State :=
  match s.update with
  | some u => if u.slices.contains n ∧ u.at_ ≤ s.nowQ then s.applyUpdate n u else s
  | none => s

/-- BATCH_APPLY. -/
def execBatchApply (n : Nat) (s : State) : Host.Outcome State Fault Refusal := .next (s.batchApply n)

/-- LATE_APPLY: the batch reaches slice `n` intact only after t_a; it applies it then, counts and journals it. -/
def State.lateApply (s : State) (n : Nat) : State :=
  match s.update with
  | some u =>
    if u.slices.contains n ∧ u.at_ < s.nowQ then
      ((s.applyUpdate n u).bump (A.st n) ST_CNT_LATE_APPLY_COUNT).reportOther (srcSlice n 2) objSlice n 0
    else s
  | none => s

/-- LATE_APPLY. -/
def execLateApply (n : Nat) (s : State) : Host.Outcome State Fault Refusal := .next (s.lateApply n)

/-! ## Counters of a stream (R245) -/

/-- Count in counter `k` of stream `x`: 0 MATCHED, 1 PASSED, 2 SDU_DROP, 3 GATE_DROP, 4 METER_DROP. -/
def State.stCount (s : State) (x k : Nat) : State := s.bump (A.tstcnt 0 x) (ST_CNT_W_COUNT k)

end Sys2Proof.Machine
end

