-- ==== Sys2Proof/Machine/StreamGates.lean ====
section
/-!
DEFINITION. Stream gates and flow meters: their lists, commands, and what they say of a frame
(spec/08_parse_classify.md R241–R244).
-/

namespace Sys2Proof.Machine

/-! ## Stream gate lists (R242, R243) -/

/-- Stream gate `g` of slice `n`. -/
def State.sgate (s : State) (n g : Nat) : SGate := SMap.get {} s.sgates (n * 65536 + g)

/-- Store a stream gate. -/
def State.setSgate (s : State) (n g : Nat) (x : SGate) : State :=
  { s with sgates := SMap.set {} (n * 65536 + g) x s.sgates }

/-- Store the lists of a stream gate. -/
def State.setSgLists (s : State) (n g : Nat) (x : GateLists) : State := s.setSgate n g { s.sgate n g with lists := x }

/-- STATE of an entry. -/
def sgOpen (e : Nat) : Bool := e.testBit 63
/-- IPV, if IPV_EN. -/
def sgIpv (e : Nat) : Option Nat := optField e 62 61 59
/-- OCTET_MAX, if OCTET_EN. -/
def sgOctets (e : Nat) : Option Nat := optField e 58 57 32

/-- The admin list of a gate. -/
def State.sgAdmin (s : State) (n g : Nat) : GateSet where
  base := ofStamp (s.get (A.tsgate n g) ST_SG_BASE_SEC_SEC) (s.get (A.tsgate n g) ST_SG_BASE_NS_NS) 0
  cycle := s.get (A.tsgate n g) ST_SG_CYCLE_NS
  ext := s.get (A.tsgate n g) ST_SG_EXT_NS
  entries := (List.range (s.get (A.tsgate n g) ST_SG_LEN_LEN)).map (SMap.get 0 (s.sgate n g).lists.admin)

/-- The result of an executed ST_SG_CMD on gate `g`. -/
def State.sgResult (s : State) (n g tag status : Nat) (adjusted replaced : Bool) : State :=
  let b := A.tsgate n g
  let s := (s.put b ST_SG_RESULT_TAG tag).inc b ST_SG_RESULT_RESULT_SEQ 1
  let s := (s.put b ST_SG_RESULT_REPLACED (bit replaced)).put b ST_SG_RESULT_BASE_ADJUSTED (bit adjusted)
  s.put b ST_SG_RESULT_STATUS status

/-- Show a ConfigChangeTime. -/
def State.sgShowCct (s : State) (n g q : Nat) : State :=
  (s.put (A.tsgate n g) ST_SG_CCT_SEC_SEC (secOf q)).put (A.tsgate n g) ST_SG_CCT_NS_NS (nsOf q)

/-- Entry places that a list of a gate holds. -/
def poolOf (x : GateLists) (oper : Bool) : Nat :=
  if oper then ((x.oper.map (·.entries.length)).getD 0) else ((x.pending.map (·.1.entries.length)).getD 0)

/-- Entry places in use on slice `n`, in the oper or pending bank. -/
def State.sgPool (s : State) (n : Nat) (oper : Bool) : Nat :=
  s.sgates.foldl (fun k e => if e.1 / 65536 = n then k + poolOf e.2.lists oper else k) 0

/-- The pool would be exceeded in the pending bank now, or in the oper bank once the list takes effect. -/
def State.sgPoolFull (s : State) (n g len : Nat) : Bool :=
  let x := (s.sgate n g).lists
  decide (262144 < s.sgPool n false - poolOf x false + len ∨ 262144 < s.sgPool n true - poolOf x true + len)

/-- Show the pool of slice `n`. -/
def State.sgShowPool (s : State) (n : Nat) : State :=
  (s.put (A.st n) ST_SG_POOL_PENDING_USED (s.sgPool n false)).put (A.st n) ST_SG_POOL_OPER_USED (s.sgPool n true)

/-- CONFIG_CHANGE. -/
def State.sgChange (s : State) (n g tag : Nat) : State :=
  let x := s.sgAdmin n g
  let y := (s.sgate n g).lists
  let st := commitStatus x 1024 (fun _ => true) y.pending s.nowQ
  if st ≠ stOK then s.sgResult n g tag st false false
  else if s.sgPoolFull n g x.entries.length then s.sgResult n g tag stQueueFull false false
  else
    let k := changeN x.base x.cycle (s.nowQ + nsQ 2000)
    let cct := x.base + k * nsQ x.cycle
    let s := (s.setSgLists n g { y with pending := some (x, cct) }).sgShowCct n g cct
    ((s.put (A.tsgate n g) ST_SG_STATUS_CONFIG_PENDING 1).sgShowPool n).sgResult n g tag stOK (decide (0 < k)) y.pending.isSome

/-- SG_CONFIG_CHANGE. -/
def execSgConfigChange (n g tag : Nat) (s : State) : Host.Outcome State Fault Refusal :=
  .next (s.atSlice n (·.sgChange n g tag))

/-- CANCEL. -/
def State.sgCancel (s : State) (n g tag : Nat) : State :=
  let y := (s.sgate n g).lists
  match y.pending with
  | none => s.sgResult n g tag stNOP false false
  | some (_, cct) =>
    if cct < s.nowQ + nsQ 2000 then s.sgResult n g tag stChangeLocked false false
    else
      let s := (s.setSgLists n g { y with pending := none }).sgShowCct n g y.lastCct
      ((s.put (A.tsgate n g) ST_SG_STATUS_CONFIG_PENDING 0).sgShowPool n).sgResult n g tag stOK false false

/-- SG_CANCEL. -/
def execSgCancel (n g tag : Nat) (s : State) : Host.Outcome State Fault Refusal := .next (s.atSlice n (·.sgCancel n g tag))

/-- CLEAR: a gate held closed is released. -/
def State.sgClear (s : State) (n g tag : Nat) : State :=
  let b := A.tsgate n g
  ((s.put b ST_SG_STATUS_CLOSED_OCTETS 0).put b ST_SG_STATUS_CLOSED_INV_RX 0).sgResult n g tag stOK false false

/-- SG_CLEAR. -/
def execSgClear (n g tag : Nat) (s : State) : Host.Outcome State Fault Refusal := .next (s.atSlice n (·.sgClear n g tag))

/-- SG_NOP: OP none. -/
def execSgNop (n g tag : Nat) (s : State) : Host.Outcome State Fault Refusal :=
  .next (s.atSlice n (·.sgResult n g tag stNOP false false))

/-- A committed ST_SG_CMD, by its OP. -/
def State.sgCmd (s : State) (n g op tag : Nat) : State :=
  match op with
  | 0 => s.sgResult n g tag stNOP false false
  | 1 => s.sgChange n g tag
  | 2 => s.sgCancel n g tag
  | _ => s.sgClear n g tag

/-! ## Entries in force -/

/-- The oper entry of a gate in force at `q`, with the instant it began; none before its first list runs and while EN
is 0. -/
def State.sgEntryAt (s : State) (n g q : Nat) : Option (Nat × Nat × Nat) :=
  let x := (s.sgate n g).lists
  match x.oper with
  | some o => if s.on (A.tsgate n g) ST_SG_CTRL_EN then operAt o (x.pending.map (·.2)) q else none
  | none => none

/-- SG_ENTRY_START: the entry that is due begins, with its own octet allowance. -/
def State.sgEntry (s : State) (n g : Nat) : State :=
  let x := s.sgate n g
  let b := A.tsgate n g
  match s.sgEntryAt n g s.nowQ with
  | none => s
  | some (i, e, t) =>
    if x.lists.entryAt = some t then s
    else
      let s := s.setSgate n g { lists := { x.lists with entryAt := some t }, octets := 0 }
      (s.put b ST_SG_STATUS_OPEN (bit (sgOpen e))).put b ST_SG_STATUS_CUR_ENTRY i

/-- SG_ENTRY_START. -/
def execSgEntryStart (n g : Nat) (s : State) : Host.Outcome State Fault Refusal := .next (s.atSlice n (·.sgEntry n g))

/-- A written ST_SG_CTRL takes effect: without EN the gate shows its initial state. -/
def State.sgControl (s : State) (n g : Nat) : State :=
  let x := s.sgate n g
  let b := A.tsgate n g
  if s.on b ST_SG_CTRL_EN then s.sgEntry n g
  else
    let s := s.setSgLists n g { x.lists with entryAt := none }
    (s.put b ST_SG_STATUS_OPEN (s.get b ST_SG_CTRL_INIT_STATE)).put b ST_SG_STATUS_CUR_ENTRY 0

/-- SG_CONFIG_CHANGE_TIME: the pending list becomes oper. -/
def State.sgApply (s : State) (n g : Nat) : State :=
  let x := (s.sgate n g).lists
  match x.pending with
  | none => s
  | some (p, cct) =>
    if s.nowQ < cct then s
    else
      let s := s.setSgLists n g { x with pending := none, oper := some p, entryAt := none, lastCct := cct }
      ((s.put (A.tsgate n g) ST_SG_STATUS_CONFIG_PENDING 0).sgShowPool n).sgEntry n g

/-- SG_CONFIG_CHANGE_TIME. -/
def execSgConfigChangeTime (n g : Nat) (s : State) : Host.Outcome State Fault Refusal := .next (s.atSlice n (·.sgApply n g))

/-! ## The list window (R9) -/

/-- The gate that the window of slice `n` selects. -/
def State.sgSel (s : State) (n : Nat) : Nat := s.get (A.st n) ST_SG_SEL_GATE

/-- The entry at BANK and INDEX. -/
def State.sgData (s : State) (n : Nat) : Nat :=
  let x := (s.sgate n (s.sgSel n)).lists
  let i := s.get (A.st n) ST_SG_SEL_INDEX
  match s.get (A.st n) ST_SG_SEL_BANK with
  | 0 => SMap.get 0 x.admin i
  | 1 => ((x.oper.map (·.entries)).getD []).getD i 0
  | _ => ((x.pending.map (·.1.entries)).getD []).getD i 0

/-- Advance INDEX under AUTO_INC. -/
def State.sgNext (s : State) (n : Nat) : State :=
  if s.on (A.st n) ST_SG_SEL_AUTO_INC then s.inc (A.st n) ST_SG_SEL_INDEX 1 else s

/-- SG_DATA_READ: the entry appears at the register's value address, and INDEX advances. -/
def execSgDataRead (n : Nat) (s : State) : Host.Outcome State Fault Refusal :=
  .next (s.atSlice n (fun s => (s.put (A.st n) ST_SG_DATA_ENTRY (s.sgData n)).sgNext n))

/-- A pair committed to ST_SG_DATA. -/
def State.sgDataWrite (s : State) (n v : Nat) : State :=
  if s.get (A.st n) ST_SG_SEL_BANK = 0 then
    let g := s.sgSel n
    let x := (s.sgate n g).lists
    (s.setSgLists n g { x with admin := SMap.set 0 (s.get (A.st n) ST_SG_SEL_INDEX) v x.admin }).sgNext n
  else s

/-! ## Flow meters (R244) -/

/-- Meter `m` of slice `n`. -/
def State.meter (s : State) (n m : Nat) : Meter := SMap.get {} s.meters (n * 65536 + m)

/-- Store a meter. -/
def State.setMeter (s : State) (n m : Nat) (x : Meter) : State :=
  { s with meters := SMap.set {} (n * 65536 + m) x s.meters }

/-- ST_FM_CMD READ. -/
def State.fmRead (s : State) (n : Nat) : State :=
  (s.copyWords (A.st n) (A.tmeter n (s.get (A.st n) ST_FM_IDX_METER)) 0x310 3).put (A.st n) ST_FM_CMD_STATUS stOK

/-- FM_READ. -/
def execFmRead (n : Nat) (s : State) : Host.Outcome State Fault Refusal := .next (s.atSlice n (·.fmRead n))

/-- ST_FM_CMD WRITE: the meter takes the window's values, and its buckets are full. -/
def State.fmWrite (s : State) (n : Nat) : State :=
  let m := s.get (A.st n) ST_FM_IDX_METER
  let b := A.tmeter n m
  let red := s.get b ST_FM_W2_MARK_RED
  let s := (s.copyWords b (A.st n) 0x310 3).put b ST_FM_W2_MARK_RED red
  let s := s.setMeter n m ⟨s.get b ST_FM_W0_CBS * 8000, s.get b ST_FM_W1_EBS * 8000, s.time.clk⟩
  s.put (A.st n) ST_FM_CMD_STATUS stOK

/-- FM_WRITE. -/
def execFmWrite (n : Nat) (s : State) : Host.Outcome State Fault Refusal := .next (s.atSlice n (·.fmWrite n))

/-- ST_FM_CMD CLEAR_RED. -/
def State.fmClearRed (s : State) (n : Nat) : State :=
  (s.put (A.tmeter n (s.get (A.st n) ST_FM_IDX_METER)) ST_FM_W2_MARK_RED 0).put (A.st n) ST_FM_CMD_STATUS stOK

/-- CLEAR_RED. -/
def execClearRed (n : Nat) (s : State) : Host.Outcome State Fault Refusal := .next (s.atSlice n (·.fmClearRed n))

/-- A command of ST_FM_CMD, by its OP. -/
def State.fmCommand (s : State) (n op : Nat) : State :=
  match op with
  | 1 => s.fmRead n
  | 2 => s.fmWrite n
  | 3 => s.fmClearRed n
  | _ => s.put (A.st n) ST_FM_CMD_STATUS stBadValue

/-- The colour of a frame of `len` bytes whose last bit arrives at tick `t`: 0 green, 1 yellow, 2 red; and the settled
meter. -/
def State.fmColour (s : State) (n m len t : Nat) (dei : Bool) : Nat × State :=
  let b := A.tmeter n m
  let x := s.meter n m
  let dt := t - x.at_
  let full := x.tc + s.get b ST_FM_W0_CIR_KBPS * dt
  let cbs := s.get b ST_FM_W0_CBS * 8000
  let spill := if s.on b ST_FM_W2_CF then full - cbs else 0
  let tc := min cbs full
  let te := min (s.get b ST_FM_W1_EBS * 8000) (x.te + s.get b ST_FM_W1_EIR_KBPS * dt + spill)
  let k := len * 8000
  let y : Meter := ⟨tc, te, max t x.at_⟩
  if s.on b ST_FM_W2_MARK_RED then (2, s.setMeter n m y)
  else if !(s.on b ST_FM_W2_CM && dei) && decide (k ≤ tc) then (0, s.setMeter n m { y with tc := tc - k })
  else if k ≤ te then (1, s.setMeter n m { y with te := te - k })
  else (2, s.setMeter n m y)

/-! ## What filter, gate and meter say of a frame (R241) -/

/-- What became of a frame: passed with its bytes, or dropped, with its cause of R279. -/
inductive Policed where
  | pass (bytes : Bytes)
  | drop (cause : Nat)
  deriving DecidableEq, Repr

/-- The stream filter of slice `n`; true if the frame passes. -/
def State.filter (s : State) (n x : Nat) (e : Entry) (len : Nat) : Bool × State :=
  let big := e.maxSdu != 0 && decide (e.maxSdu < len)
  if e.blocked || big then
    let s := if big && e.blockOver then s.setBlocked n x true else s
    (false, s.stCount x 2)
  else (true, s)

/-- A gate drop, which may hold the gate closed. -/
def State.gateDrop (s : State) (n g x : Nat) (octets : Bool) : State :=
  let b := A.tsgate n g
  let s := if octets then (if s.on b ST_SG_CTRL_OCT_CLOSE_EN then s.put b ST_SG_STATUS_CLOSED_OCTETS 1 else s)
    else if s.on b ST_SG_CTRL_INV_RX_EN then s.put b ST_SG_STATUS_CLOSED_INV_RX 1 else s
  s.stCount x 3

/-- The stream gate `g` judges a frame of stream `x` by its entry at the first bit; true if it passes. -/
def State.gateJudge (s : State) (n g x len q : Nat) : Bool × State :=
  let s := s.sgEntry n g
  let b := A.tsgate n g
  let held := s.on b ST_SG_STATUS_CLOSED_OCTETS || s.on b ST_SG_STATUS_CLOSED_INV_RX
  match s.sgEntryAt n g q with
  | none =>
    if !s.on b ST_SG_CTRL_INIT_STATE then (false, s.gateDrop n g x false)
    else if held then (false, s.stCount x 3) else (true, s)
  | some (_, e, _) =>
    let y := s.sgate n g
    if !sgOpen e then (false, s.gateDrop n g x false)
    else if held then (false, s.stCount x 3)
    else match sgOctets e with
      | some m =>
        if m < y.octets + len then (false, s.gateDrop n g x true)
        else (true, s.setSgate n g { y with octets := y.octets + len })
      | none => (true, s.setSgate n g { y with octets := y.octets + len })

/-- The IPV of the gate entry in force at `q`, if one applies (R227, R242). -/
def State.gateIpv (s : State) (n g q : Nat) : Option Nat :=
  match s.sgEntryAt n g q with
  | some (_, e, _) => sgIpv e
  | none => if s.on (A.tsgate n g) ST_SG_CTRL_INIT_IPV_EN then some (s.get (A.tsgate n g) ST_SG_CTRL_INIT_IPV) else none

/-- Set DEI of the outer tag of a tagged frame with FCS. -/
def setDei (tpids : List Nat) (b : Bytes) : Bytes :=
  if tpids.contains (rd b 12 2) then
    let x := b.take (b.length - 4)
    withFcs (wr x 14 (be 2 (rd x 14 2 ||| 0x1000)))
  else b

/-- The meter `m` judges a frame. -/
def State.meterJudge (s : State) (n m x t : Nat) (b : Bytes) : Policed × State :=
  let tp := s.tpids n
  let dei := tp.contains (rd b 12 2) && (rd b 14 2).testBit 12
  let a := A.tmeter n m
  match s.fmColour n m b.length t dei with
  | (0, s) => (.pass b, s)
  | (1, s) => if s.on a ST_FM_W2_DROP_YELLOW then (.drop 4, s.stCount x 4) else (.pass (setDei tp b), s)
  | (_, s) =>
    let s := if s.on a ST_FM_W2_MARK_RED_EN then s.put a ST_FM_W2_MARK_RED 1 else s
    (.drop 4, s.stCount x 4)

/-- Filter, gate and meter in order (R241); `q` is the frame's first-bit instant and `t` the tick of its last bit. -/
def State.police (s : State) (n x : Nat) (e : Entry) (q t : Nat) (b : Bytes) : Policed × State :=
  match s.filter n x e b.length with
  | (false, s) => (.drop 2, s)
  | (true, s) =>
    let r := match e.gate with
      | some g => s.gateJudge n g x b.length q
      | none => (true, s)
    match r with
    | (false, s) => (.drop 3, s)
    | (true, s) =>
      let r := match e.meter with
        | some m => s.meterJudge n m x t b
        | none => (.pass b, s)
      match r with
      | (.pass c, s) => (.pass c, s.stCount x 1)
      | (.drop c, s) => (.drop c, s)

end Sys2Proof.Machine
end

