-- ==== Sys2Proof/Machine/Frer.lean ====
section
/-!
DEFINITION. Sequence generation and recovery of IEEE 802.1CB, and their commands (spec/09_redundancy.md R247–R256).
-/

namespace Sys2Proof.Machine

/-- An operation on every slice that the module has. -/
def State.everySlice (s : State) (f : Nat → State → State) : State :=
  (List.range 8).foldl (fun s n => if s.isSlice n then f n s else s) s

/-! ## Generation (R251) -/

/-- The number that generation function `g` of slice `n` gives a frame of cell `c`. -/
def State.generate (s : State) (n g c : Nat) : Option Nat × State :=
  let b := A.tgenf n g
  if !s.on b FR_GEN_W0_EN then (none, s)
  else if s.get b FR_GEN_W0_MODE = 0 then
    let q := s.get b FR_GEN_W0_NEXT
    (some q, (s.put b FR_GEN_W0_NEXT (q + 1)).bump b FR_GEN_W1_COUNT)
  else if s.cellOn c then
    (some (s.get (s.cellBase c) CL_MATRIX_COUNT_COUNT % 65536), s.bump b FR_GEN_W1_COUNT)
  else (none, s)

/-- FR_GEN_CMD READ. -/
def State.genRead (s : State) (n : Nat) : State :=
  (s.copyWords (A.fr n) (A.tgenf n (s.get (A.fr n) FR_GEN_IDX_INDEX)) 0x18 2).put (A.fr n) FR_GEN_CMD_STATUS stOK

/-- FR_GEN_CMD WRITE: EN and MODE on every slice. -/
def State.genWrite (s : State) (n : Nat) : State :=
  let b := A.fr n
  let g := s.get b FR_GEN_IDX_INDEX
  let en := s.get b FR_GEN_W0_EN
  let mode := s.get b FR_GEN_W0_MODE
  (s.everySlice (fun m s => (s.put (A.tgenf m g) FR_GEN_W0_EN en).put (A.tgenf m g) FR_GEN_W0_MODE mode)).put b
    FR_GEN_CMD_STATUS stOK

/-- FR_GEN_CMD RESET: NEXT is 0 on every slice. -/
def State.genReset (s : State) (n : Nat) : State :=
  let g := s.get (A.fr n) FR_GEN_IDX_INDEX
  (s.everySlice (fun m s => s.put (A.tgenf m g) FR_GEN_W0_NEXT 0)).put (A.fr n) FR_GEN_CMD_STATUS stOK

/-- FR_GEN_READ. -/
def execFrGenRead (n : Nat) (s : State) : Host.Outcome State Fault Refusal := .next (s.atSlice n (·.genRead n))
/-- FR_GEN_WRITE. -/
def execFrGenWrite (n : Nat) (s : State) : Host.Outcome State Fault Refusal := .next (s.atSlice n (·.genWrite n))
/-- FR_GEN_RESET. -/
def execFrGenReset (n : Nat) (s : State) : Host.Outcome State Fault Refusal := .next (s.atSlice n (·.genReset n))

/-- A command of FR_GEN_CMD, by its OP. -/
def State.genCommand (s : State) (n op : Nat) : State :=
  match op with
  | 1 => s.genRead n
  | 2 => s.genWrite n
  | 3 => s.genReset n
  | _ => s.put (A.fr n) FR_GEN_CMD_STATUS stBadValue

/-! ## Recovery (R254, R255) -/

/-- Recovery instance `i` of slice `n` beyond its registers. -/
def State.rec_ (s : State) (n i : Nat) : RecState := SMap.get {} s.recs (n * 65536 + i)

/-- Store a recovery instance. -/
def State.setRec (s : State) (n i : Nat) (x : RecState) : State :=
  { s with recs := SMap.set {} (n * 65536 + i) x s.recs }

/-- Reset an instance. -/
def State.recReset (s : State) (n i : Nat) : State :=
  let b := A.trecf n i
  let s := ((s.put b FR_REC_W2_VALID 0).setRec n i { s.rec_ n i with hist := 0 }).bump b FR_REC_W9_RESETS
  s.raise (A.fr n) FR_EVENT_FLAGS 1

/-- No frame has passed for RESET_MS. -/
def State.recTimer (s : State) (n i : Nat) : State :=
  let b := A.trecf n i
  if s.on b FR_REC_W0_EN && s.on b FR_REC_W2_VALID &&
      decide (s.get b FR_REC_W0_RESET_MS * 1000000 ≤ s.since (s.rec_ n i).passAt) then s.recReset n i
  else s

/-- RECOVERY_RESET_TIMER. -/
def execRecoveryResetTimer (n i : Nat) (s : State) : Host.Outcome State Fault Refusal := .next (s.atSlice n (·.recTimer n i))

/-- A frame with number `q` passes: PASSED + 1, and the timer restarts. -/
def State.recPass (s : State) (n i q hist : Nat) : State :=
  let b := A.trecf n i
  let s := (s.bump b FR_REC_W3_PASSED).setRec n i { s.rec_ n i with hist := hist, passAt := s.time.clk }
  s.put b FR_REC_W2_REC_SEQ q

/-- Zero bits of `h` in positions `lo` to `hi - 1`. -/
def zeroBits (h lo hi : Nat) : Nat := ((List.range (hi - lo)).filter (fun k => !h.testBit (lo + k))).length

/-- Instance `i` of slice `n` judges the number `q`; true if the frame passes. -/
def State.recJudge (s : State) (n i q : Nat) : Bool × State :=
  let s := s.recTimer n i
  let b := A.trecf n i
  let cur := s.get b FR_REC_W2_REC_SEQ
  let d := sext 16 ((q + 65536 - cur) % 65536)
  let x := s.rec_ n i
  let len : Int := s.get b FR_REC_W0_HISTORY
  if !s.on b FR_REC_W2_VALID then (true, (s.recPass n i q 1).put b FR_REC_W2_VALID 1)
  else if s.on b FR_REC_W0_ALGO then
    if d = 0 then (false, s.bump b FR_REC_W4_DISCARDED)
    else
      let s := s.recPass n i q x.hist
      (true, if d = 1 then s else s.bump b FR_REC_W5_OUT_OF_ORDER)
  else if len ≤ d ∨ d ≤ -len then (false, s.bump b FR_REC_W6_ROGUE)
  else if d ≤ 0 then
    let k := (-d).toNat
    if x.hist.testBit k then (false, s.bump b FR_REC_W4_DISCARDED)
    else (true, (s.recPass n i cur (x.hist ||| 2 ^ k)).bump b FR_REC_W5_OUT_OF_ORDER)
  else
    let k := d.toNat
    let h := s.get b FR_REC_W0_HISTORY
    let s := s.add b FR_REC_W7_LOST (zeroBits x.hist (h - k) h)
    (true, s.recPass n i q ((x.hist * 2 ^ k + 1) % 2 ^ h))

/-- Recovery of a frame by function `f` on slice `n`: `rtag` is the received number and `gen` the generated one. -/
def State.recover (s : State) (n : Nat) (f rtag gen : Option Nat) : Bool × State :=
  match f with
  | none => (true, s)
  | some i =>
    let b := A.trecf n i
    if !s.on b FR_REC_W0_EN then (true, s)
    else match rtag.orElse (fun _ => gen) with
      | some q => s.recJudge n i q
      | none => (s.on b FR_REC_W0_TAKE_NO_SEQ, s.bump b FR_REC_W8_TAGLESS)

/-- FR_REC_CMD READ. -/
def State.recRead (s : State) (n : Nat) : State :=
  (s.copyWords (A.fr n) (A.trecf n (s.get (A.fr n) FR_REC_IDX_INDEX)) 0x50 11).put (A.fr n) FR_REC_CMD_STATUS stOK

/-- cur of R256. -/
def State.pathBalance (s : State) (n i : Nat) : Int :=
  let b := A.trecf n i
  let x := s.rec_ n i
  ((s.get b FR_REC_W3_PASSED : Int) - x.passed0) * ((s.get b FR_REC_W0_LAT_PATHS : Int) - 1) -
    ((s.get b FR_REC_W4_DISCARDED : Int) - x.discarded0)

/-- The base of the latent error test becomes the present balance. -/
def State.latentBase (s : State) (n i : Nat) : State :=
  (s.setRec n i { s.rec_ n i with base := s.pathBalance n i, baseAt := s.time.clk }).put (A.trecf n i) FR_REC_W2_LATENT 0

/-- The window's recovery words are in range. -/
def State.recWindowOk (s : State) (n : Nat) : Bool :=
  let b := A.fr n
  decide (2 ≤ s.get b FR_REC_W0_HISTORY ∧ s.get b FR_REC_W0_HISTORY ≤ 128 ∧ 1 ≤ s.get b FR_REC_W0_RESET_MS ∧
    2 ≤ s.get b FR_REC_W0_LAT_PATHS ∧ 1 ≤ s.get b FR_REC_W1_LAT_PERIOD_MS ∧ 1 ≤ s.get b FR_REC_W1_LAT_RESET_S)

/-- Configure instance `i` of slice `m` from the window of slice `n`. -/
def State.recStore (s : State) (n m i : Nat) : State :=
  let b := A.trecf m i
  let was := s.on b FR_REC_W0_EN
  let s := s.copyWords b (A.fr n) 0x50 2
  let x := s.rec_ m i
  let s := s.setRec m i { x with hist := x.hist % 2 ^ s.get b FR_REC_W0_HISTORY }
  if !was && s.on b FR_REC_W0_EN then
    let s := s.setRec m i { s.rec_ m i with
      passed0 := s.get b FR_REC_W3_PASSED, discarded0 := s.get b FR_REC_W4_DISCARDED, testAt := s.time.clk }
    s.latentBase m i
  else s

/-- FR_REC_CMD WRITE: W0 and W1 on every slice. -/
def State.recWrite (s : State) (n : Nat) : State :=
  if s.recWindowOk n then
    let i := s.get (A.fr n) FR_REC_IDX_INDEX
    (s.everySlice (fun m s => s.recStore n m i)).put (A.fr n) FR_REC_CMD_STATUS stOK
  else s.put (A.fr n) FR_REC_CMD_STATUS stBadValue

/-- FR_REC_CMD RESET on every slice. -/
def State.recResetAll (s : State) (n : Nat) : State :=
  let i := s.get (A.fr n) FR_REC_IDX_INDEX
  (s.everySlice (fun m s => s.recReset m i)).put (A.fr n) FR_REC_CMD_STATUS stOK

/-- Clear the counters of an instance; the latent error test goes on from the same balance. -/
def State.recClear (s : State) (n i : Nat) : State :=
  let b := A.trecf n i
  let x := s.rec_ n i
  let s := s.setRec n i { x with
    passed0 := x.passed0 - s.get b FR_REC_W3_PASSED, discarded0 := x.discarded0 - s.get b FR_REC_W4_DISCARDED }
  [FR_REC_W3_PASSED, FR_REC_W4_DISCARDED, FR_REC_W5_OUT_OF_ORDER, FR_REC_W6_ROGUE, FR_REC_W7_LOST, FR_REC_W8_TAGLESS,
    FR_REC_W9_RESETS, FR_REC_W10_LATENT_ERRORS].foldl (fun s f => s.put b f 0) s

/-- FR_REC_CMD CLEAR_COUNTS: the counters of this slice's instance. -/
def State.recClearCounts (s : State) (n : Nat) : State :=
  (s.recClear n (s.get (A.fr n) FR_REC_IDX_INDEX)).put (A.fr n) FR_REC_CMD_STATUS stOK

/-- FR_REC_READ. -/
def execFrRecRead (n : Nat) (s : State) : Host.Outcome State Fault Refusal := .next (s.atSlice n (·.recRead n))
/-- FR_REC_WRITE. -/
def execFrRecWrite (n : Nat) (s : State) : Host.Outcome State Fault Refusal := .next (s.atSlice n (·.recWrite n))
/-- FR_REC_RESET. -/
def execFrRecReset (n : Nat) (s : State) : Host.Outcome State Fault Refusal := .next (s.atSlice n (·.recResetAll n))
/-- FR_REC_CLEAR_COUNTS. -/
def execFrRecClearCounts (n : Nat) (s : State) : Host.Outcome State Fault Refusal :=
  .next (s.atSlice n (·.recClearCounts n))

/-- A command of FR_REC_CMD, by its OP. -/
def State.recCommand (s : State) (n op : Nat) : State :=
  match op with
  | 1 => s.recRead n
  | 2 => s.recWrite n
  | 3 => s.recResetAll n
  | 4 => s.recClearCounts n
  | _ => s.put (A.fr n) FR_REC_CMD_STATUS stBadValue

/-! ## The latent error test (R256) -/

/-- LATENT_ERROR_TEST of instance `i` on slice `n`, every LAT_PERIOD_MS. -/
def State.latentTest (s : State) (n i : Nat) : State :=
  let b := A.trecf n i
  let x := s.rec_ n i
  if s.on b FR_REC_W0_EN && s.on b FR_REC_W0_LAT_EN &&
      decide (s.get b FR_REC_W1_LAT_PERIOD_MS * 1000000 ≤ s.since x.testAt) then
    let s := s.setRec n i { x with testAt := s.time.clk }
    if s.get b FR_REC_W1_LAT_DIFF < (s.pathBalance n i - x.base).natAbs then
      let s := ((s.put b FR_REC_W2_LATENT 1).bump b FR_REC_W10_LATENT_ERRORS).raise (A.fr n) FR_EVENT_FLAGS 0
      s.reportOther (srcSlice n 9) objNone 0 0
    else s
  else s

/-- LATENT_ERROR_TEST. -/
def execLatentErrorTest (n i : Nat) (s : State) : Host.Outcome State Fault Refusal := .next (s.atSlice n (·.latentTest n i))

/-- LATENT_BASE_RESET of instance `i` on slice `n`, every LAT_RESET_S. -/
def State.latentReset (s : State) (n i : Nat) : State :=
  let b := A.trecf n i
  if s.on b FR_REC_W0_EN && s.on b FR_REC_W0_LAT_EN &&
      decide (s.get b FR_REC_W1_LAT_RESET_S * 1000000000 ≤ s.since (s.rec_ n i).baseAt) then s.latentBase n i
  else s

/-- LATENT_BASE_RESET. -/
def execLatentBaseReset (n i : Nat) (s : State) : Host.Outcome State Fault Refusal := .next (s.atSlice n (·.latentReset n i))

/-! ## The R-TAG on egress (R253) -/

/-- Offset of the EtherType after the VLAN tags, at most four (R216). -/
def rtagOffset (tpids : List Nat) (b : Bytes) : Nat := skipTags tpids 4 b 12

/-- The number of a received R-TAG. -/
def rtagSeq (tpids : List Nat) (b : Bytes) : Option Nat :=
  let o := rtagOffset tpids b
  if rd b o 2 = 0xF1C1 then some (rd b (o + 4) 2) else none

/-- The R-TAG handling of a live frame with FCS: `gen` is its generated number, `pop` says that its recovery function
removes the tag. -/
def retag (tpids : List Nat) (gen : Option Nat) (pop : Bool) (b : Bytes) : Bytes :=
  let o := rtagOffset tpids b
  let x := b.take (b.length - 4)
  let tagged := rd b o 2 == 0xF1C1
  match gen with
  | some q =>
    if tagged then withFcs (wr x (o + 4) (be 2 q))
    else withFcs (x.take o ++ be 2 0xF1C1 ++ be 2 0 ++ be 2 q ++ x.drop o)
  | none => if pop && tagged then withFcs (x.take o ++ x.drop (o + 6)) else b

end Sys2Proof.Machine
end

