-- ==== Sys2Proof/Machine/Guardian.lean ====
section
/-!
DEFINITION. The guardian of the time-triggered cells: verdicts, drift, forwarding at SOF + D, coldstart and substitution
(spec/07_cells.md R193–R210).
-/

namespace Sys2Proof.Machine

/-! ## Verdict codes (R199) -/

/-- NONE. -/
def vdNone : Nat := 0
/-- ACCEPTED. -/
def vdAccepted : Nat := 1
/-- TRUNCATED. -/
def vdTruncated : Nat := 2
/-- EARLY. -/
def vdEarly : Nat := 3
/-- LATE. -/
def vdLate : Nat := 4
/-- WRONG_SENDER. -/
def vdWrongSender : Nat := 5
/-- OUTSIDE. -/
def vdOutside : Nat := 6
/-- ARB_LOST. -/
def vdArbLost : Nat := 7
/-- UNSYNC. -/
def vdUnsync : Nat := 8
/-- CS_FORWARDED. -/
def vdCsForwarded : Nat := 9
/-- CS_SUPPRESSED. -/
def vdCsSuppressed : Nat := 10
/-- CS_IGNORED. -/
def vdCsIgnored : Nat := 11
/-- INTEGRITY. -/
def vdIntegrity : Nat := 12

/-- The GD counter of a verdict. -/
def vdCounter : Nat → Fld
  | 1 => GD_CNT_ACCEPTED_COUNT | 2 => GD_CNT_TRUNCATED_COUNT | 3 => GD_CNT_EARLY_COUNT | 4 => GD_CNT_LATE_COUNT
  | 5 => GD_CNT_WRONG_SENDER_COUNT | 6 => GD_CNT_OUTSIDE_COUNT | 7 => GD_CNT_ARB_LOST_COUNT
  | 9 => GD_CNT_CS_FORWARDED_COUNT | 10 => GD_CNT_CS_SUPPRESSED_COUNT | 11 => GD_CNT_CS_IGNORED_COUNT
  | _ => GD_CNT_UNSYNC_COUNT

/-- The guardian drops a frame with this verdict. -/
def vdDrops (v : Nat) : Bool := (decide (3 ≤ v) && decide (v ≤ 8)) || (decide (10 ≤ v) && decide (v ≤ 12))

/-- What the guardian decided: the verdict, the window instance, and whether the frame goes to ordinary relay. -/
structure Judged where
  verdict : Nat
  inst : Option Inst := none
  relay : Bool := false
  deriving DecidableEq, Repr

/-- A frame before the guardian: its port, first-bit instant, bytes with FCS; `intact` says that the entry of its
window passes its complement check. -/
structure GuardIn where
  port : PortRec
  sof : Nat
  bytes : Bytes
  intact : Bool
  cold : Bool
  deriving DecidableEq, Repr

/-- Channel of the port: 0 A, 1 B. -/
def GuardIn.chan (f : GuardIn) : Nat := bit f.port.channelB

/-- Receive time of `n` bytes on port `l` in units of 2^-16 ns (R458). -/
def State.rxQ (s : State) (l n : Nat) : Nat := (n + 8) * 8 * 65536 / max 1 (s.portRate l)

/-! ## Windows around an instant (R188) -/

/-- Cell time `x` lies in the occupancy of `i`. -/
def Inst.occupies (i : Inst) (m x : Nat) : Bool := decide (i.opens - m ≤ x ∧ x ≤ i.closes + m)

/-- T_w of a window instance in units of 2^-16 ns. -/
def State.instTx (s : State) (c : Nat) (i : Inst) : Nat := nsQ (s.winTx c i.words)

/-- End of the acceptance interval. -/
def State.acceptEnd' (s : State) (c : Nat) (i : Inst) : Nat := i.closes + s.marginQ c - s.instTx c i

/-- Cell time `x` lies in the acceptance interval. -/
def State.accepts (s : State) (c : Nat) (i : Inst) (x : Nat) : Bool :=
  decide (i.opens - s.marginQ c ≤ x ∧ x ≤ s.acceptEnd' c i)

/-- The lane is the owning node's port for the channel. -/
def State.owns (s : State) (c ch l : Nat) (i : Inst) : Bool := s.nodePort c (winNode i.words) ch == some l

/-- The key of a window instance: channel, basic cycle, window, opening. -/
def Inst.key (i : Inst) (ch : Nat) : Nat × Nat × Nat × Nat := (ch, i.cyc, i.win, i.opens)

/-! ## Verdicts (R195–R198) -/

/-- ACCEPTED, or TRUNCATED where the last bit would pass close + m. -/
def State.acceptedOr (s : State) (c : Nat) (f : GuardIn) (i : Inst) : Judged :=
  let x := s.toCell c f.sof
  if i.closes + s.marginQ c < x + s.rxQ f.port.lane f.bytes.length then ⟨vdTruncated, some i, false⟩
  else ⟨vdAccepted, some i, false⟩

/-- The verdict of the window instance whose occupancy contains the SOF. -/
def State.judgeIn (s : State) (c : Nat) (f : GuardIn) (i : Inst) : Judged :=
  let x := s.toCell c f.sof
  let l := f.port.lane
  if !f.intact || (s.cell c).bad.contains (i.cyc, i.win) then ⟨vdIntegrity, some i, false⟩
  else match winKind i.words with
    | 0 =>
      if !s.owns c f.chan l i then ⟨vdWrongSender, some i, false⟩
      else if s.accepts c i x then s.acceptedOr c f i
      else ⟨vdLate, some i, false⟩
    | 1 =>
      let last := ((s.cell c).arb.find? (fun e => e.1 == i.key f.chan)).map (·.2)
      let free := match last with
        | some t => decide (t + s.instTx c i ≤ x)
        | none => true
      if (s.nodeOf c l f.chan).isSome && s.accepts c i x && free then s.acceptedOr c f i else ⟨vdArbLost, some i, false⟩
    | _ =>
      if i.opens ≤ x ∧ x + s.rxQ l f.bytes.length ≤ i.closes + s.marginQ c then ⟨vdAccepted, some i, true⟩
      else ⟨vdOutside, some i, false⟩

/-- The verdict of a frame that lies in no occupancy: EARLY or LATE for its own node's window, else OUTSIDE. -/
def State.judgeOut (s : State) (c : Nat) (f : GuardIn) : Judged :=
  let x := s.toCell c f.sof
  let m := s.marginQ c
  let mine := (s.insts c f.chan).filter (fun i => winKind i.words == 0 && s.owns c f.chan f.port.lane i)
  match mine.find? (fun i => decide (i.opens - 4 * m ≤ x ∧ x < i.opens - m)) with
  | some i => ⟨vdEarly, some i, false⟩
  | none => match mine.find? (fun i => decide (s.acceptEnd' c i < x ∧ x ≤ i.closes + 4 * m)) with
    | some i => ⟨vdLate, some i, false⟩
    | none => ⟨vdOutside, none, false⟩

/-- The verdict of a frame under the cell's windows. -/
def State.judgeWindow (s : State) (c : Nat) (f : GuardIn) : Judged :=
  match (s.insts c f.chan).find? (fun i => i.occupies (s.marginQ c) (s.toCell c f.sof)) with
  | some i => s.judgeIn c f i
  | none => s.judgeOut c f

/-- The verdict by the cell's state: nothing is judged on a cell that never ran, and everything is OUTSIDE on one that
was stopped (R193, R198, R204, R207, R214). A coldstart frame to be collected has verdict CS_FORWARDED here. -/
def State.verdict (s : State) (f : GuardIn) : Judged :=
  let c := f.port.cell
  if !f.port.cellPort || !s.on (A.gdp f.port.lane) GD_PORT_CTRL_EN then ⟨vdNone, none, true⟩
  else if !s.cellOn c then (if (s.cell c).halted then ⟨vdOutside, none, false⟩ else ⟨vdNone, none, true⟩)
  else if !s.cellExternal c then (if f.cold then ⟨vdCsIgnored, none, false⟩ else s.judgeWindow c f)
  else if f.cold && !s.authority then ⟨vdCsIgnored, none, false⟩
  else if s.get (s.cellBase c) CL_STATUS_STATE = 2 then s.judgeWindow c f
  else if f.cold then ⟨vdCsForwarded, none, false⟩
  else ⟨vdUnsync, none, false⟩

/-! ## Counting a verdict (R199) -/

/-- Count a verdict on port `l`. -/
def State.countVerdict (s : State) (l v : Nat) : State :=
  if v = 0 then s
  else
    let b := A.gdp l
    let s := s.bump b (vdCounter v)
    let s := if v = vdTruncated then s.raise b GD_EVENT_FLAGS 0 else s
    let s := if vdDrops v then (s.raise b GD_EVENT_FLAGS 1).event l 11 none 1 else s
    if v = vdIntegrity then s.raise b GD_EVENT_FLAGS 2 else s

/-- The one journal entry per node, channel and second for TRUNCATED, EARLY, LATE and WRONG_SENDER. -/
def State.journalVerdict (s : State) (f : GuardIn) (j : Judged) : State :=
  if decide (2 ≤ j.verdict) && decide (j.verdict ≤ 5) then
    let owner := (j.inst.map (fun i => winNode i.words)).getD 0
    let d := (s.nodeOf f.port.cell f.port.lane f.chan).getD owner
    s.limited (limitKey 5 (d * 2 + f.chan)) 1 (fun n s => s.report (srcSlice (sliceOf f.port.lane) 8) 0x0040 objNode d n)
  else s

/-- A window entry found corrupt: the instance is closed, and one entry is journalled (R192). -/
def State.noteCorrupt (s : State) (c l : Nat) (i : Inst) : State :=
  let x := s.cell c
  if x.bad.contains (i.cyc, i.win) then s
  else
    let s := (s.setCell c { x with bad := (i.cyc, i.win) :: x.bad }).raise (s.cellBase c) CL_EVENT_FLAGS 4
    s.report (srcSlice (sliceOf l) 7) 0x0011 objCell c 0

/-! ## Drift (R200, R201) and SYNC samples (R206) -/

/-- E of a node: the mean of the samples held, in units of 2^-16 ns. -/
def Drift.mean (x : Drift) : Int := (x.samples.foldl (· + ·) 0) / (max 1 x.samples.length : Nat)

/-- Drift state of node `d` on channel `ch`. -/
def State.drift (s : State) (d ch : Nat) : Drift := SMap.get {} s.drifts (d * 2 + ch)

/-- Store drift state. -/
def State.setDrift (s : State) (d ch : Nat) (x : Drift) : State := { s with drifts := SMap.set {} (d * 2 + ch) x s.drifts }

/-- A signed number of 2^-16 ns in whole nanoseconds, toward zero. -/
def nsOfI (x : Int) : Int := x.tdiv 65536

/-- DRIFT_WARN: journal, and the host event where the cell wants one. -/
def State.driftWarn (s : State) (c d ch l : Nat) (e : Int) (thr : Nat) : State :=
  let s := s.raise (s.cellBase c) CL_EVENT_FLAGS 3
  let s := s.limited (limitKey 6 (d * 2 + ch)) 1
    (fun _ s => s.report (srcSlice (sliceOf l) 8) 0x0041 objNode d (toTwos 32 (nsOfI e)))
  if s.on (s.cellBase c) CL_CELL_CTRL_WARN_EVENT then
    s.formEvent 3 (be 2 d ++ be 1 ch ++ be 1 0 ++ be 2 c ++ be 2 0 ++ be 4 (toTwos 32 (nsOfI e)) ++ be 4 thr ++
      be 12 (stampBits s.nowQ) ++ be 4 0)
  else s

/-- Take the drift sample `x` of node `d`. -/
def State.driftSample (s : State) (c d ch l : Nat) (x : Int) : State :=
  let y := s.drift d ch
  let y := { y with
    samples := (x :: y.samples).take 8, last := x, count := (y.count + 1) % 2 ^ 32,
    low := some (min x (y.low.getD x)), high := some (max x (y.high.getD x)) }
  let b := s.cellBase c
  let w := s.get b CL_GUARD_DRIFT_WARN_NS
  let thr := if w = 0 then s.get b CL_CELL_CTRL_MARGIN_NS / 2 else w
  let e := y.mean
  if !y.warn && decide (nsQ thr < e.natAbs) then
    (s.setDrift d ch { y with warn := true, warnSeen := true }).driftWarn c d ch l e thr
  else if y.warn && decide (4 * e.natAbs < 3 * nsQ thr) then s.setDrift d ch { y with warn := false }
  else s.setDrift d ch y

/-- d of a frame in window instance `i`. -/
def State.offsetIn (s : State) (c : Nat) (i : Inst) (sof : Nat) : Int :=
  (s.toCell c sof : Int) - (i.opens + nsQ (winAction i.words) : Nat)

/-- The samples that a judged frame gives. -/
def State.takeSamples (s : State) (f : GuardIn) (j : Judged) : State :=
  match j.inst with
  | some i =>
    let c := f.port.cell
    let x := s.toCell c f.sof
    let m := s.marginQ c
    if winKind i.words = 0 ∧ s.owns c f.chan f.port.lane i ∧ i.opens - 4 * m ≤ x ∧ x ≤ i.closes + 4 * m ∧
        j.verdict ≠ vdIntegrity then
      let d := s.offsetIn c i f.sof
      let s := s.driftSample c (winNode i.words) f.chan f.port.lane d
      if (j.verdict = vdAccepted ∨ j.verdict = vdTruncated) ∧ winSync i.words ∧ s.cellExternal c then
        s.setCell c { s.cell c with syncs := d :: (s.cell c).syncs }
      else s
    else s
  | none => s

/-! ## What a verdict leaves in the cell (R196, R210) -/

/-- An accepted frame of a window: the arbitration's latest SOF, and that its owner's frame has started. -/
def State.noteAccepted (s : State) (f : GuardIn) (j : Judged) : State :=
  match j.inst with
  | some i =>
    if j.verdict = vdAccepted ∨ j.verdict = vdTruncated then
      let c := f.port.cell
      let x := s.cell c
      let k := i.key f.chan
      match winKind i.words with
      | 0 => s.setCell c { x with
          started := k :: x.started.filter (fun e => e != k),
          store := x.store.map (fun y => if y.chan = f.chan ∧ y.cyc = i.cyc ∧ y.win = i.win then { y with count := 0 } else y) }
      | 1 => s.setCell c { x with arb := (k, s.toCell c f.sof) :: x.arb.filter (fun e => e.1 != k) }
      | _ => s
    else s
  | none => s

/-- The guardian's whole step on a frame: verdict, counters, journal and samples. `stepped` says that a physical step was
applied after the frame's arrival (R185). -/
def State.guard (s : State) (f : GuardIn) (stepped : Bool) : Judged × State :=
  let j := s.verdict f
  if j.verdict = vdCsForwarded then (j, s)
  else
    let s := match j.verdict, j.inst with
      | 12, some i => s.noteCorrupt f.port.cell f.port.lane i
      | _, _ => s
    let s := (s.countVerdict f.port.lane j.verdict).journalVerdict f j
    let s := if j.verdict = vdCsIgnored then s.bump (s.cellBase f.port.cell) CL_CNT_CS_IGNORED_COUNT else s
    let s := if stepped then s else s.takeSamples f j
    (j, s.noteAccepted f j)

/-! ## Forwarding (R194, R195) -/

/-- A frame that leaves at most `n` bytes after its preamble: cut, with the ones' complement of the CRC of the bytes
sent. -/
def truncateTo (n : Nat) (b : Bytes) : Bytes :=
  let x := b.take (min n b.length - 4)
  x ++ (fcsOf x).map (~~~ ·)

/-- A forwarded cell frame as it leaves: whole, or up to close + m + D. -/
def State.forwardBytes (s : State) (f : GuardIn) (j : Judged) (b : Bytes) : Bytes :=
  match j.verdict, j.inst with
  | 2, some i =>
    let c := f.port.cell
    let q := i.closes + s.marginQ c - s.toCell c f.sof
    truncateTo (q * s.portRate f.port.lane / (8 * 65536) - 8) b
  | _, _ => b

/-- Put a launch of kind `k` with bytes `b` at `t0` on port `l`; a forwarded frame takes relay cells. -/
def State.launchFrame (s : State) (l stream tc t0 : Nat) (k : LaunchKind) (b : Bytes) : State :=
  let n := if k = .substitute then 0 else cellsFor b.length
  if n ≤ s.relayFree l then
    let h : Held := { lane := l, stream := stream, clock := 2048, seq := 0, epoch := 0, scene := 0,
                      inner := b.take (b.length - 4), rewrite := 0, age := 0, orig := 0, noRepeat := true,
                      launchCells := n, borrowed := 0, tc := tc, filedAt := s.nowQ }
    let s := s.takeRelay l n
    { s with launches := insertLaunch { held := h, t0 := t0, staged := some b, stagedAt := s.nowQ, kind := k } s.launches }
  else s.bump (A.hmp l) HM_CNT_RELAY_DROP_COUNT

/-- The cell's ports among `ports` on which an accepted frame leaves: its channel's, or both for a MIRROR stream, without
its ingress port. -/
def State.forwardPorts (s : State) (f : GuardIn) (mirror : Bool) (ports : List Nat) : List Nat :=
  ((s.cellPorts f.port.cell).filter (fun p =>
    ports.contains p.lane && p.lane != f.port.lane && (mirror || p.channelB == f.port.channelB))).map (·.lane)

/-- Keep an accepted, untruncated frame with a valid state trailer for substitution (R210). -/
def State.keepFrame (s : State) (f : GuardIn) (j : Judged) (b : Bytes) (stream : Nat) (trailer : Bool) (ports : List Nat) :
    State :=
  match j.inst with
  | some i =>
    if j.verdict = vdAccepted ∧ winKind i.words = 0 ∧ 0 < winSubst i.words ∧ trailer ∧ b.length ≤ 1536 ∧
        trailerOk (b.take (b.length - 4)) then
      let c := f.port.cell
      let x := s.cell c
      let y : Stored := ⟨f.chan, i.cyc, i.win, b, stream, ports, 0⟩
      s.setCell c { x with store :=
        y :: x.store.filter (fun z => !(z.chan == f.chan && z.cyc == i.cyc && z.win == i.win)) }
    else s
  | none => s

/-! ## Coldstart (R204, R205) -/

/-- A coldstart frame in UNSYNC that cannot win is suppressed: its verdict, and its capture. -/
def State.suppress (s : State) (c : Nat) (x : CapFrame) : CapFrame × State :=
  let s := (s.countVerdict x.lane vdCsSuppressed).bump (s.cellBase c) CL_CNT_CS_SUPPRESSED_COUNT
  ({ x with verdict := vdCsSuppressed, cause := 1 }, s)

/-- A coldstart frame arrives in UNSYNC: it opens a window, joins the open one, or is suppressed at once; then its
capture form is answered. -/
def State.coldstart (s : State) (f : GuardIn) (x : CapFrame) : Option CapFrame × State :=
  let c := f.port.cell
  let y := s.cell c
  let len := nsQ (s.get (s.cellBase c) CL_CS_CTRL_CS_LEN_NS)
  let rank := (s.nodeOf c f.port.lane f.chan).bind (fun d => ((s.ranks c).findIdx? (· == d)).map (fun r => (r, d)))
  match rank, y.csOpen with
  | some (r, d), none => (none, s.setCell c { y with csOpen := some f.sof, csFrames := [⟨r, d, x⟩] })
  | some (r, d), some t =>
    if f.sof ≤ t + len then (none, s.setCell c { y with csFrames := y.csFrames ++ [⟨r, d, x⟩] })
    else let r := s.suppress c x; (some r.1, r.2)
  | none, _ => let r := s.suppress c x; (some r.1, r.2)

/-- The first frame of the highest-ranked sender. -/
def bestCold : List CsFrame → Option CsFrame
  | [] => none
  | x :: t => match bestCold t with
    | some y => if x.rank ≤ y.rank then some x else some y
    | none => some x

/-- Set C so that a matrix cycle starts at `t` (physical): of the values that do, the one of least magnitude. -/
def State.startAt (s : State) (c t : Nat) : State :=
  let x := s.cell c
  let m := nsQ (matrixLen x.oper)
  match x.base, m with
  | some b, k + 1 =>
    let d : Int := ((b : Int) - t) % (k + 1 : Nat)
    let d := if 2 * d ≤ (k + 1 : Nat) then d else d - (k + 1 : Nat)
    (s.putI (s.cellBase c) CL_CORR_C d).setCell c { x with base := some (moveQ t d), cycleAt := none }
  | _, _ => s

/-- COLDSTART_FORWARD: CS_RELAY_NS after the window's close the winner leaves on every port of the cell, the others are
suppressed, and the cell enters SYNC. -/
def State.coldForward (s : State) (c : Nat) (keep : CapFrame → State → State) : State :=
  let x := s.cell c
  let b := s.cellBase c
  match x.csOpen, bestCold x.csFrames with
  | some t, some w =>
    let tf := t + nsQ (s.get b CL_CS_CTRL_CS_LEN_NS) + nsQ (s.get b CL_CS_CTRL_CS_RELAY_NS)
    if s.nowQ < tf ∨ !s.authority ∨ !s.cellOn c then s
    else
      let s := s.setCell c { x with csOpen := none, csFrames := [] }
      let s := s.countVerdict w.frame.lane vdCsForwarded
      let s := keep { w.frame with verdict := vdCsForwarded } s
      let s := ((replaceFirst (· == w) (fun y => { y with rank := 8 }) x.csFrames).filter (fun y => y.rank < 8)).foldl
        (fun s y => let r := s.suppress c y.frame; keep r.1 r.2) s
      let s := (s.cellPorts c).foldl (fun s p =>
        s.launchFrame p.lane (w.frame.stream.getD 0) w.frame.tc tf .forwarded w.frame.bytes) s
      let s := s.startAt c (tf + nsQ (s.get b CL_CS_CTRL_START_OFFSET_NS))
      (s.put b CL_STATUS_STATE 2).raise b CL_EVENT_FLAGS 1
  | _, _ => s

/-! ## Substitution (R210) -/

/-- Window instances whose acceptance interval has ended without the owner's frame. -/
def State.unstarted (s : State) (c ch cyc win : Nat) : Option Inst :=
  let x := s.cell c
  (s.insts c ch).find? (fun i =>
    i.cyc == cyc && i.win == win && winKind i.words == 0 && decide (s.acceptEnd' c i < s.toCell c s.nowQ) &&
      !x.started.contains (i.key ch) && !x.substituted.contains (i.key ch) && !x.bad.contains (cyc, win))

/-- SUBSTITUTION in window `win` of basic cycle `cyc` on channel `ch`: the stored frame with a higher age leaves at the
latest place an accepted frame could take. -/
def State.substitute (s : State) (c ch cyc win : Nat) : State :=
  let x := s.cell c
  let same := fun (y : Stored) => y.chan == ch && y.cyc == cyc && y.win == win
  match s.unstarted c ch cyc win, x.store.find? same with
  | some i, some y =>
    if !s.cellOn c || s.get (s.cellBase c) CL_STATUS_STATE != 2 then s
    else
      let s := s.setCell c { x with substituted := i.key ch :: x.substituted }
      if winSubst i.words ≤ y.count then s
      else
        let n := y.count + 1
        let b := y.bytes.take (y.bytes.length - 4)
        let b := withFcs (setTrailer b (min 255 (rd b (b.length - 7) 1 + n)) 1)
        let x := s.cell c
        let s := s.setCell c { x with store := replaceFirst same (fun z => { z with count := n }) x.store }
        let t0 := s.fromCell c (i.closes + s.marginQ c + s.starQ c - s.instTx c i)
        let s := y.ports.foldl (fun s l => s.launchFrame l y.stream (s.entry (sliceOf l) y.stream).tc t0 .substitute b) s
        s.bump (s.cellBase c) CL_CNT_SUBST_COUNT
  | _, _ => s

/-- SUBSTITUTION. -/
def execSubstitution (c ch cyc win : Nat) (s : State) : Host.Outcome State Fault Refusal :=
  .next (s.atCell c (·.substitute c ch cyc win))

end Sys2Proof.Machine
end

