-- ==== Sys2Proof/Machine/Capture.lean ====
section
/-!
DEFINITION. Selecting frames for capture, capture and slow-path records, and the export of captured frames as envelopes
(spec/10_capture_journal.md R277–R286, R295; R20, R232).
-/

namespace Sys2Proof.Machine

/-! ## Selection (R277, R278) -/

/-- The cell of the port with first lane `l`; none for a port that belongs to no cell. -/
def State.cellOfPort (s : State) (l : Nat) : Option Nat :=
  (s.port? l).bind (fun p => if p.cellPort then some p.cell else none)

/-- Epoch and scene time of the port's cell at physical instant `q` (R278). -/
def State.portScene (s : State) (l q : Nat) : Option (Nat × Nat) :=
  (s.cellOfPort l).bind (fun c =>
    let k := s.clockOf c
    if s.sceneMode k = 0 then none else s.sceneTime k q)

/-- Profile `p` selects a frame on slice `n`: every SAMPLE-th one is captured (R277). -/
def State.takeFrame (s : State) (n p : Nat) (x : CapFrame) : State :=
  let b := A.cpf p
  let k := SMap.get 0 s.capCounts (n * 16 + p) + 1
  if k < s.get b CP_PROF_CTRL_SAMPLE then { s with capCounts := SMap.set 0 (n * 16 + p) k s.capCounts }
  else
    let x := { x with profile := p, ring := s.get b CP_PROF_CTRL_RING }
    { s with
      capCounts := SMap.set 0 (n * 16 + p) 0 s.capCounts,
      captures := s.captures ++ (if s.on b CP_PROF_CTRL_TO_RING then [x] else []),
      exports := s.exports ++ (if s.on b CP_PROF_CTRL_TO_EXPORT then [x] else []) }

/-- Consider a frame for capture: `x.profile` is the profile of R227, and `dropped` says whether it was dropped or reached
step 9 (R277). -/
def State.capture (s : State) (x : CapFrame) (dropped : Bool) : State :=
  let p := if x.profile = 0 then s.get (A.cpp x.lane) CP_PORT_PROFILE else x.profile
  let b := A.cpf p
  if p = 0 || !s.on A.cp CP_CTRL_EN || !s.on b CP_PROF_CTRL_EN then s
  else if s.on b (if dropped then CP_PROF_CTRL_DROPPED else CP_PROF_CTRL_PASSED) then s.takeFrame (sliceOf x.lane) p x
  else s

/-- A frame with a bad FCS is captured under its port's profile where CAP_ERRORED is 1 (R277). -/
def State.captureErrored (s : State) (x : CapFrame) : State :=
  let p := s.get (A.cpp x.lane) CP_PORT_PROFILE
  if s.on (A.cpp x.lane) CP_PORT_CAP_ERRORED && p != 0 && s.on A.cp CP_CTRL_EN && s.on (A.cpf p) CP_PROF_CTRL_EN then
    s.takeFrame (sliceOf x.lane) p { x with fcsBad := true, stream := none }
  else s

/-! ## The record (R279) -/

/-- What the eight words of a record say. -/
structure CapRec where
  type : Nat
  frame : CapFrame
  short : Bool := false
  capLen : Nat := 0
  frameLen : Nat := 0
  seq : Nat
  off : Nat := 0
  deriving DecidableEq, Repr

/-- The eight words of a capture record header. -/
def CapRec.words (r : CapRec) : List Nat :=
  let x := r.frame
  let e := (x.scene.map (·.1)).getD 0
  let q := (x.scene.map (·.2)).getD 0
  [ r.type * 2 ^ 56 + x.cause % 256 * 2 ^ 48 + x.verdict % 16 * 2 ^ 44 + x.profile % 16 * 2 ^ 40 + x.tc % 8 * 2 ^ 37 +
      bit r.short * 2 ^ 36 + bit x.scene.isSome * 2 ^ 35 + bit x.fcsBad * 2 ^ 34 + bit x.stream.isSome * 2 ^ 33 +
      x.lane % 512 * 2 ^ 24,
    if r.short then e * 2 ^ 48 else secOf x.at_,
    if r.short then shortOf x.at_ * 2 ^ 32 else nsWord x.at_,
    if r.short then (if x.scene.isSome then shortOf q else 0) else e * 2 ^ 48 + secOf q,
    if r.short then 0 else nsWord q,
    x.stream.getD 0 % 2 ^ 18 * 2 ^ 46 + r.frameLen % 65536 * 2 ^ 30 + r.capLen % 65536 * 2 ^ 14,
    r.seq % 2 ^ 64,
    r.off % 2 ^ 40 ]

/-! ## A capture ring (R280–R282) -/

/-- State of capture ring `r`. -/
def State.capRing (s : State) (r : Nat) : CapRing := SMap.get {} s.capRings r

/-- Store the state of capture ring `r`. -/
def State.setCapRing (s : State) (r : Nat) (x : CapRing) : State := { s with capRings := SMap.set {} r x s.capRings }

/-- Bytes of the data buffer in use: those of the records that the consumer index has not passed (R281). -/
def State.capUsed (s : State) (r : Nat) : Nat :=
  let c := s.get (A.rgr r) RG_CONS_CONS
  ((s.capRing r).spans.filter (fun e => decide (idxSub e.1 c < s.ringUsed r))).foldl (fun n e => n + e.2) 0

/-- Where `n` bytes go in the data buffer of ring `r`: the offset, and the bytes they take with what is skipped; none
where the buffer lacks space for them (R281, R282). -/
def State.capPlace (s : State) (r n : Nat) : Option (Nat × Nat) :=
  let b := A.cpr r
  let size := 2 ^ s.get b CP_RDATA_SIZE_LOG2
  let w := (s.capRing r).offset
  let len := ceilDiv n 64 * 64
  let skip := if size < w + len then size - w else 0
  let o := if size < w + len then 0 else w
  if s.capUsed r + skip + len ≤ size ∧ s.rangeServed (s.get b CP_RDATA_BASE_DA) size then some (o, skip + len) else none

/-- A STAMP_REF is due before a short record (R280, R295). -/
def State.capRefDue (s : State) (r : Nat) (x : CapFrame) : Bool :=
  let y := s.capRing r
  y.refDue ||
    (match y.lastRef with
     | none => true
     | some q => decide (q + secQ ≤ x.at_)) ||
    (match x.scene, s.cellOfPort x.lane with
     | some (e, t), some c => match y.cellRefs.find? (fun z => z.1 == c) with
       | none => true
       | some (_, e', t') => e != e' || decide (t' + secQ ≤ t) || decide (t + secQ ≤ t')
     | _, _ => false)

/-- The next CAP_SEQ of a ring is used (R282). -/
def State.nextCapSeq (s : State) (r : Nat) : State :=
  let y := s.capRing r
  s.setCapRing r { y with seq := (y.seq + 1) % 2 ^ 64 }

/-- Write the STAMP_REF that record `x` needs (R280). -/
def State.writeCapRef (s : State) (r : Nat) (x : CapFrame) : State :=
  let q := s.nowQ
  let sc := s.portScene x.lane q
  let s := s.ringPut r (CapRec.words { type := 3, frame := { lane := x.lane, bytes := [], at_ := q, scene := sc }, seq := (s.capRing r).seq })
  let s := s.nextCapSeq r
  let y := s.capRing r
  let refs := match sc, s.cellOfPort x.lane with
    | some (e, t), some c => (c, e, t) :: y.cellRefs.filter (fun z => z.1 != c)
    | _, _ => y.cellRefs
  s.setCapRing r { y with lastRef := some q, refDue := false, cellRefs := refs }

/-- A record is dropped under DROP_NEW: its CAP_SEQ is used all the same (R282). -/
def State.dropRecord (s : State) (r : Nat) (x : CapFrame) : State :=
  let s := s.nextCapSeq r
  if x.profile = 0 then s else s.bump (A.cpf x.profile) CP_PROF_DROP_COUNT

/-- A record finds no entry or no buffer space (R282). -/
def State.dropFull (s : State) (r : Nat) (x : CapFrame) : State :=
  ((s.bump (A.cpr r) CP_RDATA_DROP_COUNT).bump (A.rgr r) RG_CNT_DROP_COUNT).dropRecord r x

/-- Write frame `x` as a record of `type`, or drop it (R279–R282). -/
def State.writeRecord (s : State) (r type : Nat) (short : Bool) (snap : Nat) (x : CapFrame) : State :=
  let n := min x.bytes.length snap
  let ref := short && s.capRefDue r x
  match s.capPlace r n with
  | none => s.dropFull r x
  | some (o, take) =>
    if s.ringFree r < 1 + bit ref then s.dropFull r x
    else
      let s := if ref then s.writeCapRef r x else s
      let s := s.setMemBytes (s.get (A.cpr r) CP_RDATA_BASE_DA + o) (x.bytes.take n)
      let p := s.get (A.rgr r) RG_PROD_PROD
      let y := s.capRing r
      let live := y.spans.filter (fun e => decide (idxSub e.1 (s.get (A.rgr r) RG_CONS_CONS) < s.ringUsed r))
      let size := 2 ^ s.get (A.cpr r) CP_RDATA_SIZE_LOG2
      let s := s.setCapRing r { y with offset := (o + ceilDiv n 64 * 64) % size, spans := live ++ [(p, take)] }
      let s := s.ringPut r (CapRec.words
        { type := type, frame := x, short := short, capLen := n, frameLen := x.bytes.length, seq := y.seq, off := o })
      let s := s.nextCapSeq r
      if x.profile = 0 then s else s.bump (A.cpf x.profile) CP_PROF_REC_COUNT

/-- CAPTURE_RECORD_WRITE: the oldest selected frame reaches its ring. `limit` says that it is beyond the capture limit of
its slice (1) or of the module (2) (R20, R282). -/
def State.captureRecord (s : State) (limit : Nat) : State :=
  match s.captures with
  | [] => s
  | x :: xs =>
    let s := { s with captures := xs }
    let b := A.cpf x.profile
    match limit with
    | 1 => (s.bump A.cp (CP_CNT_SLICE_DROP_COUNT (sliceOf x.lane))).dropRecord x.ring x
    | 2 => (s.bump A.cp CP_CNT_MODULE_DROP_COUNT).dropRecord x.ring x
    | _ => s.writeRecord x.ring 1 (s.on b CP_PROF_CTRL_SHORT) (s.get b CP_PROF_CTRL_SNAP_LEN) x

/-- CAPTURE_RECORD_WRITE. -/
def execCaptureRecordWrite (limit : Nat) (s : State) : Host.Outcome State Fault Refusal := .next (s.captureRecord limit)

/-- SLOW_PATH_RECORD: the control cores write the oldest slow-path frame, whole and with full stamps (R232). -/
def State.slowRecord (s : State) : State :=
  match s.slow with
  | [] => s
  | x :: xs =>
    { s with slow := xs }.writeRecord (s.get (A.pr (sliceOf x.lane)) PR_SLOW_CTRL_RING) 2 false x.bytes.length x

/-- SLOW_PATH_RECORD. -/
def execSlowPathRecord (s : State) : Host.Outcome State Fault Refusal := .next s.slowRecord

/-! ## Export (R284–R286) -/

/-- Key of the export sequence of a profile and a stream (R285). -/
def exportKey (p : Nat) (x : Option Nat) : Nat := p * 2 ^ 20 + (match x with | some i => i + 1 | none => 0)

/-- The export envelope of frame `x` with sequence `q` as a frame, FCS included (R284). -/
def State.exportFrame (s : State) (q : Nat) (x : CapFrame) : Bytes :=
  let b := A.cpf x.profile
  let n := sliceOf (s.get b CP_PROF_EXP_LANE)
  let v6 := s.on b CP_PROF_EXP_IPV6
  let src := if v6 then s.get (A.fd n) FD_GRANT_IP6_HI_ADDR * 2 ^ 64 + s.get (A.fd n) FD_GRANT_IP6_LO_ADDR
    else s.get (A.fd n) FD_GRANT_IP4_ADDR
  let dst := if v6 then s.get b CP_PROF_IP_HI_ADDR * 2 ^ 64 + s.get b CP_PROF_IP_LO_ADDR
    else s.get b CP_PROF_IP_LO_ADDR % 2 ^ 32
  let id := match x.stream with
    | some i => (s.entry (sliceOf x.lane) i).streamId
    | none => s.get b CP_PROF_EXP_ID_STREAM_ID
  let h := envelopeHeader 0 0 id q ((x.scene.map (·.1)).getD 0) ((x.scene.map (·.2)).getD x.at_) (x.bytes.length - 4)
    (s.get b CP_PROF_EXP_REWRITE_ID) 0 (shortOf x.at_)
  let p := udpPayload v6 src dst (s.get (A.fd n) FD_CTRL_GRANT_SPORT) (s.get b CP_PROF_EXP_DPORT)
    (h ++ x.bytes.take (x.bytes.length - 4))
  ethFrame (s.get b CP_PROF_MAC_MAC) (s.get (A.fd n) FD_GRANT_MAC_MAC) none p.1 p.2

/-- CAPTURE_EXPORT: the oldest frame that waits for export leaves as an envelope with the next export sequence, or is
counted in CP_PROF_EXP_DROP. -/
def State.captureExport (s : State) : State :=
  match s.exports with
  | [] => s
  | x :: xs =>
    let s := { s with exports := xs }
    let b := A.cpf x.profile
    let l := s.get b CP_PROF_EXP_LANE
    let flow := s.get b CP_PROF_EXP_FLOW
    let key := exportKey x.profile x.stream
    let q := SMap.get 0 s.exportSeqs key
    let f := s.exportFrame q x
    if x.fcsBad || decide (16000 < f.length) || !s.isPort l then s.bump b CP_PROF_EXP_DROP_COUNT
    else if s.relayFree l < cellsFor f.length then
      (s.bump (A.hmp l) HM_CNT_RELAY_DROP_COUNT).bump b CP_PROF_EXP_DROP_COUNT
    else
      let s := { s with exportSeqs := SMap.set 0 key ((q + 1) % 2 ^ 64) s.exportSeqs }
      (s.bump b CP_PROF_EXP_CNT_COUNT).relay l (s.get (A.shf l flow) SH_FLOW_CTRL_CLASS) { bytes := f, flow := some flow }

/-- CAPTURE_EXPORT. -/
def execCaptureExport (s : State) : Host.Outcome State Fault Refusal := .next s.captureExport

/-! ## What writes of the CP registers do (R283, R285, R286) -/

/-- An enabled profile names ring `r`. -/
def State.profileNames (s : State) (r : Nat) : Bool :=
  (List.range 15).any (fun k => s.on (A.cpf (k + 1)) CP_PROF_CTRL_EN && s.get (A.cpf (k + 1)) CP_PROF_CTRL_RING == r)

/-- A written CP_PROF_CTRL word is accepted. -/
def State.profCtrlOk (s : State) (w : Nat) : Bool :=
  let snap := bitsOf w 45 32
  decide (64 ≤ snap ∧ snap ≤ 16000 ∧ snap % 64 = 0) && decide (bitsOf w 19 0 ≠ 0) &&
    (!w.testBit 60 || s.get (A.rgr (bitsOf w 55 48)) RG_CFG_POLICY == 1) && (!w.testBit 59 || snap == 16000)

/-- EN of profile `p` is written 1: its export sequences restart at 0 (R285). -/
def State.restartExports (s : State) (p : Nat) : State :=
  { s with exportSeqs := s.exportSeqs.filter (fun e => decide (e.1 / 2 ^ 20 ≠ p)) }

/-! ## Coldstart frames (R205, R277) -/

/-- COLDSTART_FORWARD of cell `c`: the winner's frame passed, the others were dropped by the guardian. -/
def execColdstartForward (c : Nat) (s : State) : Host.Outcome State Fault Refusal :=
  .next (s.atCell c (·.coldForward c (fun x s => s.capture x (vdDrops x.verdict))))

end Sys2Proof.Machine
end

