-- ==== Sys2Proof/Machine/Ingress.lean ====
section
/-!
DEFINITION. The ingress half: what happens to a received frame from its injectors to Caldera, its second pass, default
actions, the slow path, and the reassembly of preempted frames (spec/08_parse_classify.md R215–R232; R17, R18, R24, R29,
R172, R253, R258, R419–R421).
-/

namespace Sys2Proof.Machine

/-! ## A frame in the ingress half -/

/-- A frame in the ingress half: its port, its bytes with FCS, its first-bit instant, that the complement check of its
window entry passes, that a physical step was applied after its arrival, and the first injector it has still to meet. -/
structure Arrival where
  lane : Nat
  bytes : Bytes
  sof : Nat
  intact : Bool := true
  stepped : Bool := false
  inj : Nat := 0
  deriving DecidableEq, Repr

/-- Slice of an arrival. -/
def Arrival.slice (a : Arrival) : Nat := sliceOf a.lane

/-- The frame without its FCS. -/
def Arrival.body (a : Arrival) : Bytes := a.bytes.take (a.bytes.length - 4)

/-- Pipeline of a lane within its slice (R14). -/
def pipelineOf (l : Nat) : Nat := l % 64 / 8

/-- PCP of the outer tag of the frame as received, 0 for an untagged one (R227). -/
def State.outerPcp (s : State) (a : Arrival) : Nat :=
  if (s.tpids a.slice).contains (rd a.bytes 12 2) then rd a.bytes 14 2 / 8192 else 0

/-! ## Frames that the module terminates (R220) -/

/-- The PTP message in a frame: its offset, and its transport (0 Layer 2, 1 UDP over IPv4, 2 UDP over IPv6). -/
def ptpIn (tpids : List Nat) (b : Bytes) : Option (Nat × Nat) :=
  let et := skipTags tpids 4 b 12
  if rd b et 2 = 0x88F7 then some (et + 2, 0)
  else match plainIp b et with
    | some h =>
      let p := rd b (h.off + 2) 2
      if h.proto = 17 ∧ (p = 319 ∨ p = 320) then some (h.off + 8, if h.v6 then 2 else 1) else none
    | none => none

/-- A scene clock that port `l` serves has this domain (R86). -/
def State.sceneDomain (s : State) (l d : Nat) : Bool :=
  match s.cellOfPort l with
  | some c =>
    let b := A.scc (s.clockOf c)
    s.on b SC_CELL_CTRL_GPTP_EN && s.get b SC_CELL_CTRL_DOMAIN == d
  | none => false

/-- Port `l` runs the domain `d` of a PTP message of type `t` on this transport. -/
def State.runsPtp (s : State) (l t transport d : Nat) : Bool :=
  let phys := d == s.get A.tb TB_CTRL_DOMAIN_PHYS
  if s.on (A.tbp l) TB_PORT_CTRL_PTP1588_EN then phys && transport == s.get (A.tbp l) TB_PORT_CTRL_TRANSPORT_1588
  else transport == 0 && (phys || t == 2 || t == 3 || t == 10 || s.sceneDomain l d)

/-- The frame is a PTP message that its port runs. -/
def State.isPtp (s : State) (a : Arrival) : Bool :=
  match ptpIn (s.tpids a.slice) a.body with
  | some (o, k) => s.ptpRuns && s.runsPtp a.lane (rd a.body o 1 % 16) k (rd a.body (o + 4) 1)
  | none => false

/-- The frame is an LLDPDU that its port takes. -/
def State.isLldp (s : State) (a : Arrival) : Bool :=
  rd a.body (skipTags (s.tpids a.slice) 4 a.body 12) 2 == 0x88CC && s.on (A.pep a.lane) PE_PORT_CTRL_LLDP_EN

/-- The message timestamp point of an arrival: 8 bytes after its first bit (R127). -/
def State.stampPoint (s : State) (a : Arrival) : Nat := a.sof + 64 * 65536 / max 1 (s.portRate a.lane)

/-- Deliver a terminated frame: it is counted, and a Pdelay_Req is answered (R37, R220). What the engines do with other
messages are commands of their own. -/
def State.terminate (s : State) (a : Arrival) : State :=
  let s := s.bump (A.pr a.slice) PR_CNT_TERMINATED_COUNT
  match ptpIn (s.tpids a.slice) a.body with
  | some (o, 0) =>
    if rd a.body o 1 % 16 = 2 ∧ s.gptpPort a.lane then
      let s := if s.rxSkew a.lane true = 0 then s else s.bump (A.fit a.lane) FI_TSKEW_CNT_COUNT
      s.pdelayRespond a.lane (rd a.body (o + 30) 2) (rd a.body (o + 20) 10) (s.stampPoint a)
    else s
  | _ => s

/-! ## Classification (R219, R221–R226, R231) -/

/-- What a pass finds: the slot it matches with its action word, or the reason it ends with. -/
structure Matched where
  keys : Keys
  slot : Option Nat := none
  act : Nat := 0
  reason : Option Nat := none
  deriving DecidableEq, Repr

/-- A stream of slice `n` takes non-envelope frames: its entry is VALID and not a REPLAY entry (R219, R234). -/
def State.liveStream (s : State) (n x : Nat) : Bool := (s.entry n x).valid && (s.entry n x).kind != 1

/-- Look a parsed frame up in table `t` under epoch `e`. -/
def State.find (s : State) (l t : Nat) (second : Bool) (e mdata : Nat) (p : Pass) : Matched :=
  let n := sliceOf l
  match p.reason with
  | some r => { keys := p.keys, reason := some r }
  | none =>
    match s.tcamLookup n t e (keyOf (s.get (A.cf n) (CF_TABLE_WIDTH t)) l (bit second) mdata p.keys) with
    | none => { keys := p.keys, reason := some 0 }
    | some i =>
      let a := s.get (A.ttcam n i) CF_EA_ACTION
      let r := match actKind a with
        | 0 => if s.liveStream n (actStream a) then none else some 6
        | 2 => some 7
        | 3 => if second then some 5 else none
        | _ => none
      { keys := p.keys, slot := some i, act := a, reason := r }

/-- The first pass of an arrival under the current epoch. -/
def State.findFirst (s : State) (a : Arrival) : Matched :=
  s.find a.lane (s.get (A.cfp a.lane) CF_PORT_CTRL_TABLE1) false (s.get (A.cf a.slice) CF_EPOCH_CURRENT) 0
    (s.parse a.slice a.body)

/-- Where a frame goes: a stream with the action word that named it, a port without a stream, the second pass, or nowhere
(`rule` says that a DROP action or a DROP default dropped it). -/
inductive Route where
  | stream (x act : Nat)
  | port (l : Nat)
  | again
  | slow (reason : Nat)
  | drop (rule : Bool)
  deriving DecidableEq, Repr

/-- The default action of the port for reason `r` (R231). -/
def State.defaultRoute (s : State) (l r : Nat) : Route :=
  let b := A.cfp l
  if r = 7 then .slow 7
  else match s.get b CF_PORT_DEF_ACTIONS / 4 ^ r % 4 with
    | 0 => .drop true
    | 1 => .slow r
    | 2 => if s.isPort (s.get b CF_PORT_CTRL_DEF_PORT) then .port (s.get b CF_PORT_CTRL_DEF_PORT) else .drop false
    | _ => if s.liveStream (sliceOf l) (s.get b CF_PORT_CTRL_DEF_STREAM) then .stream (s.get b CF_PORT_CTRL_DEF_STREAM) 0
        else .drop false

/-- Where what a pass found sends the frame. -/
def State.route (s : State) (l : Nat) (f : Matched) : Route :=
  match f.reason with
  | some r => s.defaultRoute l r
  | none => match actKind f.act with
    | 0 => .stream (actStream f.act) f.act
    | 3 => .again
    | _ => .drop true

/-- Count the matched slot, and the reason whose default action the frame takes. -/
def State.countFound (s : State) (l : Nat) (f : Matched) : State :=
  let n := sliceOf l
  let s := match f.slot with
    | some i => s.bump (A.ttcam n i) CF_EHITS_HITS
    | none => s
  let s := if f.keys.flags.testBit flSHORT then s.bump (A.pr n) PR_CNT_SHORT_COUNT else s
  match f.reason with
  | some r => s.bump (A.cfp l) (CF_CNT_REASON_COUNT r)
  | none => s

/-! ## Class (R227) and counting by class (R344) -/

/-- Traffic class of a frame of stream `x` under action word `act`, or of a frame without a stream. -/
def State.classOf (s : State) (a : Arrival) (x : Option Nat) (act : Nat) : Nat :=
  match x with
  | none => s.pcpClass a.lane (s.outerPcp a)
  | some i =>
    let e := s.entry a.slice i
    let tc := (actTc act).getD e.tc
    match e.gate with
    | some g => (s.gateIpv a.slice g a.sof).getD tc
    | none => tc

/-- Events RX_FRAMES and RX_BYTES of a good frame. -/
def State.rxEvents (s : State) (a : Arrival) (cls : Option Nat) : State :=
  (s.event a.lane 1 cls 1).event a.lane 2 cls a.bytes.length

/-- A frame as injectors see it before it is parsed (R419): a terminated frame is none. -/
def State.injFrame (s : State) (a : Arrival) : Option InjFrame :=
  if s.isPtp a || s.isLldp a then none
  else match s.envelope? a.slice a.bytes with
    | some e =>
      let x := s.idMap a.slice (EnvF.streamId e)
      some { bytes := a.bytes, stream := x, cls := (x.map (fun i => (s.entry a.slice i).tc)).getD 0 }
    | none =>
      let f := s.findFirst a
      let r := match s.route a.lane f with
        | .stream x act => (some x, s.classOf a (some x) act)
        | _ => (none, s.classOf a none 0)
      some { bytes := a.bytes, stream := r.1, slot := f.slot, cls := r.2 }

/-! ## The slow path (R232) -/

/-- Slow-path tokens of slice `n` in billionths. -/
def State.slowTokens (s : State) (n : Nat) : Nat :=
  let x := SMap.get (0, 0) s.slowBuckets n
  let full := 256 * tokenUnit
  if x.2 = 0 then full else min full (x.1 + s.get (A.pr n) PR_SLOW_CTRL_RATE * s.since (x.2 - 1))

/-- Send a frame to the slow path with its reason code, or drop it at the limit. -/
def State.toSlow (s : State) (a : Arrival) (r : Nat) : State :=
  let n := a.slice
  if s.on (A.pr n) PR_SLOW_CTRL_EN && decide (tokenUnit ≤ s.slowTokens n) then
    let s := { s with slowBuckets := SMap.set (0, 0) n (s.slowTokens n - tokenUnit, s.time.clk + 1) s.slowBuckets }
    let s := (s.bump (A.pr n) PR_CNT_SLOW_COUNT).event a.lane 14 none 1
    { s with slow := s.slow ++ [{ lane := a.lane, bytes := a.bytes, at_ := a.sof, scene := s.portScene a.lane a.sof, cause := r }] }
  else s.bump (A.pr n) PR_CNT_SLOW_DROP_COUNT

/-! ## To Caldera (R194, R215 steps 9 and 10, R234, R236, R253) -/

/-- The index that stands for no stream in a launch. -/
def noStream : Nat := 262144

/-- A frame on its way to Caldera. -/
structure Handed where
  arrival : Arrival
  bytes : Bytes
  stream : Option Nat
  slot : Option Nat
  flow : Option Nat
  cls : Nat
  gen : Option Nat
  rec_ : Option Nat
  again : Bool
  deriving DecidableEq, Repr

/-- The slices of a list of ports, each once. -/
def slicesOf (ports : List Nat) : List Nat := (List.range 8).filter (fun n => ports.any (fun l => sliceOf l == n))

/-- A frame bound for a slice that does not serve is dropped at ingress, counted as missed of its stream (R29). -/
def State.unreachable (s : State) (x : Option Nat) : State :=
  match x with
  | some i => s.streamMissed i
  | none => s

/-- Take the relay cells of one port, or count the drop (R110, R111): the ports that have them. -/
def State.takePorts (s : State) (cells : Nat) : List Nat → List Nat × State
  | [] => ([], s)
  | l :: ls =>
    if cells ≤ s.relayFree l then
      let r := (s.takeRelay l cells).takePorts cells ls
      (l :: r.1, r.2)
    else (s.bump (A.hmp l) HM_CNT_RELAY_DROP_COUNT).takePorts cells ls

/-- An ordinary relay frame enters Caldera for its ports, slice by slice. -/
def State.toCaldera (s : State) (h : Handed) (ports : List Nat) : State :=
  (slicesOf ports).foldl (fun s n =>
    if !s.sliceServes n then s.unreachable h.stream
    else
      let r := s.takePorts (cellsFor h.bytes.length) (ports.filter (fun l => sliceOf l == n))
      if r.1.isEmpty then r.2
      else
        let x : Crossing :=
          { bytes := h.bytes, lanes := r.1, cls := h.cls, stream := h.stream, flow := h.flow, slot := h.slot, rec_ := h.rec_,
            gen := h.gen, lane := h.arrival.lane, sof := h.arrival.sof, again := h.again }
        { r.2 with crossing := SMap.set [] n (SMap.get [] r.2.crossing n ++ [x]) r.2.crossing }) s

/-- A live frame as the egress half of slice `n` sends it, if its recovery function passes it (R248, R253, R254). -/
def State.leaveCaldera (s : State) (n : Nat) (rec_ gen : Option Nat) (b : Bytes) : Option Bytes × State :=
  let pop := match rec_ with
    | some i => s.on (A.trecf n i) FR_REC_W0_EN && s.on (A.trecf n i) FR_REC_W0_POP
    | none => false
  match s.recover n rec_ (rtagSeq (s.tpids n) b) gen with
  | (false, s) => (none, s)
  | (true, s) => (some (retag (s.tpids n) gen pop b), s)

/-- A frame that a window accepted leaves the cell's ports at SOF + D (R194, R195, R203, R210). -/
def State.starForward (s : State) (h : Handed) (f : GuardIn) (j : Judged) (mirror trailer : Bool) (ports : List Nat) : State :=
  let c := f.port.cell
  let out := s.forwardPorts f mirror ports
  let s := (slicesOf out).foldl (fun s n =>
    if !s.sliceServes n then s.unreachable h.stream
    else match s.leaveCaldera n h.rec_ h.gen h.bytes with
      | (none, s) => s
      | (some b, s) => (out.filter (fun l => sliceOf l == n)).foldl (fun s l =>
          s.launchFrame l (h.stream.getD noStream) h.cls (f.sof + s.starQ c) .forwarded (s.forwardBytes f j b)) s) s
  s.keepFrame f j h.bytes (h.stream.getD noStream) trailer out

/-! ## Steps 6 to 10 of R215 -/

/-- A frame with its port's record. -/
def Arrival.guardIn (a : Arrival) (p : PortRec) (cold : Bool) : GuardIn :=
  { port := p, sof := a.sof, bytes := a.bytes, intact := a.intact, cold := cold }

/-- Ports a frame goes to: its stream's egress, or the one port of a RELAY default. -/
def State.targets (s : State) (a : Arrival) (x : Option Nat) (port : Nat) : List Nat :=
  match x with
  | some i =>
    let e := s.entry a.slice i
    if e.kind = 2 then [] else (s.entryPorts a.slice e (some a.lane)).filter s.isPort
  | none => [port]

/-- A frame that passed guardian and policing: generation, capture, and Caldera. -/
def State.passOn (s : State) (a : Arrival) (p : PortRec) (x : Option Nat) (act port : Nat) (slot : Option Nat) (again : Bool)
    (j : Judged) (cap : CapFrame) (b : Bytes) : State :=
  let e := s.entry a.slice (x.getD noStream)
  let g := match x, e.gen with
    | some _, some g => s.generate a.slice g e.cell
    | _, _ => (none, s)
  let s := g.2.capture { cap with verdict := j.verdict } false
  let h : Handed :=
    { arrival := a, bytes := b, stream := x, slot := slot, cls := cap.tc, gen := g.1, again := again,
      flow := x.bind (fun _ => (actFlow act).orElse (fun _ => e.flow)), rec_ := x.bind (fun _ => e.rec_) }
  let out := s.targets a x port
  if j.verdict = vdNone || j.relay then s.toCaldera h out
  else s.starForward h (a.guardIn p (actCold act)) j (x.isSome && e.mirror) (x.isSome && e.trailer) out

/-- Steps 6 to 10 for a frame that goes to stream `x`, or to `port` without a stream. -/
def State.judgeFrame (s : State) (a : Arrival) (x : Option Nat) (act port : Nat) (slot : Option Nat) (again : Bool) : State :=
  match s.port? a.lane with
  | none => s
  | some p =>
    let e := s.entry a.slice (x.getD noStream)
    let cls := s.classOf a x act
    let s := s.rxEvents a (some cls)
    let s := match x with
      | some i => s.stCount i 0
      | none => s
    let cap : CapFrame :=
      { lane := a.lane, bytes := a.bytes, at_ := a.sof, scene := s.portScene a.lane a.sof, tc := cls, stream := x,
        profile := if actCap act = 0 then (if x.isSome then e.cap else 0) else actCap act }
    let f := a.guardIn p (actCold act)
    let r := s.guard f a.stepped
    let j := r.1
    let s := r.2
    if j.verdict = vdCsForwarded then
      match s.coldstart f cap with
      | (some y, s) => s.capture y true
      | (none, s) => s
    else if vdDrops j.verdict then s.capture { cap with verdict := j.verdict, cause := 1 } true
    else
      match x with
      | none => s.passOn a p none act port slot again j cap a.bytes
      | some i =>
        match s.police a.slice i e a.sof (s.time.clk + s.rxQ a.lane a.bytes.length / 65536) a.bytes with
        | (.drop c, s) => s.capture { cap with verdict := j.verdict, cause := c } true
        | (.pass b, s) => s.passOn a p x act port slot again j cap b

/-! ## Recirculation (R230) -/

/-- The frame joins its pipeline's recirculation queue. -/
def State.recirculate (s : State) (a : Arrival) (f : Matched) : State :=
  let k := a.slice * 8 + pipelineOf a.lane
  let q := SMap.get [] s.recirc k
  if q.length < 64 then
    let s := (s.bump (A.pr a.slice) PR_CNT_RECIRC_COUNT).event a.lane 13 none 1
    let x : Recirc :=
      { lane := a.lane, bytes := a.bytes, sof := a.sof, epoch := s.get (A.cf a.slice) CF_EPOCH_CURRENT,
        inner := if actDecap f.act = 1 then f.keys.tunnel else none, mdata := actMeta f.act, slot := f.slot.getD 0,
        intact := a.intact, stepped := a.stepped }
    { s with recirc := SMap.set [] k (q ++ [x]) s.recirc }
  else s.bump (A.pr a.slice) PR_CNT_RECIRC_DROP_COUNT

/-- Carry out a route. -/
def State.follow (s : State) (a : Arrival) (f : Matched) (slot : Option Nat) (again : Bool) : State :=
  match s.route a.lane f with
  | .stream x act => s.judgeFrame a (some x) act 0 slot again
  | .port l => s.judgeFrame a none 0 l slot again
  | .again => s.recirculate a f
  | .slow r => (s.rxEvents a none).toSlow a r
  | .drop rule =>
    let s := s.rxEvents a none
    if rule then
      s.capture { lane := a.lane, bytes := a.bytes, at_ := a.sof, scene := s.portScene a.lane a.sof, cause := 5,
                  profile := actCap f.act } true
    else s

/-- RECIRC_PASS: the head of pipeline `p`'s recirculation queue on slice `n` makes its second pass. -/
def State.recircPass (s : State) (n p : Nat) : State :=
  match SMap.get [] s.recirc (n * 8 + p) with
  | [] => s
  | x :: xs =>
    let s := { s with recirc := SMap.set [] (n * 8 + p) xs s.recirc }
    let a : Arrival := { lane := x.lane, bytes := x.bytes, sof := x.sof, intact := x.intact, stepped := x.stepped }
    let f := s.find x.lane (s.get (A.cfp x.lane) CF_PORT_CTRL_TABLE2) true x.epoch x.mdata
      (s.parseInner n a.body { tunnel := x.inner })
    (s.countFound x.lane f).follow a f (some x.slot) true

/-- RECIRC_PASS. -/
def execRecircPass (n p : Nat) (s : State) : Host.Outcome State Fault Refusal := .next (s.atSlice n (·.recircPass n p))

/-! ## INGRESS_FRAME -/

/-- A frame from the parser on. -/
def State.parseFrame (s : State) (a : Arrival) : State :=
  if s.isPtp a || s.isLldp a then (s.rxEvents a none).terminate a
  else match s.envelope? a.slice a.bytes with
    | some e => (s.rxEvents a none).envelope a.lane e
    | none =>
      let f := s.findFirst a
      (s.countFound a.lane f).follow a f f.slot false

/-- A frame of the pair protocol: untagged, to its address, with its EtherType (R258). -/
def State.isPairFrame (s : State) (b : Bytes) : Bool := rd b 0 6 == 0x0180C200000E && rd b 12 2 == s.get A.up UP_CTRL_ETHERTYPE

/-- A frame at the FCS check: counters, capture of errored frames, the drops before service and at a full input queue, and
the parser. -/
def State.receive (s : State) (a : Arrival) (full : Bool) : State :=
  let l := a.lane
  if !fcsOk a.bytes then
    let s := (s.bump (A.msp l) MSS_RX_FCS_ERR_COUNT).event l 15 none 1
    if s.datapath && !s.isPairLink l then
      s.captureErrored { lane := l, bytes := a.bytes, at_ := a.sof, scene := s.portScene l a.sof }
    else s
  else
    let s := s.countRx l a.bytes.length
    if s.isPairLink l then
      let s := s.rxEvents a none
      if s.isPairFrame a.bytes then s else s.bump A.up UP_CNT_FOREIGN_COUNT
    else if full then (s.rxEvents a none).bump (A.mss a.slice) (MSS_OVERRUN_COUNT (pipelineOf l))
    else if !s.datapath && !s.isPtp a then
      let s := s.rxEvents a none
      if 1 ≤ s.mode ∧ s.mode ≤ 5 ∨ s.mode = 10 then s.bump (A.msp l) MSS_RX_PRE_SERVICE_COUNT else s
    else if s.datapath && !s.sliceServes a.slice then s.rxEvents a none
    else s.parseFrame a

/-- A received frame meets the port's ingress injectors, then the FCS check (R419–R421). -/
def State.arrive (s : State) (a : Arrival) (full : Bool) : State :=
  match (if s.injectionOn then s.injFrame a else none) with
  | none => s.receive a full
  | some f =>
    match s.inject a.lane 1 a.inj f with
    | (s, .pass b) => s.receive { a with bytes := b } full
    | (s, .drop) => s
    | (s, .hold k b) => s.holdFrame a.lane k { bytes := b, at_ := a.sof, left := none, stepped := a.stepped, intact := a.intact }

/-- INGRESS_FRAME: frame `b` with its FCS starts to arrive on port `l` now; `intact` says that the entry of its window
passes its complement check, `full` that its pipeline's input queue has no place for it. -/
def execIngressFrame (l : Nat) (b : List Byte) (intact full : Bool) (s : State) : Host.Outcome State Fault Refusal :=
  .next (if s.isPort l && s.linkUp l then s.arrive { lane := l, bytes := b, sof := s.nowQ, intact := intact } full else s)

/-! ## EGRESS_ENQUEUE (R28, R155, R254) -/

/-- Ingress and egress stage of R27 in ns for a lane rate code. -/
def stageNs : Nat → Nat × Nat
  | 5 => (180, 50) | 4 => (260, 70) | 3 => (400, 110) | 2 => (520, 160) | _ => (700, 250)

/-- Instant at which a frame's first bytes reach an egress half (R27, R28). -/
def State.halfQ (s : State) (x : Crossing) : Nat :=
  x.sof + nsQ ((stageNs (s.get (A.lnp x.lane) LN_PORT_TIMING_LANE_RATE)).1 + 320)

/-- Instant at which its first bit may leave port `l`: ingress stage, 370 ns and egress stage after the SOF (R28). -/
def State.cutQ (s : State) (x : Crossing) (l : Nat) : Nat :=
  let st := fun l => stageNs (s.get (A.lnp l) LN_PORT_TIMING_LANE_RATE)
  x.sof + nsQ ((st x.lane).1 + 370 + (st l).2)

/-- The egress port admits cut-through as the frame's first bytes reach the egress half: its rate, its queue and its wire
(R28). -/
def State.cutFits (s : State) (x : Crossing) (l : Nat) : Bool :=
  decide (s.portRate l ≤ s.portRate x.lane) && !x.again && (s.classFrames l x.cls).isEmpty &&
    (match (s.wire l).tx with
      | none => true
      | some y => decide (y.stop ≤ s.nowQ))

/-- A frame from Caldera reaches the egress half of slice `n`: recovery, then one copy for each of its ports. -/
def State.split (s : State) (n : Nat) (x : Crossing) : List Crossing × State :=
  let c := cellsFor x.bytes.length
  let r := if s.sliceServes n then s.leaveCaldera n x.rec_ x.gen x.bytes else (none, s.unreachable x.stream)
  match r with
  | (none, s) => ([], x.lanes.foldl (fun s l => s.freeRelay l c) s)
  | (some b, s) =>
    (x.lanes.map (fun l =>
      { x with bytes := b, lanes := [l], left := true, cells := c, cut := s.cutFits x l, due := s.cutQ x l }), s)

/-- A copy's instant has come: it enters its queue, or without cut-through it waits for its last bit (R28, R458). -/
def State.offer (s : State) (x : Crossing) : List Crossing × State :=
  let l := x.lanes.headD 0
  let last := s.cutQ x l + s.rxQ x.lane x.bytes.length
  if (x.cut && s.gateOpen l x.cls && !s.inShadow l s.nowQ) || decide (last ≤ s.nowQ) then
    ([], s.enqueue l x.cls { bytes := x.bytes, stream := x.stream, flow := x.flow, cells := x.cells, slot := x.slot })
  else ([{ x with cut := false, due := last }], s)

/-- EGRESS_ENQUEUE: the oldest frame bound for slice `n` whose instant has come moves on towards its queues. -/
def State.leave (s : State) (n : Nat) : State :=
  let q := SMap.get [] s.crossing n
  let due := fun (x : Crossing) => decide ((if x.left then x.due else s.halfQ x) ≤ s.nowQ)
  match q.findIdx? due with
  | none => s
  | some i => match q[i]? with
    | none => s
    | some x =>
      let (ys, s) := if x.left then s.offer x else s.split n x
      { s with crossing := SMap.set [] n (q.take i ++ ys ++ q.drop (i + 1)) s.crossing }

/-- EGRESS_ENQUEUE. -/
def execEgressEnqueue (n : Nat) (s : State) : Host.Outcome State Fault Refusal := .next (s.atSlice n (·.leave n))

/-! ## FRAGMENT_RECEIVE (R172) -/

/-- What the check bytes at the end of a fragment say of the frame so far: that it is complete, that it goes on, or neither. -/
inductive FragEnd where
  | last | more | bad
  deriving DecidableEq, Repr

/-- The end of a fragment whose frame has the bytes `x` so far and the check bytes `c` (log entry 7): the FCS, or the mCRC,
which is the CRC with its last two bytes inverted. -/
def fragEnd (x c : Bytes) : FragEnd :=
  let f := fcsOf x
  if f = c then .last
  else if f.take 2 ++ (f.drop 2).map (~~~ ·) = c then .more
  else .bad

/-- A fragment's data joins the frame in progress: the frame completes, waits for its next fragment, or fails its check. -/
def State.joinFragment (s : State) (l : Nat) (x b : Bytes) (count next sof : Nat) : State :=
  let d := x ++ b.take (b.length - 4)
  let c := b.drop (b.length - 4)
  let keep := fun (s : State) (v : Option (Bytes × Nat × Nat × Nat)) => s.setMerge l { s.merge l with rx := v }
  match fragEnd d c with
  | .more => keep s (some (d, count, next, sof))
  | .last => ((keep s none).bump (A.pep l) PE_CNT_ASSY_OK_COUNT).arrive { lane := l, bytes := d ++ c, sof := sof } false
  | .bad => (keep s none).arrive { lane := l, bytes := d ++ c, sof := sof } false

/-- FRAGMENT_RECEIVE: a fragment with SMD-S (`smd` 0), SMD-C (1) or an unknown SMD arrives, with its frame count, its
fragment count, and its data with check bytes. -/
def State.fragment (s : State) (l smd count frag : Nat) (b : Bytes) : State :=
  let e := A.pep l
  let s := if smd < 2 then s.bump e PE_CNT_FRAG_RX_COUNT else s
  if 2 ≤ smd || !s.on e PE_PORT_CTRL_EN then s.bump e PE_CNT_SMD_ERR_COUNT
  else if smd = 0 then
    let s := if (s.merge l).rx.isSome then s.bump e PE_CNT_ASSY_ERR_COUNT else s
    s.joinFragment l [] b count 0 s.nowQ
  else match (s.merge l).rx with
    | some (x, n, k, sof) =>
      if n = count ∧ k = frag then s.joinFragment l x b n ((k + 1) % 4) sof
      else (s.bump e PE_CNT_ASSY_ERR_COUNT).setMerge l { s.merge l with rx := none }
    | none => s.bump e PE_CNT_ASSY_ERR_COUNT

/-- FRAGMENT_RECEIVE. -/
def execFragmentReceive (l smd count frag : Nat) (b : List Byte) (s : State) : Host.Outcome State Fault Refusal :=
  .next (if s.isPort l && s.linkUp l then s.fragment l smd count frag b else s)

end Sys2Proof.Machine
end

