-- ==== Sys2Proof/Machine/Transmit.lean ====
section
/-!
DEFINITION. What follows a transmission, a port's link going down and coming up, and the commands of the fault injectors
(spec/04_feeds_hold.md R113, R120; spec/05_launch_gates.md R136; spec/06_preemption_shaping.md R167, R171;
spec/17_selftest_faults.md R418–R424).
-/

namespace Sys2Proof.Machine

/-! ## TRANSMIT_COMPLETE (R113, R120, R343, R352) -/

/-- The last launched frame of a REPEAT stream stays in hold memory (R120). -/
def State.retains (s : State) (x : Launch) : Bool :=
  x.kind == .replay && !x.held.noRepeat && !x.held.isRepeat && s.policy x.held.stream == 1 &&
    s.on (A.tfeed x.held.stream) HM_FEED_W0_EN && s.get (A.tfeed x.held.stream) HM_FEED_W4_STATE != 3 &&
    (s.curSeg x.held.clock).map (·.epoch) == some x.held.epoch

/-- A launch frame's last bit has left port `l`: its sample, and its cells. -/
def State.launchDone (s : State) (l : Nat) (t : Tx) (x : Launch) : State :=
  let s := s.sample l { s.sampleOf l x with actual := t.start, late := decide (x.t0 < t.start) }
  if s.retains x then
    let f := s.feed x.held.stream
    s.setFeed x.held.stream { f with retained := f.retained ++ [x.held] }
  else s.freeLaunch x

/-- What leaves with a transmission's last bit: the whole frame, or its last fragment. `skew` delays an event message
(R422). -/
def Tx.output (t : Tx) (l skew : Nat) : Output :=
  if t.frags = 0 then .frame l (t.start + nsQ skew) t.frame.bytes else .fragment l t.start (t.frame.bytes.drop t.sent)

/-- The last bit of the frame on the wire of port `l` has left. -/
def State.transmitDone (s : State) (l : Nat) : State :=
  let w := s.wire l
  match w.tx with
  | none => s
  | some t =>
    if s.nowQ < t.stop then s
    else
      let skew := s.ownSkew l t.frame.own
      let s := s.setWire l { w with tx := none }
      let s := if t.dropped then s
        else (s.emit (t.output l skew)).countTx l t.frame.bytes.length (some t.cls) t.launch.isSome
      let s := if skew = 0 then s else s.bump (A.fit l) FI_TSKEW_CNT_COUNT
      let s := match t.launch with
        | some x => s.launchDone l t x
        | none => s.freeRelay l t.frame.cells
      let s := s.ownSent l t.frame.own (t.start + 64 * 65536 / max 1 (s.portRate l))
      (((s.refreshPe l).groupIdle l).recredit l)

/-- TRANSMIT_COMPLETE. -/
def execTransmitComplete (l : Nat) (s : State) : Host.Outcome State Fault Refusal := .next (s.atPort l (·.transmitDone l))

/-! ## PORT_LINK_LOSS, PORT_LINK_UP -/

/-- A transmission is lost with its link: its cells are freed. -/
def State.loseTx (s : State) (l : Nat) (t : Tx) : State :=
  let s := if t.frags = 0 then s else s.bump (A.pep l) PE_CNT_TX_ABORT_COUNT
  match t.launch with
  | some x => s.freeLaunch x
  | none => s.freeRelay l t.frame.cells

/-- Record the lane rate that port `l` runs at: 0 while its link is down (R126, R456). -/
def State.setRate (s : State) (l code : Nat) : State :=
  let s := (s.put (A.lnp l) LN_PORT_TIMING_LANE_RATE code).put (A.lnp l) LN_PORT_TIMING_TX_ADJ_NS (pcsAllowance code)
  (List.range (s.get (A.lnp l) LN_PORT_TIMING_LANES)).foldl (fun s k =>
    s.put (A.sd (l / 64)) (SD_LANE_RATE (l % 64 + k)) code) s

/-- The link of port `l` goes down. -/
def State.linkLoss (s : State) (l : Nat) : State :=
  let s := (s.put (A.lnp l) LN_PORT_STATUS_LINK_UP 0).setRate l 0
  let w := s.wire l
  let s := s.setWire l { freeAt := s.nowQ }
  let s := (w.tx.toList ++ w.preempted.toList).foldl (fun s t => s.loseTx l t) s
  let s := (s.put (A.pep l) PE_PORT_STATUS_TX_IN_PROGRESS 0).setMerge l { s.merge l with rx := none }
  ((s.refreshPe l).groupIdle l).recredit l

/-- PORT_LINK_LOSS. -/
def execPortLinkLoss (l : Nat) (s : State) : Host.Outcome State Fault Refusal := .next (s.atPort l (·.linkLoss l))

/-- The link of port `l` comes up with its training complete, at a lane rate that the image allows; pre-emption
verification starts again. A port with a lane that failed its self-test stays down (R417). -/
def State.linkGain (s : State) (l code : Nat) : State :=
  match s.port? l with
  | none => s
  | some p =>
    if code = 0 ∨ 5 < code ∨ !p.rates.testBit (code - 1) ∨ s.tests.badLanes.any (fun j => decide (l ≤ j ∧ j < l + p.lanes))
    then s
    else (((s.put (A.lnp l) LN_PORT_STATUS_LINK_UP 1).setRate l code).startVerify l).refreshPe l

/-- PORT_LINK_UP of port `l` at the lane rate of code `rate`. -/
def execPortLinkUp (l rate : Nat) (s : State) : Host.Outcome State Fault Refusal :=
  .next (s.atPort l (·.linkGain l rate))

/-! ## Fault injector commands -/

/-- One INFO journal entry of the slice's fault injectors (R423). -/
def State.journalInjector (s : State) (l : Nat) : State :=
  s.reportAs (srcSlice (sliceOf l) 10) ⟨0x00FF, 0, objPort, l, 0⟩

/-- The start instant of injector `k`. -/
def State.injStart (s : State) (l k : Nat) : Nat :=
  ofStamp (s.get (A.fii l k) FI_INJ_START_SEC_SEC) (s.get (A.fii l k) FI_INJ_START_NS_NS) 0

/-- A written FI_INJ_CTRL word is accepted. -/
def injCtrlOk (w : Nat) : Bool := bitsOf w 31 24 != 0

/-- Store a written FI_INJ_CTRL word; ARM arms the injector now or from its start instant (R423). -/
def State.injCtrl (s : State) (l k w : Nat) : State :=
  let b := A.fii l k
  let s := s.setWord b (BitVec.ofNat 64 (w - bitsOf w 23 5 * 2 ^ 5))
  if w.testBit 0 then
    let s := (s.put b FI_INJ_STATUS_DONE 0).setInjector l k { s.injector l k with selected := 0, done := 0 }
    let s := s.put b FI_INJ_STATUS_ACTIVE (bit (!w.testBit 4 || decide (s.injStart l k ≤ s.nowQ)))
    s.journalInjector l
  else s.put b FI_INJ_STATUS_ACTIVE 0

/-- INJECTOR_ARM: word `w`, whose ARM is 1, is written to FI_INJ_CTRL of injector `k` of port `l`. -/
def execInjectorArm (l k w : Nat) (s : State) : Host.Outcome State Fault Refusal :=
  .next (s.atPort l (fun s => if k < 4 && s.injectionOn && w.testBit 0 && injCtrlOk w then s.injCtrl l k (w % 2 ^ 64) else s))

/-- INJECTOR_START: the start instant of an armed injector has come. -/
def execInjectorStart (l k : Nat) (s : State) : Host.Outcome State Fault Refusal :=
  .next (s.atPort l (fun s =>
    let b := A.fii l k
    if k < 4 && s.injectionOn && s.on b FI_INJ_CTRL_ARM && s.on b FI_INJ_CTRL_START_EN && decide (s.injStart l k ≤ s.nowQ) then
      s.put b FI_INJ_STATUS_ACTIVE 1
    else s))

/-- An egress frame goes back to the head of its class (R421). -/
def State.requeue (s : State) (l k : Nat) (f : EgFrame) : State :=
  if s.algo l k = 2 then
    let i := (s.flowFor l k f).1
    let q := s.flow l i
    (s.setFlow l i (f :: q)).headChanged l i f.bytes.length q.isEmpty
  else (s.setQueue l k (f :: s.queue l k)).recredit l

/-- Release the frame that injector `k` of port `l` holds; with `skip` it meets only the injectors after it. -/
def State.releaseHeld (s : State) (l k : Nat) : State :=
  let y := s.injector l k
  match y.held with
  | none => s
  | some h =>
    let s := (s.setInjector l k { y with held := none }).checkLimit l k
    match h.launch, h.frame with
    | some x, _ =>
      { s with launches := insertLaunch { x with staged := some h.bytes, inj := k + 1, released := s.nowQ } s.launches }
    | none, some f => s.requeue l h.cls { f with bytes := h.bytes, inj := k + 1 }
    | none, none =>
      s.arrive { lane := l, bytes := h.bytes, sof := h.at_, intact := h.intact, stepped := h.stepped, inj := k + 1 } false

/-- The held frame is due: K later selected frames have passed, or its time has (R420). -/
def State.heldDue (s : State) (l k : Nat) (h : InjHeld) : Bool :=
  h.left == some 0 || decide (h.at_ + nsQ (s.get (A.fii l k) FI_INJ_PARAM_DELAY_NS) ≤ s.nowQ)

/-- INJECTOR_RELEASE. -/
def execInjectorRelease (l k : Nat) (s : State) : Host.Outcome State Fault Refusal :=
  .next (s.atPort l (fun s => match (s.injector l k).held with
    | some h => if s.heldDue l k h then s.releaseHeld l k else s
    | none => s))

/-- Store a written FI_TSKEW word; a change is journalled (R423). -/
def State.tskew (s : State) (l w : Nat) : State :=
  let b := A.fit l
  let v := BitVec.ofNat 64 (w - bitsOf w 15 4 * 16)
  if s.word b = v then s else (s.setWord b v).journalInjector l

/-- FI_TSKEW_WRITE: word `w` is written to FI_TSKEW of port `l`. -/
def execFiTskewWrite (l w : Nat) (s : State) : Host.Outcome State Fault Refusal :=
  .next (s.atPort l (fun s => if s.injectionOn then s.tskew l (w % 2 ^ 64) else s))

/-- Injection ends with Service or Diagnostic: every injector is disarmed, every held frame is released unchanged, and
the FI registers return to their Reset values (R418, R424). -/
def State.disarmAll (s : State) : State :=
  let s := s.injectors.foldl (fun s e => s.releaseHeld (e.1 / 4) (e.1 % 4)) s
  let s := s.clearWords (fun a => decide (0x10000000 ≤ a ∧ a < 0x18000000) && a / 0x100000 % 16 == 12)
  { s with injectors := [] }

end Sys2Proof.Machine
end

