-- ==== Sys2Proof/Machine/Pair.lean ====
section
/-!
DEFINITION. Pair links, heartbeats, authority and launch digests of a unit pair (spec/09_redundancy.md R258–R274).
Pair link 0 is P-A, 1 is P-B.
-/

namespace Sys2Proof.Machine

/-! ## Links (R258–R260) -/

/-- The lane of pair link `k`. -/
def State.pairLane (s : State) (k : Nat) : Option Nat := if k = 0 then s.image.pa else s.image.pb

/-- Pair link `k`. -/
def State.pairLink (s : State) (k : Nat) : PairLink := if k = 0 then s.pair.linkA else s.pair.linkB

/-- Store pair link `k`. -/
def State.setPairLink (s : State) (k : Nat) (x : PairLink) : State :=
  { s with pair := if k = 0 then { s.pair with linkA := x } else { s.pair with linkB := x } }

/-- The status bit of pair link `k`. -/
def pairUp (k : Nat) : Fld := if k = 0 then UP_STATUS_LINK_A_UP else UP_STATUS_LINK_B_UP

/-- The pair protocol runs in this mode: its ports are on. -/
def State.pairRuns (s : State) : Bool := s.on A.up UP_CTRL_EN && s.ptpRuns

/-- A pair frame from pair link `k`: it is sent where the link of its port is up. -/
def State.sendPair (s : State) (k : Nat) (body : Bytes) (own : OwnKind) : State :=
  match s.pairLane k with
  | some l =>
    if s.linkUp l then
      s.sendOwn l (ethFrame 0x0180C200000E (((s.port? l).map (·.mac)).getD 0) none (s.get A.up UP_CTRL_ETHERTYPE) body) own
    else s
  | none => s

/-- A message of the pair protocol closed by its CRC. -/
def closeCrc (b : Bytes) : Bytes := b ++ be 4 (crc32c b)

/-- The partner has just come to be heard, or stopped being heard: the authority starts its state messages again from what
the partner has acknowledged, with a snapshot (R270; log entry 40). -/
def State.hearing (s : State) (was : Bool) : State :=
  if was = s.heard then s
  else if was then s.raise A.up UP_EVENT_FLAGS 4
  else { s with pair := { s.pair with stateSeq := s.pair.acked, unacked := [], snapDue := s.role == 1 } }

/-- Index of the 10 µs interval of physical time in progress. -/
def State.beat (s : State) : Nat := s.nowNs / 10000

/-- Account for the interval of link `k` that has ended (R260): a link is UP after three with a heartbeat, DOWN after
HB_LOSS without. -/
def State.endInterval (s : State) (k : Nat) : State :=
  let x := s.pairLink k
  let b := A.up
  if s.beat = x.interval ∨ (s.pairLane k).isNone then s
  else
    let was := s.heard
    let s :=
      if x.got then
        let s := s.setPairLink k { x with interval := s.beat, got := false, good := x.good + 1, missed := 0 }
        if 3 ≤ x.good + 1 then s.put b (pairUp k) 1 else s
      else
        let s := s.setPairLink k { x with interval := s.beat, good := 0, missed := x.missed + 1 }
        let s := s.bump b UP_CNT_HB_LOST_COUNT
        if s.get b UP_CTRL_HB_LOSS ≤ x.missed + 1 then s.put b (pairUp k) 0 else s
    s.hearing was

/-- PAIR_LINK_TIMEOUT: the interval that has just ended without a heartbeat takes pair link `k` DOWN (R260). -/
def State.pairTimeout (s : State) (k : Nat) : State :=
  let x := s.pairLink k
  if 2 ≤ k ∨ !s.pairRuns ∨ x.got ∨ x.missed + 1 < s.get A.up UP_CTRL_HB_LOSS then s else s.endInterval k

/-- PAIR_LINK_TIMEOUT. -/
def execPairLinkTimeout (k : Nat) (s : State) : Host.Outcome State Fault Refusal := .next (s.pairTimeout k)

/-! ## Roles and modes (R265–R269, R382) -/

/-- The mode becomes `m`; injection ends as the module leaves Service or Diagnostic (R418, R424). -/
def State.toMode (s : State) (m c : Nat) : State :=
  let leaves := s.injectionOn && s.mode != m
  let s := s.setMode m c
  if leaves then s.disarmAll else s

/-- A slice or a DDR5 channel is fenced, or drains for a fence. -/
def State.anyFence (s : State) : Bool :=
  (List.range 8).any s.sliceFenced || s.get A.md MD_DDR_FENCE_CHANNELS != 0 || s.drains.any (fun (d : Drain) => d.fence)

/-- The unit serves in mode `m`, 6 or 7; while something is fenced it is in Reshape and returns to `m` (R382). -/
def State.serveAs (s : State) (m c : Nat) : State :=
  if s.mode = 8 then s.put A.md MD_STATUS_RETURN_MODE m
  else if s.anyFence then (s.toMode 8 c).put A.md MD_STATUS_RETURN_MODE m
  else if s.mode = m then s
  else s.toMode m c

/-- The unit takes authority (R269, R292). -/
def State.takeAuthority (s : State) : State :=
  let s := (s.put A.up UP_STATUS_ROLE 1).put A.up UP_HANDOVER_MS_INDEX 0xFFFFFFFF
  let s := (s.bump A.up UP_CNT_TAKEOVER_COUNT).raise A.up UP_EVENT_FLAGS 0
  let s := match s.pair.head with
    | some h => s.put A.jr JR_SEQ_NEXT (max (s.get A.jr JR_SEQ_NEXT) ((h + 1) % 2 ^ 64))
    | none => s
  let s := s.report 2 0x0002 objNone 0 1
  let s := { s with pair := { s.pair with
    waitFrom := none, stateSeq := s.pair.acked, unacked := [], snapDue := s.heard, tryAt := none } }
  let s := s.enabledFeeds.foldl (fun s x =>
    let f := s.feed x
    s.setFeed x { f with floor := f.mirrored, eventDue := true }) s
  s.serveAs 6 2

/-- The unit enters Mirror, where it waits for a snapshot (R271). -/
def State.enterMirror (s : State) : State :=
  let s := (s.put A.up UP_STATUS_ROLE 2).put A.up UP_HANDOVER_MS_INDEX 0xFFFFFFFF
  let s := { s with pair := { s.pair with
    waitFrom := none, mirrorAt := s.time.clk, snapped := false, snapDue := false, unacked := [], tryAt := none } }
  s.serveAs 7 2

/-- The unit yields authority (R265). -/
def State.yieldAuthority (s : State) : State :=
  ((s.bump A.up UP_CNT_YIELD_COUNT).raise A.up UP_EVENT_FLAGS 1).enterMirror

/-- Merit of the partner. -/
def State.partnerMerit (s : State) : Nat := s.get A.up UP_PARTNER_CLAIM_CLAIM - s.get A.up UP_PARTNER_CLAIM_PENALTY

/-- Role of the partner. -/
def State.partnerRole (s : State) : Nat := s.get A.up UP_PARTNER_CLAIM_ROLE

/-- REVERT_REQ: the conditions of a coordinated handover hold (R265). -/
def State.revertReq (s : State) : Bool :=
  s.role == 2 && s.on A.up UP_CTRL_REVERT_EN && decide (s.partnerMerit < s.merit) &&
    s.get A.up UP_PARTNER_CLAIM_PENALTY == 0 && s.clean && decide (s.get A.up UP_REVERT_HOLD_MS ≤ s.cleanMs)

/-- Both units hold authority and hear each other: one yields at once (R268). -/
def State.resolveSplit (s : State) : State :=
  let s := if s.pair.split then s
    else
      let s := (s.bump A.up UP_CNT_SPLIT_COUNT).raise A.up UP_EVENT_FLAGS 3
      let s := s.reportOther 2 objNone 0 0
      { s with pair := { s.pair with split := true, snapDue := true } }
  if s.merit < s.partnerMerit ∨ (s.merit = s.partnerMerit ∧ s.pair.unitId < s.image.clockId) then s.yieldAuthority else s

/-- The decision at a heartbeat instant (R265, R267, R268). -/
def State.decideRole (s : State) : State :=
  let m := s.partnerMerit
  let pen := s.get A.up UP_PARTNER_CLAIM_PENALTY
  let s := if s.partnerRole = 1 then s else { s with pair := { s.pair with split := false } }
  match s.role with
  | 2 =>
    if (decide (m < s.merit) && decide (0 < pen)) || !s.heard || s.partnerRole == 3 || s.partnerRole == 0 then s.takeAuthority
    else s
  | 1 =>
    if s.heard && s.partnerRole == 1 then s.resolveSplit
    else if s.heard && s.partnerRole == 2 && decide (s.pair.sentClaim - s.pair.sentPenalty < m) &&
        decide (0 < s.pair.sentPenalty) then s.yieldAuthority
    else s
  | 0 =>
    if s.pair.waitFrom.isSome && s.heard then
      if s.partnerRole = 1 then s.enterMirror
      else if s.partnerRole = 2 ∨ m < s.merit ∨ (s.merit = m ∧ s.image.clockId < s.pair.unitId) then s.takeAuthority
      else s
    else s
  | _ => s

/-- PAIR_WAIT_EXPIRY: a unit that waits has heard no partner for PAIR_WAIT_MS, and takes authority (R267). -/
def State.waitExpiry (s : State) : State :=
  match s.pair.waitFrom with
  | some t =>
    if s.role = 0 ∧ !s.heard ∧ s.get A.up UP_CTRL_PAIR_WAIT_MS * 1000000 ≤ s.since t then s.takeAuthority else s
  | none => s

/-- PAIR_WAIT_EXPIRY. -/
def execPairWaitExpiry (s : State) : Host.Outcome State Fault Refusal := .next s.waitExpiry

/-! ## Coordinated handover (R266) -/

/-- Millisecond index of physical time now. -/
def State.nowMs (s : State) : Nat := s.nowNs / 1000000

/-- The handover in force. -/
def State.handoverMs (s : State) : Nat := s.get A.up UP_HANDOVER_MS_INDEX

/-- The authority fixes, keeps or withdraws HANDOVER_MS. -/
def State.arrangeHandover (s : State) : State :=
  if s.role ≠ 1 then s
  else if !s.pair.flags.testBit 3 || s.penalty != 0 || s.get A.up UP_PARTNER_CLAIM_PENALTY != 0 then
    { s.put A.up UP_HANDOVER_MS_INDEX 0xFFFFFFFF with pair := { s.pair with tryAt := none } }
  else if s.handoverMs ≠ 0xFFFFFFFF then s
  else if (match s.pair.tryAt with | some t => decide (s.since t < 1000000) | none => false) then s
  else if s.pair.unacked.isEmpty then
    { s.put A.up UP_HANDOVER_MS_INDEX (ceilDiv (s.nowNs + 2000000) 1000000) with pair := { s.pair with tryAt := none } }
  else { s with pair := { s.pair with tryAt := some s.time.clk } }

/-- HANDOVER: at the start of HANDOVER_MS the units exchange roles. -/
def State.handover (s : State) : State :=
  if s.handoverMs = 0xFFFFFFFF ∨ !s.on A.up UP_CTRL_EN ∨ 2 ^ 31 ≤ idxSub s.nowMs s.handoverMs then s
  else match s.role with
    | 1 => s.yieldAuthority
    | 2 => s.takeAuthority
    | _ => s.put A.up UP_HANDOVER_MS_INDEX 0xFFFFFFFF

/-- HANDOVER. -/
def execHandover (s : State) : Host.Outcome State Fault Refusal := .next s.handover

/-! ## Launch digests (R274) -/

/-- STEPPED: a physical step was applied within the last 2 s (R259). -/
def State.steppedFlag (s : State) : Bool :=
  match s.sync.stepClk with
  | some t => decide (s.since t < 2000000000)
  | none => false

/-- The digest closed last: its millisecond index and value. -/
def State.ownDigest (s : State) : Nat × Nat :=
  match s.pair.closed with
  | some k => (k % 2 ^ 32, SMap.get 0 s.digests k)
  | none => (0, 0)

/-- Compare the partner's digest with the unit's own of the same millisecond, once. -/
def State.compareDigests (s : State) : State :=
  match s.pair.closed with
  | none => s
  | some k =>
    if s.pair.digestMs ≠ k % 2 ^ 32 ∨ s.pair.compared = some k ∨ s.steppedFlag ∨ s.pair.flags.testBit 4 ∨ !s.heard then s
    else
      let d := SMap.get 0 s.digests k
      let s := ((s.put A.up UP_DIGEST_DIGEST d).put A.up UP_DIGEST_PARTNER_DIGEST s.pair.digest).put A.up
        UP_DIGEST_MS_MS_INDEX k
      if d = s.pair.digest then { s with pair := { s.pair with compared := some k, mismatches := 0 } }
      else
        let n := s.pair.mismatches + 1
        let s := { s with pair := { s.pair with compared := some k, mismatches := n } }
        let s := s.bump A.up UP_CNT_DIGEST_MISMATCH_COUNT
        if n = s.get A.up UP_CTRL_DIGEST_LIMIT then (s.raise A.up UP_EVENT_FLAGS 2).reportOther 2 objNone 0 0 else s

/-- The last millisecond that ended at least 500 µs ago. -/
def State.closable (s : State) : Nat := (s.nowNs + 500000) / 1000000 - 2

/-- DIGEST_CLOSE: close the digest of the last millisecond that ended 500 µs ago. -/
def State.digestClose (s : State) : State :=
  let k := s.closable
  if s.nowNs < 1500000 ∨ s.pair.closed = some k then s
  else
    let s := { s with pair := { s.pair with closed := some k }, digests := s.digests.filter (fun e => decide (k ≤ e.1)) }
    s.compareDigests

/-- DIGEST_CLOSE. -/
def execDigestClose (s : State) : Host.Outcome State Fault Refusal := .next s.digestClose

/-! ## Sending a heartbeat (R259) -/

/-- FLAGS of a heartbeat. -/
def State.beatFlags (s : State) : Nat :=
  bit (s.servoState == 2) + 2 * bit s.clean + 4 * bit s.synced + 8 * bit s.revertReq + 16 * bit s.steppedFlag

/-- A full stamp in 12 bytes. -/
def stampBytes (q : Nat) : Bytes := be 12 (stampBits q)

/-- The heartbeat of pair link `k` now. -/
def State.beatBytes (s : State) (k : Nat) : Bytes :=
  let x := s.pairLink k
  let rx := x.lastRx.getD (0, 0)
  let dg := s.ownDigest
  closeCrc (be 1 1 ++ be 1 1 ++ be 1 k ++ be 1 s.role ++ be 4 x.seq ++ be 8 s.image.clockId ++ be 2 s.claim ++
    be 2 s.penalty ++ be 2 s.effClaim ++ be 2 (0xFFFF - s.effClaim) ++ be 2 0 ++ be 2 s.beatFlags ++
    be 1 s.servoState ++ be 3 0 ++ stampBytes x.prevTx ++ stampBytes rx.2 ++ be 4 rx.1 ++ be 4 s.pair.ackIn ++
    be 8 s.gmIdentity ++ be 4 s.handoverMs ++ be 4 dg.1 ++ be 8 dg.2)

/-- Send the heartbeat of pair link `k`. -/
def State.sendBeat (s : State) (k : Nat) : State :=
  if (s.pairLane k).isNone then s
  else
    let x := s.pairLink k
    (s.sendPair k (s.beatBytes k) (.heartbeat k x.seq)).setPairLink k { x with seq := (x.seq + 1) % 2 ^ 32 }

/-- A heartbeat instant (R259, R264–R266): account for the intervals, put a written claim in force, decide, send. -/
def State.heartbeat (s : State) : State :=
  if !s.pairRuns || s.beat == s.pair.instant then s
  else
    let s := { s with pair := { s.pair with instant := s.beat } }
    let s := ((s.endInterval 0).endInterval 1).put A.up UP_CLAIM_STATUS_CLAIM (s.get A.up UP_CLAIM_CLAIM)
    let s := (s.decideRole.noteClean).arrangeHandover
    let s := { s with pair := { s.pair with sentClaim := s.claim, sentPenalty := s.penalty } }
    (s.sendBeat 0).sendBeat 1

/-! ## Receiving a heartbeat (R57, R260, R261) -/

/-- Discard a heartbeat. -/
def State.badBeat (s : State) : State := s.bump A.up UP_CNT_HB_BAD_COUNT

/-- The cross-check of the pair's time bases (R57). -/
def State.crossCheck (s : State) (o : Int) : State :=
  let t := s.sync
  if s.servoState ≠ 2 ∨ !s.pair.flags.testBit 0 ∨ s.pair.gm ≠ s.gmIdentity then { s with sync := { t with xchkBad := 0, xchkGood := 0 } }
  else if nsQ (s.get A.tb TB_XCHK_LIMIT_NS) < o.natAbs then
    let s := { s with sync := { t with xchkBad := t.xchkBad + 1, xchkGood := 0 } }
    if t.xchkBad + 1 = 16 ∧ !s.on A.tb TB_STATUS_XCHK_FAIL then
      let s := (s.put A.tb TB_STATUS_XCHK_FAIL 1).raise A.tb TB_EVENT_FLAGS 5
      let s := s.reportOther 0 objNone 0 0
      if s.on A.tb TB_CTRL_XCHK_ACTION then s.enterHoldover else s
    else s
  else
    let s := { s with sync := { t with xchkBad := 0, xchkGood := t.xchkGood + 1 } }
    if 16 ≤ t.xchkGood + 1 then s.put A.tb TB_STATUS_XCHK_FAIL 0 else s

/-- What the stamps of heartbeat `b` on pair link `k` measure (R261): `last` is the one before it. -/
def State.beatTimes (s : State) (k : Nat) (b : Bytes) (last : Option (Nat × Nat)) : State :=
  let x := s.pairLink k
  match last, x.sent.find? (fun e => e.1 == rd b 56 4), s.pairLane k with
  | some (n, t2), some (_, t3), some l =>
    if idxSub (rd b 4 4) n ≠ 1 then s
    else
      let there : Int := (t2 : Int) - ofStampBits (rd b 32 12)
      let back : Int := (ofStampBits (rd b 44 12) : Int) - t3
      let s := s.measurePd l ((there + back) / 2)
      if s.partnerLink = some l then
        let o := (there - back) / 2
        let s := s.crossCheck o
        let s := (s.setInput inPartner { s.input inPartner with stale := false }).selectInput
        if s.activeInput = inPartner then s.offsetSample inPartner o (rd b 4 4 % 65536) else s
      else s
  | _, _, _ => s

/-- Drop the state messages that the partner has acknowledged. -/
def State.acknowledge (s : State) (a : Nat) : State :=
  { s with pair := { s.pair with
    acked := a, unacked := s.pair.unacked.filter (fun m => m.seq != a && decide (idxSub m.seq a < 2 ^ 31)) } }

/-- A valid heartbeat on pair link `k`. -/
def State.goodBeat (s : State) (k : Nat) (b : Bytes) : State :=
  let x := s.pairLink k
  let u := A.up
  let s := s.setPairLink k { x with got := true, lastRx := some (rd b 4 4, s.nowQ) }
  let s := ((s.put u UP_PARTNER_CLAIM_CLAIM (rd b 16 2)).put u UP_PARTNER_CLAIM_PENALTY (rd b 18 2)).put u
    UP_PARTNER_CLAIM_EFF (rd b 20 2)
  let s := s.put u UP_PARTNER_CLAIM_ROLE (rd b 3 1)
  let s := { s with pair := { s.pair with
    flags := rd b 26 2, unitId := rd b 8 8, gm := rd b 64 8, tbState := rd b 28 1, digestMs := rd b 76 4, digest := rd b 80 8 } }
  let s := s.acknowledge (rd b 60 4)
  let s := if s.role = 2 then s.put u UP_HANDOVER_MS_INDEX (rd b 72 4) else s.arrangeHandover
  (s.beatTimes k b x.lastRx).compareDigests

/-- HEARTBEAT_RECEIVE: the bytes `b` of a heartbeat reach pair link `k` now (R260). -/
def State.beatReceive (s : State) (k : Nat) (b : Bytes) : State :=
  let id := s.get A.up UP_PARTNER_ID_ID
  if 2 ≤ k ∨ (s.pairLane k).isNone ∨ !s.pairRuns then s
  else if b.length ≠ 92 ∨ crc32c (b.take 88) ≠ rd b 88 4 ∨ rd b 0 1 ≠ 1 ∨ rd b 1 1 ≠ 1 then s.badBeat
  else if rd b 20 2 + rd b 22 2 ≠ 0xFFFF then
    (s.badBeat.raise A.up UP_EVENT_FLAGS 5).report 2 0x0011 objNone 0 0
  else if id ≠ 0 ∧ id ≠ rd b 8 8 then s.badBeat
  else s.goodBeat k b

/-- HEARTBEAT_RECEIVE. -/
def execHeartbeatReceive (k : Nat) (b : List Byte) (s : State) : Host.Outcome State Fault Refusal := .next (s.beatReceive k b)

/-- RESYNC: the authority's next state messages are a snapshot (R270). -/
def State.resync (s : State) : State :=
  if s.role = 1 then { s with pair := { s.pair with snapDue := true } } else s

/-- RESYNC. -/
def execResync (s : State) : Host.Outcome State Fault Refusal := .next s.resync

end Sys2Proof.Machine
end

