-- ==== Sys2Proof/Machine/Mirror.lean ====
section
/-!
DEFINITION. State messages from the authority to the Mirror unit (spec/09_redundancy.md R270, R271).
-/

namespace Sys2Proof.Machine

/-! ## Records -/

/-- A register word, big-endian. -/
def State.wordBE (s : State) (a : Nat) : Bytes := be 8 (s.word a).toNat

/-- `n` register words from address `a`. -/
def State.wordsBE (s : State) (a n : Nat) : Bytes := (List.range n).flatMap (fun k => s.wordBE (a + 8 * k))

/-- Words of a SCENE record after its first, as register addresses. -/
def sceneAddrs (c : Nat) : List Nat :=
  (A.scc c + SC_STATUS_STATE.off) :: (List.range 5).map (fun k => A.scc c + SC_CUR_PHYS_SEC_SEC.off + 8 * k) ++
    (List.range 16).flatMap (fun q => (List.range 6).map (fun k => A.scq c q + 8 * k))

/-- SCENE record of clock `c`. -/
def State.sceneRecord (s : State) (c : Nat) : Bytes :=
  be 2 c ++ be 2 (s.scene c).nextEpoch ++ be 4 0 ++ (sceneAddrs c).flatMap s.wordBE

/-- GRANT record of stream `x`: its horizon, and the epoch it stands in. -/
def State.grantRecord (s : State) (x : Nat) : Option (Nat × Nat × Bytes) :=
  match s.formGrant x with
  | some (g, _) =>
    some (g.epoch, g.horizon, be 4 x ++ be 2 g.epoch ++ be 2 g.flags ++ stampBytes g.horizon ++ be 4 (s.feedD x / 65536) ++
      be 8 (s.nextSeq x))
  | none => none

/-- The horizon of stream `x` departs from S(t + L) (R106). -/
def State.departs (s : State) (x : Nat) : Bool :=
  let c := s.feedClock x
  match s.grantRecord x, s.sceneTime c (s.nowQ + nsQ (s.feedLead x)) with
  | some (e, h, _), some (e', h') => e != e' || h != h'
  | _, _ => false

/-- CELL record of cell `c`. -/
def State.cellRecord (s : State) (c : Nat) : Bytes :=
  let b := s.cellBase c
  be 2 c ++ be 1 (s.get b CL_STATUS_STATE) ++ be 5 0 ++ stampBytes ((s.cell c).base.getD 0) ++ be 4 0 ++
    s.wordBE (b + CL_MATRIX_COUNT_COUNT.off) ++ s.wordBE (b + CL_CORR_C.off) ++ s.wordBE (b + CL_CORR_LAST_DELTA.off)

/-- FRER record of function `i` of slice `n`. -/
def State.frerRecord (s : State) (n i : Nat) : Bytes :=
  let b := A.trecf n i
  be 1 n ++ be 1 (s.get b FR_REC_W2_VALID) ++ be 2 i ++ be 2 (s.get b FR_REC_W2_REC_SEQ) ++ be 2 0

/-- JOURNAL record: sequence of the latest entry and the producer index of the journal's ring. -/
def State.journalRecord (s : State) : Bytes :=
  be 8 ((s.get A.jr JR_SEQ_NEXT + 2 ^ 64 - 1) % 2 ^ 64) ++ be 4 (s.get (A.rgr s.jrRing) RG_PROD_PROD) ++ be 4 0

/-- Size of a record by TYPE. -/
def recordSize : Nat → Nat
  | 1 => 824 | 2 => 32 | 3 => 48 | 4 => 8 | 5 => 16 | 6 => 8 | _ => 0

/-! ## Sending (R270) -/

/-- The link that carries state messages: P-A, or P-B while P-A is DOWN. -/
def State.stateLink (s : State) : Nat := if s.on A.up UP_STATUS_LINK_A_UP then 0 else 1

/-- Send the message whose bytes before the CRC are `b`, on the link in use. -/
def State.sendMsg (s : State) (b : Bytes) : State :=
  s.sendPair s.stateLink (closeCrc (wr b 2 (be 1 s.stateLink))) .none

/-- Send records of one type as the next message. -/
def State.sendRecords (s : State) (type : Nat) (rs : List Bytes) : State :=
  let q := (s.pair.stateSeq + 1) % 2 ^ 32
  let b := be 1 1 ++ be 1 2 ++ be 1 0 ++ be 1 type ++ be 4 q ++ be 2 rs.length ++ be 6 0 ++ rs.flatten
  let s := { s with pair := { s.pair with stateSeq := q, unacked := s.pair.unacked ++ [({ seq := q, bytes := b, sentAt := s.time.clk } : StateMsg)] } }
  s.sendMsg b

/-- Send records of one type in messages of at most 8,192 bytes of records; `n` bounds their number. -/
def State.sendAll (type : Nat) : Nat → State → List Bytes → State
  | 0, s, _ => s
  | _, s, [] => s
  | n + 1, s, rs =>
    let k := 8192 / recordSize type
    State.sendAll type n (s.sendRecords type (rs.take k)) (rs.drop k)

/-- The recovery functions that are enabled, as slice and function. -/
def State.recFunctions (s : State) : List (Nat × Nat) :=
  s.words.filterMap (fun e =>
    (List.range 8).findSome? (fun n =>
      let lo := A.trecf n 0
      let i := (e.1 - lo) / (A.trecf 0 1 - A.trecf 0 0)
      if lo ≤ e.1 ∧ i < 65536 ∧ e.1 = A.trecf n i + FR_REC_W0_EN.off ∧ s.isSlice n ∧ bitsOf e.2.toNat 63 63 = 1 then some (n, i)
      else none))

/-- A snapshot: the full set of records of every type, and SNAPSHOT_END. -/
def State.sendSnapshot (s : State) : State :=
  let cells := (List.range 4096).filter s.isScene
  let scenes := cells.map s.sceneRecord
  let grants := s.enabledFeeds.filterMap (fun x => (s.grantRecord x).map (·.2.2))
  let cs := ((List.range 4096).filter (fun c => (s.homeSlice c).isSome)).map s.cellRecord
  let frers := s.recFunctions.map (fun e => s.frerRecord e.1 e.2)
  let all := [(1, scenes), (2, grants), (3, cs), (4, frers), (5, [s.journalRecord])]
  let n := all.foldl (fun k e => k + e.2.length) 0
  let s := all.foldl (fun s e => State.sendAll e.1 e.2.length s e.2) s
  let s := s.sendRecords 6 [be 4 n ++ be 4 0]
  { s with pair := { s.pair with snapDue := false, sceneDue := [] } }

/-- STATE_MESSAGE_SEND: the authority sends the record of type `type` and object `x` that is due, or a snapshot (type
6). A recovery function is the object slice × 65,536 + function. -/
def State.stateSend (s : State) (type x : Nat) : State :=
  if !s.pairRuns || s.role != 1 || !s.heard then s
  else match type with
    | 1 =>
      if s.pair.sceneDue.contains x ∧ s.isScene x then
        { s with pair := { s.pair with sceneDue := s.pair.sceneDue.filter (· != x) } }.sendRecords 1 [s.sceneRecord x]
      else s
    | 2 =>
      if s.feedOn x ∧ s.departs x then
        match s.grantRecord x with
        | some r => s.sendRecords 2 [r.2.2]
        | none => s
      else s
    | 3 =>
      let r := s.cellRecord x
      let last := SMap.get (0, []) s.pair.cellSent x
      if (s.homeSlice x).isSome ∧ r ≠ last.2 ∧ (last.2 = [] ∨ 1000000 ≤ s.since last.1) then
        { s with pair := { s.pair with cellSent := SMap.set (0, []) x (s.time.clk, r) s.pair.cellSent } }.sendRecords 3 [r]
      else s
    | 4 =>
      let n := x / 65536
      let i := x % 65536
      let last := SMap.get 0 s.pair.frerSent x
      if s.isSlice n ∧ s.on (A.trecf n i) FR_REC_W0_EN ∧ (last = 0 ∨ 100000000 ≤ s.since (last - 1)) then
        { s with pair := { s.pair with frerSent := SMap.set 0 x (s.time.clk + 1) s.pair.frerSent } }.sendRecords 4
          [s.frerRecord n i]
      else s
    | 5 =>
      if s.dueAfter s.pair.journalAt 1000000 then
        { s with pair := { s.pair with journalAt := some s.time.clk } }.sendRecords 5 [s.journalRecord]
      else s
    | 6 => if s.pair.snapDue then s.sendSnapshot else s
    | _ => s

/-- STATE_MESSAGE_SEND. -/
def execStateMessageSend (type x : Nat) (s : State) : Host.Outcome State Fault Refusal := .next (s.stateSend type x)

/-- STATE_MESSAGE_RESEND: every message unacknowledged for 100 µs is sent again, in order (R270). -/
def State.stateResend (s : State) : State :=
  if !s.pairRuns || s.role != 1 || !s.heard then s
  else
    let due := s.pair.unacked.filter (fun m => decide (100000 ≤ s.since m.sentAt))
    let s := due.foldl (fun s m => (s.sendMsg m.bytes).bump A.up UP_CNT_STATE_RETX_COUNT) s
    { s with pair := { s.pair with unacked := s.pair.unacked.map (fun (m : StateMsg) =>
        if 100000 ≤ s.since m.sentAt then { m with sentAt := s.time.clk } else m) } }

/-- STATE_MESSAGE_RESEND. -/
def execStateMessageResend (s : State) : Host.Outcome State Fault Refusal := .next s.stateResend

/-! ## Receiving (R271) -/

/-- Switch every segment of clock `c` that is due; `n` bounds their number. -/
def State.switchDue (c : Nat) : Nat → State → State
  | 0, s => s
  | n + 1, s =>
    match s.queueSegs c with
    | g :: _ => if g.pa ≤ s.nowQ then State.switchDue c n (s.segmentSwitch c) else s
    | [] => s

/-- A SCENE record replaces the clock's current segment and queue. -/
def State.applyScene (s : State) (r : Bytes) : State :=
  let c := rd r 0 2
  if !s.isScene c then s
  else
    let old := s.curSeg c
    let ws := (sceneAddrs c).zipIdx
    let s := ws.foldl (fun s e => s.setWord e.1 (BitVec.ofNat 64 (rd r (8 + 8 * e.2) 8))) s
    let hold := s.on (A.scc c) SC_STATUS_FEED_HOLD
    let at_ := if hold then (match (s.scene c).holdAt with
      | some h => some h
      | none => (s.curSeg c).map (·.pa)) else none
    let s := s.setScene c { s.scene c with nextEpoch := rd r 2 2, holdAt := at_ }
    let s := if old.map (·.epoch) = (s.curSeg c).map (·.epoch) then s else s.newEpoch c
    let late := (s.queueSegs c).filter (fun g => decide (g.pa ≤ s.nowQ))
    State.switchDue c 16 (s.add A.up UP_CNT_STATE_LATE_COUNT late.length)

/-- A GRANT record is compared with the unit's own horizon. -/
def State.applyGrant (s : State) (r : Bytes) : State :=
  let x := rd r 0 4
  let e := rd r 4 2
  let h := ofStampBits (rd r 8 12)
  if !s.feedOn x then s
  else
    let s := if s.ownHorizon x e = some h then s else s.bump A.up UP_CNT_GRANT_DIFF_COUNT
    s.setFeed x { s.feed x with mirrored := some (e, h) }

/-- A CELL record replaces STATE, C and the matrix phase of an EXTERNAL cell (R207). -/
def State.applyCell (s : State) (r : Bytes) : State :=
  let c := rd r 0 2
  let b := s.cellBase c
  if (s.homeSlice c).isNone ∨ !s.cellExternal c then s
  else
    let s := s.put b CL_STATUS_STATE (rd r 2 1)
    let s := ((s.put b CL_MATRIX_COUNT_COUNT (rd r 24 8)).put b CL_CORR_C (rd r 32 8)).put b CL_CORR_LAST_DELTA (rd r 40 8)
    let base := ofStampBits (rd r 8 12)
    let x := s.cell c
    if base = 0 ∨ x.base = some base then s
    else
      let m := nsQ (matrixLen x.oper)
      let now := s.toCell c s.nowQ
      let at_ := if now < base ∨ m = 0 then none else some (base + (now - base) / m * m)
      s.setCell c { x with base := some base, cycleAt := at_ }

/-- A FRER record sets an instance that is not VALID. -/
def State.applyFrer (s : State) (r : Bytes) : State :=
  let n := rd r 0 1
  let i := rd r 2 2
  let b := A.trecf n i
  if !s.isSlice n || s.on b FR_REC_W2_VALID || rd r 1 1 % 2 == 0 then s
  else
    ((s.put b FR_REC_W2_VALID 1).put b FR_REC_W2_REC_SEQ (rd r 4 2)).setRec n i { s.rec_ n i with hist := 1, passAt := s.time.clk }

/-- Apply one record of type `type`. -/
def State.applyRecord (s : State) (type : Nat) (r : Bytes) : State :=
  match type with
  | 1 => s.applyScene r
  | 2 => s.applyGrant r
  | 3 => s.applyCell r
  | 4 => s.applyFrer r
  | 5 => { s with pair := { s.pair with head := some (rd r 0 8) } }
  | _ => { s with pair := { s.pair with snapped := true } }

/-- The message is whole, and is the next in order. -/
def State.stateNext (s : State) (b : Bytes) : Bool :=
  let n := b.length - 4
  decide (20 ≤ b.length) && crc32c (b.take n) == rd b n 4 && rd b 0 1 == 1 && rd b 1 1 == 2 &&
    decide (1 ≤ rd b 3 1 ∧ rd b 3 1 ≤ 6) && decide (16 + rd b 8 2 * recordSize (rd b 3 1) = n) &&
    rd b 4 4 == (s.pair.ackIn + 1) % 2 ^ 32

/-- STATE_MESSAGE_RECEIVE: the bytes `b` of a state message reach pair link `k`; the Mirror unit takes the next in order,
and every other one is discarded. -/
def State.stateReceive (s : State) (k : Nat) (b : Bytes) : State :=
  if 2 ≤ k ∨ (s.pairLane k).isNone ∨ !s.pairRuns ∨ s.role ≠ 2 ∨ !s.stateNext b then s
  else
    let t := rd b 3 1
    let z := recordSize t
    let s := { s with pair := { s.pair with ackIn := rd b 4 4 } }
    (List.range (rd b 8 2)).foldl (fun s i => s.applyRecord t (slice b (16 + i * z) z)) s

/-- STATE_MESSAGE_RECEIVE. -/
def execStateMessageReceive (k : Nat) (b : List Byte) (s : State) : Host.Outcome State Fault Refusal :=
  .next (s.stateReceive k b)

end Sys2Proof.Machine
end

