-- ==== Sys2Proof/Machine/Measure.lean ====
section
/-!
DEFINITION. Event counters, port bandwidth windows and the sample drains (spec/13_measurement.md R345, R348–R355).
-/

namespace Sys2Proof.Machine

/-! ## Event counters (R345) -/

/-- The first whole microsecond of physical time after now. -/
def State.nextUs (s : State) : Nat := (s.nowQ / nsQ 1000 + 1) * nsQ 1000

/-- Event counter `k` of slice `n`. -/
def State.evc (s : State) (n k : Nat) : EvcState := SMap.get {} s.evcs (n * 64 + k)

/-- The selector in register MS_EVC_CTRL[k], without RECONFIGURED. -/
def State.evcWord (s : State) (n k : Nat) : Nat :=
  withBits (s.word (A.mss n + (MSS_EVC_CTRL_EN k).off)).toNat 62 62 0

/-- A written selector waits for the next whole microsecond. -/
def State.evcWritten (s : State) (n k : Nat) : State :=
  { s with evcs := SMap.set {} (n * 64 + k) { s.evc n k with due := some s.nextUs } s.evcs }

/-- EVC_APPLY: a written selector takes effect; the counter restarts unless only EN changed. -/
def State.evcApply (s : State) (n k : Nat) : State :=
  let x := s.evc n k
  match x.due with
  | none => s
  | some t =>
    if s.nowQ < t then s
    else
      let w := s.evcWord n k
      let s := { s with evcs := SMap.set {} (n * 64 + k) ⟨w, none⟩ s.evcs }
      if withBits w 63 63 0 = withBits x.cfg 63 63 0 then s
      else (s.put (A.mss n) (MSS_EVC_COUNT k) 0).put (A.mss n) (MSS_EVC_CTRL_RECONFIGURED k) 1

/-- EVC_APPLY. -/
def execEvcApply (n k : Nat) (s : State) : Host.Outcome State Fault Refusal :=
  .next (if k < 64 then s.atSlice n (·.evcApply n k) else s)

/-! ## Bandwidth windows (R348–R351) -/

/-- WINDOW_NS, EV0, EV1 and EV_CLASSES of a port, as the word MS_BW_CTRL without EN. -/
def State.bwCfg (s : State) (l : Nat) : Nat := (s.word (A.msp l + MSS_BW_CTRL_EN.off)).toNat % 2 ^ 62

/-- The first whole multiple of `ns` nanoseconds after instant `q`. -/
def boundaryAfter (ns q : Nat) : Nat := (q / nsQ (max 1 ns) + 1) * nsQ (max 1 ns)

/-- End of window `w`: the first boundary of its configuration after its start. -/
def Window.stop (w : Window) : Nat := boundaryAfter (bitsOf w.cfg 61 32) w.start

/-- The eight words of a window record that ends at `e` (R349). -/
def bwWords (w : Window) (e : Nat) (stepped cut : Bool) (seq : Nat) : List Nat :=
  let cap := fun (x : Nat) => min x (2 ^ 32 - 1)
  [ bit w.first * 2 ^ 63 + bit (w.stepped || stepped) * 2 ^ 62 + bit cut * 2 ^ 61 + secOf w.start,
    nsOf w.start * 2 ^ 32 + cap ((e - w.start) / 65536),
    w.rxB % 2 ^ 64, w.txB % 2 ^ 64, cap w.rxF * 2 ^ 32 + cap w.txF, w.lB % 2 ^ 64,
    cap w.e0 * 2 ^ 32 + cap w.e1, seq * 2 ^ 32 + cap w.lF ]

/-- Write the record of window `w` of port `l` into the ring. -/
def State.bwRecord (s : State) (l : Nat) (w : Window) (e : Nat) (stepped cut : Bool) : State :=
  let b := A.msp l
  let q := s.get b MSS_BW_STATUS_NEXT
  let s := (bwWords w e stepped cut q).zipIdx.foldl
    (fun s x => s.setWord (b + (MSS_BW_REC_WORD (q % 64)).off + 8 * x.2) (BitVec.ofNat 64 x.1)) s
  s.inc b MSS_BW_STATUS_NEXT 1

/-- The configuration of the next window, and whether it is a new one. -/
def State.bwNext (s : State) (l : Nat) (w : Window) : Nat × Bool :=
  if s.on (A.msp l) MSS_BW_STATUS_PENDING then (s.bwCfg l, true) else (w.cfg, false)

/-- BW_WINDOW_END: at the end of the window in progress its record is written and the next window begins, under any
configuration that waits. -/
def State.bwEnd (s : State) (l : Nat) : State :=
  match s.window l with
  | none => s
  | some w =>
    if s.nowQ < w.stop then s
    else
      let c := s.bwNext l w
      let s := (s.bwRecord l w w.stop false false).put (A.msp l) MSS_BW_STATUS_PENDING 0
      s.setWindow l (some { cfg := c.1, start := w.stop, first := c.2 })

/-- BW_WINDOW_END. -/
def execBwWindowEnd (l : Nat) (s : State) : Host.Outcome State Fault Refusal := .next (s.atPort l (·.bwEnd l))

/-- A physical step ends the window in progress at the old instant `old`; the next runs from `new` (R351). -/
def State.bwStep (s : State) (l old new : Nat) : State :=
  match s.anyWindow l with
  | none => s
  | some w =>
    if w.start ≤ old then
      let c := s.bwNext l w
      let s := (s.bwRecord l w old true false).put (A.msp l) MSS_BW_STATUS_PENDING 0
      s.setWindow l (some { cfg := c.1, start := new, first := c.2, stepped := true })
    else s.setWindow l (some { w with start := boundaryAfter (bitsOf w.cfg 61 32) new })

/-- MS_BW_CTRL of port `l` has been written; `old` is the word before (R348, R350, R351). -/
def State.bwWritten (s : State) (l old : Nat) : State :=
  let b := A.msp l
  let en := s.on b MSS_BW_CTRL_EN
  let c := s.bwCfg l
  if old.testBit 63 then
    if en then if c = old % 2 ^ 62 then s else s.put b MSS_BW_STATUS_PENDING 1
    else
      let s := match s.window l with
        | some w => s.bwRecord l w s.nowQ false true
        | none => s
      (s.put b MSS_BW_STATUS_PENDING 0).setWindow l none
  else if en then s.setWindow l (some { cfg := c, start := boundaryAfter (bitsOf c 61 32) s.nowQ, first := true })
  else s

/-! ## Launch sampling and the drains (R352–R355) -/

/-- MS_LS_PORT of port `l` has been written: a new N restarts the countdown. -/
def State.lsWritten (s : State) (l old : Nat) : State :=
  let n := s.get (A.msp l) MSS_LS_PORT_N
  if n = old % 2 ^ 21 then s else { s with samplers := SMap.set {} l ⟨some n, true⟩ s.samplers }

/-- The fields of one of a slice's two DDR5 sample buffers. -/
structure DrainRegs where
  base : Fld
  log2 : Fld
  wr : Fld
  rd : Fld
  en : Fld
  full : Nat
  size : Nat

/-- The launch sample buffer, or the queue sample buffer. -/
def drainRegs (queue : Bool) : DrainRegs :=
  if queue then ⟨MS_QS_BASE_DA, MS_QS_SIZE_LOG2, MS_QS_WR_WR, MS_QS_RD_RD, MS_DRAIN_CTRL_QS_EN, 2, 32⟩
  else ⟨MS_LS_BASE_DA, MS_LS_SIZE_LOG2, MS_LS_WR_WR, MS_LS_RD_RD, MS_DRAIN_CTRL_LS_EN, 1, 64⟩

/-- SAMPLE_DRAIN: the oldest record of slice `n`'s buffer moves to DDR5, or FULL is flagged. -/
def State.drain (s : State) (n : Nat) (queue : Bool) : State :=
  let d := drainRegs queue
  let b := A.msd n
  match SMap.get [] (if queue then s.qsBuf else s.lsBuf) n with
  | [] => s
  | ws :: rest =>
    let cap := 2 ^ s.get b d.log2 / d.size
    let a := s.get b d.base + s.get b d.wr % cap * d.size
    if !s.on b d.en then s
    else if idxSub (s.get b d.wr) (s.get b d.rd) = cap then s.raise b MS_DRAIN_EVENT_FLAGS d.full
    else if !s.rangeServed a d.size then s.raise b MS_DRAIN_EVENT_FLAGS d.full
    else
      let s := (s.setMemWords a ws).inc b d.wr 1
      if queue then
        { s with qsBuf := SMap.set [] n rest s.qsBuf }.put (A.sh n) SH_QS_FILL_ENTRIES rest.length
      else { s with lsBuf := SMap.set [] n rest s.lsBuf }.put (A.mss n) MSS_LS_FILL_ENTRIES rest.length

/-- SAMPLE_DRAIN. -/
def execSampleDrain (n : Nat) (queue : Bool) (s : State) : Host.Outcome State Fault Refusal :=
  .next (s.atSlice n (·.drain n queue))

/-- A write of RD that the indices do not allow sets BAD_INDEX; any other frees records (R317, R355). -/
def State.drainRead (s : State) (n : Nat) (queue : Bool) (v : Nat) : State :=
  let d := drainRegs queue
  let b := A.msd n
  if idxSub v (s.get b d.rd) ≤ idxSub (s.get b d.wr) (s.get b d.rd) then s.put b d.rd v
  else s.raise b MS_DRAIN_EVENT_FLAGS 0

end Sys2Proof.Machine
end

