-- ==== Sys2Proof/Machine/Rebase.lean ====
section
/-!
DEFINITION. The tick of the time base, and physical steps (spec/02_physical_time.md R31, R46, R48–R52, R61, R64;
spec/07_cells.md R185). A step moves every stored physical instant whose event shall keep its distance from now.
-/

namespace Sys2Proof.Machine

/-! ## Moving instants by a step (R49, R185) -/

/-- A converted launch. -/
def Launch.move (d : Int) (x : Launch) : Launch :=
  { x with t0 := moveQ x.t0 d, stagedAt := moveQ x.stagedAt d, released := moveQ x.released d,
           held := { x.held with filedAt := moveQ x.held.filedAt d } }

/-- A transmission. -/
def Tx.move (d : Int) (x : Tx) : Tx :=
  { x with start := moveQ x.start d, stop := moveQ x.stop d, first := moveQ x.first d,
           launch := x.launch.map (·.move d) }

/-- A wire. -/
def Wire.move (d : Int) (x : Wire) : Wire :=
  { x with freeAt := moveQ x.freeAt d, tx := x.tx.map (·.move d), preempted := x.preempted.map (·.move d),
           shadowEnd := if x.shadowEnd = 0 then 0 else moveQ x.shadowEnd d }

/-- A gate list. -/
def GateLists.move (d : Int) (x : GateLists) : GateLists :=
  { x with pending := x.pending.map (fun p => ({ p.1 with base := moveQ p.1.base d }, moveQ p.2 d)),
           oper := x.oper.map (fun g => { g with base := moveQ g.base d }),
           entryAt := x.entryAt.map (moveQ · d), lastCct := moveQ x.lastCct d }

/-- Apply a function to every value of a sparse map. -/
def mapVals {V : Type} (f : V → V) (m : SMap V) : SMap V := m.map (fun e => (e.1, f e.2))

/-- A cell: its matrix base, pending change and everything measured from them; C stays. -/
def CellState.move (d : Int) (x : CellState) : CellState :=
  let key := fun (e : Nat × Nat × Nat × Nat) => (e.1, e.2.1, e.2.2.1, moveQ e.2.2.2 d)
  { x with pending := x.pending.map (fun p => (p.1, moveQ p.2 d)), lastEff := moveQ x.lastEff d,
           base := x.base.map (moveQ · d), cycleAt := x.cycleAt.map (moveQ · d), csOpen := x.csOpen.map (moveQ · d),
           syncs := [], arb := x.arb.map (fun e => (key e.1, moveQ e.2 d)),
           started := x.started.map key, substituted := x.substituted.map key,
           marks := mapVals (fun (m : Mark) => { m with next := m.next.map (fun p => (p.1, moveQ p.2 d)),
                                                        firedAt := moveQ m.firedAt d }) x.marks }

/-- A scene clock's segments and the instant its hold began. -/
def State.moveScene (s : State) (c : Nat) (d : Int) : State :=
  if s.isScene c then
    let s := s.moveSegments c d
    s.setScene c { s.scene c with holdAt := (s.scene c).holdAt.map (moveQ · d) }
  else s

/-- Show the moved base and ConfigChangeTime of port `l`'s gate list. -/
def State.showGates (s : State) (l : Nat) : State :=
  let x := s.gateLists l
  let b := A.gcp l
  let s := match x.oper with
    | some g => (s.put b GC_OPER_BASE_SEC_SEC (secOf g.base)).put b GC_OPER_BASE_NS_NS (nsOf g.base)
    | none => s
  match x.pending with
  | some (_, t) => s.showCct l t
  | none => s

/-- Show the moved ConfigChangeTime of stream gate `g`. -/
def State.showSgate (s : State) (k : Nat) : State :=
  match (s.sgate (k / 65536) (k % 65536)).lists.pending with
  | some (_, t) => s.sgShowCct (k / 65536) (k % 65536) t
  | none => s

/-- Show the moved effective instant of cell `c`'s pending matrix. -/
def State.showCellEff (s : State) (c : Nat) : State :=
  match (s.cell c).pending with
  | some (_, e) => s.showEff c e
  | none => s

/-- Frames that arrived before a step: their start of frame moves with the time base, and they give no drift and no
sync sample any more (R185). -/
def State.moveFrames (s : State) (d : Int) : State :=
  { s with
    recirc := mapVals (fun q => q.map (fun (x : Recirc) => { x with sof := moveQ x.sof d, stepped := true })) s.recirc,
    crossing := mapVals (fun q => q.map (fun (x : Crossing) => { x with sof := moveQ x.sof d, due := moveQ x.due d })) s.crossing,
    injectors := mapVals (fun (x : Injector) => { x with held := x.held.map (fun (h : InjHeld) =>
      { h with at_ := moveQ h.at_ d, stepped := true, launch := h.launch.map (·.move d) }) })
      s.injectors }

/-- Everything on the ports. -/
def State.movePorts (s : State) (d : Int) : State :=
  { s with
    launches := s.launches.map (·.move d), held := s.held.map (fun (h : Held) => { h with filedAt := moveQ h.filedAt d }),
    feeds := mapVals (fun (f : FeedState) => { f with
      retained := f.retained.map (fun (h : Held) => { h with filedAt := moveQ h.filedAt d }) }) s.feeds,
    wires := mapVals (·.move d) s.wires, credits := mapVals (fun (c : Credit) => { c with at_ := moveQ c.at_ d }) s.credits,
    gates := mapVals (·.move d) s.gates,
    merges := mapVals (fun (m : MergeState) => { m with
      qsAt := moveQ m.qsAt d, rx := m.rx.map (fun x => (x.1, x.2.1, x.2.2.1, moveQ x.2.2.2 d)) }) s.merges,
    cells := mapVals (·.move d) s.cells,
    sgates := mapVals (fun (g : SGate) => { g with lists := g.lists.move d }) s.sgates }

/-- The time base has been loaded: `d` is new − old. Anchors, calendars, gate lists and matrices move by `d`; windows end;
stamps taken before are of no use to the servo (R49, R51, R61, R185, R295, R351). -/
def State.rebase (s : State) (d : Int) (old : Nat) : State :=
  let s := (List.range 2048).foldl (fun s c => s.moveScene c d) s
  let s := (s.movePorts d).moveFrames d
  let s := s.image.ports.foldl (fun s p => (s.showGates p.lane).bwStep p.lane old s.nowQ) s
  let s := s.sgates.foldl (fun s e => s.showSgate e.1) s
  let s := s.cells.foldl (fun s e => s.showCellEff e.1) s
  let s := (List.range 16).foldl (fun s p => s.skipTarget p d) s
  let t := s.sync
  { s with
    sync := { t with
      stepClk := some s.time.clk, ppsSec := if nsOf s.nowQ = 0 then none else some (secOf s.nowQ),
      upstream := t.upstream.map (fun u => (u.1, u.2.1, moveQ u.2.2 d)) },
    pair := { s.pair with linkA := { s.pair.linkA with sent := [] }, linkB := { s.pair.linkB with sent := [] } },
    journal := { s.journal with refDue := true },
    capRings := mapVals (fun (r : CapRing) => { r with refDue := true }) s.capRings }

/-- Units of 2^-32 ns in 2^48 seconds. -/
def timeSpan : Nat := 1000000000 * 2 ^ 32 * 2 ^ 48

/-- Load the time base with `v` (in units of 2^-32 ns) and rebase. -/
def State.loadTime (s : State) (v : Nat) : State :=
  let old := s.nowQ
  let s := { s with time := { s.time with now := v % timeSpan } }
  s.rebase ((s.nowQ : Int) - old) old

/-! ## STEP_APPLY (R46, R48, R50) -/

/-- The first whole second of the time base at least `ns` nanoseconds after instant `q`. -/
def secondAfter (q ns : Nat) : Nat := ceilDiv (q + nsQ ns) secQ * secQ

/-- The most recent offset of the pending step. -/
def State.stepOffset (s : State) : Int := s.getI A.tb TB_STEP_OFFSET_OFFSET

/-- Load the time base with its time less the latest offset, record the step and return the servo to ACQUIRE (R48). -/
def State.doStep (s : State) : State :=
  let old := s.nowQ
  let v := ((s.time.now : Int) - s.stepOffset * 65536).toNat
  let seq := s.get A.tb TB_STEP_STATUS_SEQ
  let s := s.loadTime v
  let s := (s.putI A.tb TB_STEP_LAST_DELTA ((s.nowQ : Int) - old)).put A.tb TB_STEP_LAST_SEC_SEC (secOf s.nowQ)
  let s := ((s.showStep false false).raise A.tb TB_EVENT_FLAGS 3).put A.tb TB_STATUS_STATE 1
  let s := { s with sync := { s.sync with autoStep := false, okRun := 0, lastGood := s.time.clk } }
  s.formAddend.report 0 0x0032 objNone 0 seq

/-- STEP_APPLY: an armed step at the first whole second 10 ms after its commit; outside service a step without
authorisation at the next whole second. A step raised outside service that meets service first waits for its authorisation
(R46; log entry 41). -/
def State.stepApply (s : State) : State :=
  let armed := s.on A.tb TB_STEP_STATUS_ARMED
  if s.sync.autoStep then
    if s.serving then
      let s := { s with sync := { s.sync with autoStep := false } }
      let s := if s.servoState = 3 then s else s.enterHoldover
      (s.raise A.tb TB_EVENT_FLAGS 2).report 0 0x0032 objNone 0 (s.get A.tb TB_STEP_STATUS_SEQ)
    else if s.nowQ < secondAfter (s.sync.stepAt + 1) 0 then s
    else s.doStep
  else if !armed || decide (s.nowQ < secondAfter s.sync.stepAt 10000000) then s
  else if (s.getI A.tb TB_LAST_OFFSET_OFFSET).natAbs ≤ nsQ 1000000 ∨ s.activeInput = inNone then s.withdrawStep
  else s.doStep

/-- STEP_APPLY. -/
def execStepApply (s : State) : Host.Outcome State Fault Refusal := .next s.stepApply

/-! ## TB_SET_GO and the tick (R31, R33, R38, R64, R147) -/

/-- A write of 1 to TB_SET_GO: the staged time is loaded at the next tick, outside service only. -/
def State.setGo (s : State) : State :=
  if s.serving then s.raise A.tb TB_EVENT_FLAGS 6
  else
    let q := s.stamp A.tb TB_SET_SEC_SEC TB_SET_NS_NS TB_SET_NS_FRAC
    { s with sync := { s.sync with setPending := some (q * 65536) } }

/-- TB_SET_GO. -/
def execTbSetGo (s : State) : Host.Outcome State Fault Refusal := .next s.setGo

/-- Advance the time base by `n` ticks; it stands still in Reset, and in Halt without Armature's rails (R381, R402). -/
def State.advance (s : State) (n : Nat) : State :=
  let a := s.get A.tb TB_ADDEND_EFF_ADDEND_EFF
  let v := if s.mode = 0 ∨ (s.mode = 11 ∧ !s.on A.pw PW_STATUS_RAILS_GOOD) then s.time.now else (s.time.now + n * a) % timeSpan
  { s with time := { now := v, clk := s.time.clk + n } }

/-- What a written register brings into force at the next tick. -/
def State.tickEffects (s : State) : State :=
  let s := s.applyRole
  let s := s.image.ports.foldl (fun s p => s.applyGateEn p.lane) s
  s.noteClean

/-- TIME_BASE_TICK: `n` ticks of the 1.0 GHz time base clock. A pending load takes the first of them. -/
def State.tick (s : State) (n : Nat) : State :=
  match n with
  | 0 => s
  | m + 1 =>
    let s := match s.sync.setPending with
      | some v =>
        let s := { s with sync := { s.sync with setPending := none, secondsKnown := true }, time := { s.time with clk := s.time.clk + 1 } }
        (s.loadTime v).advance m
      | none => s.advance (m + 1)
    s.tickEffects

end Sys2Proof.Machine
end

