-- ==== Sys2Proof/Machine/Rings.lean ====
section
/-!
DEFINITION. Rings: roles and policies, indices, commands, the execution of work entries, push slots, result records
(spec/11_control_rings.md R311, R316–R326, spec/12_dma.md R331).
-/

namespace Sys2Proof.Machine

/-! ## Roles and bindings (R324, R331) -/

/-- Ring `w` is a WORK ring that names `r` as its job result ring. -/
def State.namesResult (s : State) (w r : Nat) : Bool :=
  !s.isResult w && s.on (A.rgr w) RG_CFG_RESULT_EN && s.get (A.rgr w) RG_CFG_RESULT_RING == r

/-- The role of RESULT ring `r`: 0 none, 1 capture, 2 slow path, 3 journal, 4 job results. `but` is a WORK ring whose
present binding does not count. -/
def State.ringRole (s : State) (r : Nat) (but : Option Nat := none) : Nat :=
  if s.on A.jr JR_CTRL_EN && s.get A.jr JR_CTRL_RING == r then 3
  else if (List.range 15).any (fun k => s.on (A.cpf (k + 1)) CP_PROF_CTRL_EN && s.on (A.cpf (k + 1)) CP_PROF_CTRL_TO_RING &&
      s.get (A.cpf (k + 1)) CP_PROF_CTRL_RING == r) then 1
  else if (List.range 8).any (fun n => s.on (A.pr n) PR_SLOW_CTRL_EN && s.get (A.pr n) PR_SLOW_CTRL_RING == r) then 2
  else if (List.range 256).any (fun w => some w != but && s.namesResult w r) then 4
  else 0

/-- The policy of a role: 0 STALL, 1 DROP_NEW, 2 COALESCE. -/
def policyOf (role : Nat) : Nat := if role = 1 ∨ role = 2 then 1 else if role = 3 then 2 else 0

/-- A binding may give RESULT ring `r` the role: it has no other, and its policy matches (R324). -/
def State.roleOk (s : State) (r role : Nat) (but : Option Nat := none) : Bool :=
  s.isResult r && s.get (A.rgr r) RG_CFG_POLICY == policyOf role &&
    (s.ringRole r but == 0 || s.ringRole r but == role)

/-- The WORK ring bound to channel `c` of engine `e` (R331). -/
def State.boundRing (s : State) (e c : Nat) : Option Nat :=
  (List.range 256).find? (fun r => !s.isResult r && s.get (A.rgr r) RG_CFG_ENGINE_KIND == 1 &&
    s.get (A.rgr r) RG_CFG_ENGINE == e && s.get (A.rgr r) RG_CFG_CHANNEL == c)

/-- The channel takes a binding to ring `r`: no other ring holds it, and a DIRECT channel is IDLE with no start pending. -/
def State.bindOk (s : State) (r e c : Nat) : Bool :=
  match s.boundRing e c with
  | some r' => r' == r
  | none => s.get (A.dmc e c) DM_CH_STATUS_STATE == 0 && !s.on (A.dmc e c) DM_CH_STATUS_PENDING

/-- Ring `r` may be configured: IDLE or STOPPED (R318). -/
def State.ringIdle (s : State) (r : Nat) : Bool := s.ringState r == 0 || s.ringState r == 4

/-- Status of a write of `w` to RG_CFG of ring `r` (R318, R324, R331). -/
def State.ringCfgStatus (s : State) (r w : Nat) : Nat :=
  let result := w.testBit 63
  let role := s.ringRole r (some r)
  let size := bitsOf w 60 56
  if !s.ringIdle r || bitsOf w 62 61 = 3 || size < 4 || 16 < size || 2 < bitsOf w 46 44 then stBadValue
  else if role ≠ 0 && (!result || bitsOf w 62 61 ≠ policyOf role) then stBadValue
  else if result then stOK
  else if w.testBit 47 && (bitsOf w 55 48 = r || !s.roleOk (bitsOf w 55 48) 4 (some r)) then stBadValue
  else if bitsOf w 46 44 = 1 && !s.bindOk r (bitsOf w 43 42) (bitsOf w 41 37) then stBadValue
  else stOK

/-- A write of RG_BASE, RG_CFG or RG_NOTIFY that reports its status in RG_CMD too (R318). -/
def State.ringConfig (s : State) (r off w st : Nat) (q : Nat) : Nat × State :=
  let s := s.put (A.rgr r) RG_CMD_STATUS st
  if st ≠ stOK then (st, s)
  else
    let s := s.setWord (A.rgr r + off) (BitVec.ofNat 64 w)
    (st, if off = 8 then s.put (A.rgr r) RG_CFG_OWNER (min q 8) else s)

/-! ## Index writes (R317) -/

/-- A refused index write. -/
def State.badIndex (s : State) (r : Nat) : State := s.raise (A.rgr r) RG_EVENT_FLAGS 2

/-- A write of RG_PROD: for a WORK ring, at most the free entries ahead; ignored for a RESULT ring. -/
def State.prodWrite (s : State) (r v : Nat) : State :=
  if s.isResult r then s
  else
    let old := s.get (A.rgr r) RG_PROD_PROD
    if idxSub v old ≤ s.ringSize r - idxSub old (s.get (A.rgr r) RG_DONE_DONE) then s.put (A.rgr r) RG_PROD_PROD v
    else s.badIndex r

/-- A write of RG_CONS: for a RESULT ring, at most up to PROD; ignored for a WORK ring. Room in the journal ring starts a
flush pass (R291). -/
def State.consWrite (s : State) (r v : Nat) : State :=
  if !s.isResult r then s
  else
    let old := s.get (A.rgr r) RG_CONS_CONS
    if idxSub v old ≤ idxSub (s.get (A.rgr r) RG_PROD_PROD) old then
      let s := s.put (A.rgr r) RG_CONS_CONS v
      if s.on A.jr JR_CTRL_EN && s.jrRing == r then s.jrPass else s
    else s.badIndex r

/-- RG_PROD_WRITE: the doorbell of ring `r`. -/
def execRgProdWrite (r v : Nat) (s : State) : Host.Outcome State Fault Refusal :=
  .next (if r < 256 then s.prodWrite r (v % 2 ^ 32) else s)

/-- RG_CONS_WRITE: the consumer index of ring `r`. -/
def execRgConsWrite (r v : Nat) (s : State) : Host.Outcome State Fault Refusal :=
  .next (if r < 256 then s.consWrite r (v % 2 ^ 32) else s)

/-! ## Stalls and result records (R324) -/

/-- A job result ring is full, or is not RUNNING: every WORK ring that names it and runs enters STALLED. -/
def State.stallRings (s : State) (rr : Nat) : State :=
  (List.range 256).foldl (fun s w =>
    if s.namesResult w rr && s.ringState w == 1 then
      ((s.put (A.rgr w) RG_STATE_STATE 3).raise (A.rgr w) RG_EVENT_FLAGS 3).ringEvent w
    else s) s

/-- The job result record of an entry of ring `r` (R324); its RES_SEQ is put in when it is written. -/
def State.resultRecord (s : State) (r : Nat) (e : Running) (st bytes detail : Nat) : List Nat :=
  let q := s.nowQ
  [4 * 2 ^ 56 + st % 256 * 2 ^ 48 + r * 2 ^ 40 + bit e.pushed * 2 ^ 39 + e.words.getD 0 0 % 2 ^ 32, e.index, bytes,
   secOf q, nsWord q, detail, 0, 0]

/-- Write a record into job result ring `rr`, which has room; the ring may become full by it. -/
def State.putResult (s : State) (rr : Nat) (ws : List Nat) : State :=
  let s := s.ringPut rr (ws.set 6 (s.get (A.rgr rr) RG_RES_SEQ_NEXT))
  let s := s.inc (A.rgr rr) RG_RES_SEQ_NEXT 1
  if s.ringFree rr = 0 then s.stallRings rr else s

/-- A status that counts as success of an entry (R322, R323). -/
def success (st : Nat) : Bool := st == stOK || st == stNOP || st == stSkipped

/-- A STOP that waited takes effect. -/
def State.stopIfDue (s : State) (r : Nat) : State :=
  if (s.ring r).stopping then
    (s.setRing r { s.ring r with stopping := false }).put (A.rgr r) RG_STATE_STATE 4
  else s

/-- An entry of ring `r` completed: DONE or PUSH_DONE moves past it, and the next may start (R322). -/
def State.entryDone (s : State) (r : Nat) (e : Running) : State :=
  let s := s.setRing r { s.ring r with running := none, finished := none }
  let s := if e.pushed then s.put (A.rgr r) RG_DONE_PUSH_DONE (e.index + 1) else s.put (A.rgr r) RG_DONE_DONE (e.index + 1)
  let s := (s.bump (A.rgr r) RG_CNT_DONE_COUNT).ringAdvance r
  let s := if (e.words.getD 0 0).testBit 54 then s.ringEvent r else s
  s.stopIfDue r

/-- Take a failed entry back: a pushed one to the front of the push slots, one from memory by its fetch index. -/
def State.unrun (s : State) (r : Nat) : State :=
  let x := s.ring r
  match x.running with
  | some e =>
    let s := s.setRing r { x with running := none, finished := none,
                                  push := if e.pushed then (e.index, e.words) :: x.push else x.push }
    if e.pushed then s else s.put (A.rgr r) RG_CONS_CONS e.index
  | none => s

/-- An entry of ring `r` failed with status `st`: the ring enters ERROR, and the entry stays as the failed one (R322). -/
def State.entryFailed (s : State) (r : Nat) (e : Running) (st : Nat) : State :=
  let b := A.rgr r
  let s := s.setRing r { s.ring r with running := some e, finished := none }
  let s := (s.put b RG_STATE_STATE 2).put b RG_STATE_ERR_CODE st
  let s := (s.put b RG_STATE_ERR_PUSH (bit e.pushed)).put b RG_ERR_INDEX_INDEX e.index
  let s := ((s.raise b RG_EVENT_FLAGS 0).bump b RG_CNT_ERROR_COUNT).ringEvent r
  if (s.ring r).stopping then (s.unrun r).stopIfDue r else s

/-- The outcome of an entry whose record is written or that has none. -/
def State.entryOutcome (s : State) (r : Nat) (e : Running) (st : Nat) : State :=
  if success st then s.entryDone r e else s.entryFailed r e st

/-- Complete the entry of ring `r`: its result record first, which waits in the ring's holding place while the job result
ring has no room; nothing while that place is taken (R322, R324). -/
def State.completeEntry (s : State) (r : Nat) (e : Running) (st bytes detail : Nat) : State :=
  let rr := s.get (A.rgr r) RG_CFG_RESULT_RING
  if (e.words.getD 0 0).testBit 55 && s.on (A.rgr r) RG_CFG_RESULT_EN then
    let ws := s.resultRecord r e st bytes detail
    if s.ringFree rr ≠ 0 then (s.putResult rr ws).entryOutcome r e st
    else if (s.ring rr).holding.isSome then s
    else
      let s := s.setRing rr { s.ring rr with holding := some (r, e, ws) }
      let s := s.setRing r { s.ring r with finished := none }
      let s := s.stallRings rr
      if success st then s else s.entryFailed r e st
  else s.entryOutcome r e st

/-- ENTRY_COMPLETE: the work of ring `r`'s running entry is done. -/
def execEntryComplete (r : Nat) (s : State) : Host.Outcome State Fault Refusal :=
  .next (match (s.ring r).running, (s.ring r).finished with
    | some e, some (st, bytes, detail) => s.completeEntry r e st bytes detail
    | _, _ => s)

/-- STALL_RELEASE: job result ring `rr` has room again: the held record is written, then the stalled rings run. -/
def State.stallRelease (s : State) (rr : Nat) : State :=
  if s.ringFree rr = 0 then s
  else
    let s := match (s.ring rr).holding with
      | none => s
      | some (r, e, ws) =>
        let s := (s.setRing rr { s.ring rr with holding := none }).putResult rr ws
        if success (bitsOf (ws.getD 0 0) 55 48) then s.entryDone r e else s
    if s.ringFree rr = 0 then s
    else (List.range 256).foldl (fun s w =>
      if s.namesResult w rr && s.ringState w == 3 then s.put (A.rgr w) RG_STATE_STATE 1 else s) s

/-- STALL_RELEASE of job result ring `rr`. -/
def execStallRelease (rr : Nat) (s : State) : Host.Outcome State Fault Refusal :=
  .next (if rr < 256 && s.isResult rr then s.stallRelease rr else s)

/-- RING_EVENT: TIMER_US has passed with an advance since the last RING event of ring `r` (R325). -/
def execRingEvent (r : Nat) (s : State) : Host.Outcome State Fault Refusal :=
  let x := s.ring r
  let t := s.get (A.rgr r) RG_NOTIFY_TIMER_US
  .next (if s.get (A.rgr r) RG_NOTIFY_THRESH ≠ 0 ∧ t ≠ 0 ∧ x.advance ≠ x.evCount ∧ t * 1000 ≤ s.since x.evAt then
    s.ringEvent r else s)

/-! ## Commands (R318, R323) -/

/-- Status of START: the ring lies in one memory, aligned to its size, within its owner's rights (R316). -/
def State.startStatus (s : State) (r : Nat) : Nat × State :=
  let base := s.get (A.rgr r) RG_BASE_DA
  let n := s.ringSize r * 64
  let o := s.get (A.rgr r) RG_CFG_OWNER
  if !s.ringIdle r || base % n ≠ 0 then (stBadValue, s)
  else if regionOf base = .register then (stBadValue, s)
  else
    let g := if s.isResult r then Right.write else Right.read
    s.permit o g base n

/-- START: the ring runs; entries not completed are fetched again. -/
def State.ringStart (s : State) (r : Nat) : Nat × State :=
  let (st, s) := s.startStatus r
  if st ≠ stOK then (st, s)
  else
    let s := if s.isResult r then s else s.put (A.rgr r) RG_CONS_CONS (s.get (A.rgr r) RG_DONE_DONE)
    (stOK, s.put (A.rgr r) RG_STATE_STATE 1)

/-- STOP: no further entry starts; STOPPED now, or after the running entry. -/
def State.ringStop (s : State) (r : Nat) : Nat × State :=
  match s.ringState r with
  | 0 => (stNOP, s)
  | 4 => (stNOP, s)
  | 2 => (stOK, (s.unrun r).put (A.rgr r) RG_STATE_STATE 4)
  | _ =>
    if !s.isResult r && (s.ring r).running.isSome then (stOK, s.setRing r { s.ring r with stopping := true })
    else (stOK, s.put (A.rgr r) RG_STATE_STATE 4)

/-- RESUME: the failed entry is fetched from memory again and runs. -/
def State.ringResume (s : State) (r : Nat) : Nat × State :=
  let b := A.rgr r
  if s.ringState r ≠ 2 || s.on b RG_STATE_ERR_PUSH then (stBadValue, s)
  else if s.get b RG_CFG_ENGINE_KIND = 1 && s.on (A.dme (s.get b RG_CFG_ENGINE)) DM_ENG_STATUS_FAULT then (stBadValue, s)
  else (stOK, (s.unrun r).put b RG_STATE_STATE 1)

/-- SKIP: the failed entry completes with SKIPPED, and the ring runs. -/
def State.ringSkip (s : State) (r : Nat) : Nat × State :=
  if s.ringState r ≠ 2 then (stBadValue, s)
  else
    let s := s.put (A.rgr r) RG_STATE_STATE 1
    match (s.ring r).running with
    | some e =>
      let s := s.setRing r { s.ring r with finished := some (stSkipped, 0, 0) }
      (stOK, s.completeEntry r e stSkipped 0 0)
    | none => (stOK, s)

/-- RESET: indices and push slots to 0, and IDLE. -/
def State.ringReset (s : State) (r : Nat) : Nat × State :=
  if !s.ringIdle r then (stBadValue, s)
  else
    let b := A.rgr r
    let s := (s.put b RG_PROD_PROD 0).put b RG_CONS_CONS 0
    let s := (s.put b RG_DONE_DONE 0).put b RG_DONE_PUSH_DONE 0
    let s := s.setRing r { s.ring r with push := [], pushNext := 0, running := none, finished := none, holding := none }
    let s := s.setCapRing r { s.capRing r with spans := [] }
    (stOK, s.put b RG_STATE_STATE 0)

/-- A write of RG_CMD: the command and its status (R312, R318). -/
def State.ringCmd (s : State) (r op : Nat) : State :=
  let x := match op with
    | 1 => s.ringStart r
    | 2 => s.ringStop r
    | 3 => s.ringResume r
    | 4 => s.ringSkip r
    | 5 => s.ringReset r
    | _ => (stBadValue, s)
  x.2.put (A.rgr r) RG_CMD_STATUS x.1

/-- A command of ring `r`, where there is one (log entry 4). -/
def State.ringCommand (s : State) (r op : Nat) : State := if r < 256 then s.ringCmd r op else s

/-- START of ring `r`. -/
def execStart (r : Nat) (s : State) : Host.Outcome State Fault Refusal := .next (s.ringCommand r 1)

/-- STOP of ring `r`. -/
def execStop (r : Nat) (s : State) : Host.Outcome State Fault Refusal := .next (s.ringCommand r 2)

/-- RESUME of ring `r`. -/
def execResume (r : Nat) (s : State) : Host.Outcome State Fault Refusal := .next (s.ringCommand r 3)

/-- SKIP of ring `r`. -/
def execSkip (r : Nat) (s : State) : Host.Outcome State Fault Refusal := .next (s.ringCommand r 4)

/-- RESET of ring `r`. -/
def execRingReset (r : Nat) (s : State) : Host.Outcome State Fault Refusal := .next (s.ringCommand r 5)

/-! ## Execution of entries (R319–R321) -/

/-- The next entry of ring `r`: a pushed one, else one from memory; none where there is none. -/
def State.fetchEntry (s : State) (r : Nat) : Option (Running × State) :=
  let x := s.ring r
  match x.push with
  | (q, ws) :: rest => some (⟨true, q, ws⟩, s.setRing r { x with push := rest })
  | [] =>
    let c := s.get (A.rgr r) RG_CONS_CONS
    if c = s.get (A.rgr r) RG_PROD_PROD || !s.ringServed r then none
    else some (⟨false, c, s.memWords (s.ringEntry r c) 8⟩, s.put (A.rgr r) RG_CONS_CONS (c + 1))

/-- Words 0–7 of a descriptor go into the shadow set of a channel (R332). -/
def State.fillShadow (s : State) (e c : Nat) (ws : List Nat) : State :=
  ws.zipIdx.foldl (fun s x => s.put (A.dmc e c) (DM_CH_SH_W_WORD x.2) x.1) s

/-- The entry ends with a status at once. -/
def State.finish (s : State) (r st bytes detail : Nat) : State :=
  s.setRing r { s.ring r with finished := some (st, bytes, detail) }

/-- DESCRIPTOR_EXECUTE: ring `r` runs, no entry is in progress, and its job result ring has room: the next entry starts.
A NOP is done at once, a DMA operation goes into its channel's shadow set, a TX_FRAME waits for its injection. -/
def State.executeEntry (s : State) (r : Nat) : State :=
  let b := A.rgr r
  let k := s.get b RG_CFG_ENGINE_KIND
  let e := s.get b RG_CFG_ENGINE
  let c := s.get b RG_CFG_CHANNEL
  if s.isResult r || s.ringState r != 1 || (s.ring r).running.isSome || (s.ring r).stopping then s
  else if k = 1 && s.on (A.dme e) DM_ENG_STATUS_FAULT then s
  else
    match s.fetchEntry r with
    | none => s
    | some (x, t) =>
      if s.on b RG_CFG_RESULT_EN && s.ringFree (s.get b RG_CFG_RESULT_RING) == 0 then
        s.stallRings (s.get b RG_CFG_RESULT_RING)
      else
        let s := t.setRing r { t.ring r with running := some x, finished := none }
        let op := bitsOf (x.words.getD 0 0) 63 56
        if op = 0 then s.finish r stNOP 0 0
        else if op < 16 ∧ k = 1 then s.fillShadow e c x.words
        else if op = 16 ∧ k = 2 then s
        else s.finish r stBadValue 0 0

/-- DESCRIPTOR_EXECUTE of ring `r`. -/
def execDescriptorExecute (r : Nat) (s : State) : Host.Outcome State Fault Refusal :=
  .next (if r < 256 then s.executeEntry r else s)

/-- The running entry of ring `r` has still to be worked on: the ring is not in ERROR, and the record of the entry does
not wait in the holding place. -/
def State.entryOpen (s : State) (r : Nat) : Bool :=
  s.ringState r != 2 &&
    (match (s.ring (s.get (A.rgr r) RG_CFG_RESULT_RING)).holding with
     | some (w, _, _) => w != r
     | none => true)

/-- The reserved bits of a TX_FRAME descriptor are 0 (R319). -/
def txReservedOk (ws : List Nat) : Bool :=
  bitsOf (ws.getD 0 0) 53 32 == 0 && bitsOf (ws.getD 1 0) 63 44 == 0 && bitsOf (ws.getD 2 0) 50 16 == 0 &&
    (ws.drop 3).all (· == 0)

/-- The injection of a frame that ring `r` returns: status and bytes (R319). -/
def State.txFrame (s : State) (r : Nat) (ws : List Nat) : Nat × Nat × State :=
  let src := bitsOf (ws.getD 1 0) 43 0
  let w := ws.getD 2 0
  let l := bitsOf w 63 55
  let n := bitsOf w 15 0
  let owner := s.get (A.rgr r) RG_CFG_OWNER
  if !txReservedOk ws || n < 60 || 15996 < n || !s.isPort l || sliceOf l ≠ s.get (A.rgr r) RG_CFG_TX_SLICE ||
      regionOf src = .register then (stBadValue, 0, s)
  else
    let (st, s) := s.permit owner .read src n
    if st ≠ stOK then (st, 0, s)
    else if !s.sliceServes (sliceOf l) || !s.datapath then (stPowerAbort, 0, s)
    else
      let f := withFcs (s.memBytes src n)
      if w.testBit 51 then (stOK, n, s.arrive { lane := l, bytes := f, sof := s.nowQ } false)
      else (stOK, n, s.relay l (bitsOf w 54 52) { bytes := f })

/-- TX_FRAME: the frame of ring `r`'s running TX_FRAME entry is injected. -/
def execTxFrame (r : Nat) (s : State) : Host.Outcome State Fault Refusal :=
  let x := s.ring r
  .next (match x.running, x.finished with
    | some e, none =>
      if bitsOf (e.words.getD 0 0) 63 56 = 16 ∧ s.get (A.rgr r) RG_CFG_ENGINE_KIND = 2 ∧ s.entryOpen r then
        let y := s.txFrame r e.words
        y.2.2.finish r y.1 y.2.1 0
      else s
    | _, _ => s)

/-! ## Push slots and ring records (R311, R321) -/

/-- Push slots of ring `r` in use: a running or failed pushed entry keeps its slot until it completes. -/
def State.pushFill (s : State) (r : Nat) : Nat :=
  (s.ring r).push.length + bit (match (s.ring r).running with | some e => e.pushed | none => false)

/-- RING_PUSH of descriptors to ring `r`: status, descriptors accepted, push sequence of the first. -/
def State.ringPush (s : State) (r : Nat) (ds : List (List Nat)) : Nat × Nat × Nat × State :=
  if s.isResult r || s.ringIdle r then (stBadValue, 0, 0, s)
  else
    let x := s.ring r
    let k := min ds.length (4 - s.pushFill r)
    let new := (ds.take k).zipIdx.map (fun d => ((x.pushNext + d.2) % 2 ^ 32, d.1))
    let s := s.setRing r { x with push := x.push ++ new, pushNext := (x.pushNext + k) % 2 ^ 32 }
    (if k < ds.length then stQueueFull else stOK, k, x.pushNext, s)

/-- The ring record of HEAD: 24 bytes as three words (R311). -/
def State.headRecord (s : State) (r : Nat) : List Nat :=
  let b := A.rgr r
  [s.get b RG_PROD_PROD * 2 ^ 32 + s.get b RG_CONS_CONS, s.get b RG_DONE_DONE * 2 ^ 32 + s.get b RG_DONE_PUSH_DONE,
   s.ringState r * 2 ^ 56 + s.get b RG_STATE_ERR_CODE * 2 ^ 48 + s.get b RG_ERR_INDEX_INDEX]

end Sys2Proof.Machine
end

