-- ==== Sys2Proof/Machine/Dma.lean ====
section
/-!
DEFINITION. Block movers: descriptors, load checks, movement, errors, and power-down of domains that transfers touch
(spec/12_dma.md R327–R340, spec/16_power.md R403). TABLE_LOAD records are written in TableLoad.lean, which has the
register map's write.
-/

namespace Sys2Proof.Machine

/-! ## Channels -/

/-- What channel `c` of engine `e` holds beyond its registers. -/
def State.chan (s : State) (e c : Nat) : DmaChan := SMap.get {} s.channels (e * 32 + c)

/-- Store channel state. -/
def State.setChan (s : State) (e c : Nat) (x : DmaChan) : State :=
  { s with channels := SMap.set {} (e * 32 + c) x s.channels }

/-- DM_CH_STATUS.STATE: 0 IDLE, 1 LOADED, 2 RUNNING, 3 HALTED. -/
def State.chanState (s : State) (e c : Nat) : Nat := s.get (A.dmc e c) DM_CH_STATUS_STATE

/-- Channels of engine `e` in a state. -/
def State.chansIn (s : State) (e st : Nat) : List Nat := (List.range 32).filter (fun c => s.chanState e c == st)

/-! ## Descriptors (R327, R328) -/

/-- OPCODE of a descriptor. -/
def dmaOp (ws : List Nat) : Nat := bitsOf (ws.getD 0 0) 63 56
/-- Its SRC. -/
def dmaSrc (ws : List Nat) : Nat := bitsOf (ws.getD 1 0) 43 0
/-- Its DST. -/
def dmaDst (ws : List Nat) : Nat := bitsOf (ws.getD 2 0) 43 0
/-- Its LEN or COUNT. -/
def dmaLen (ws : List Nat) : Nat := bitsOf (ws.getD 3 0) 31 0
/-- Its LANE. -/
def dmaLane (ws : List Nat) : Nat := bitsOf (ws.getD 2 0) 63 55

/-- OPCODE and every field lie within R327, alignment holds, reserved bits are 0; LANE names a port. -/
def State.dmaFieldsOk (s : State) (ws : List Nat) : Bool :=
  let w := fun k => ws.getD k 0
  let n := dmaLen ws
  bitsOf (w 0) 53 32 == 0 && w 5 == 0 && w 6 == 0 && w 7 == 0 &&
    (match dmaOp ws with
     | 1 => bitsOf (w 1) 63 44 == 0 && bitsOf (w 2) 63 44 == 0 && bitsOf (w 3) 63 32 == 0 && n != 0 && w 4 == 0
     | 2 => w 1 == 0 && bitsOf (w 2) 63 44 == 0 && w 2 % 8 == 0 && bitsOf (w 3) 63 32 == 0 && n != 0 && n % 8 == 0
     | 3 => bitsOf (w 1) 63 44 == 0 && w 2 == 0 && bitsOf (w 3) 63 32 == 0 && n != 0 && w 4 == 0
     | 4 => bitsOf (w 1) 63 44 == 0 && w 1 % 8 == 0 && w 2 == 0 && decide (1 ≤ w 3 ∧ w 3 ≤ 65536) && w 4 == 0
     | 5 => bitsOf (w 1) 63 44 == 0 && w 1 % 8 == 0 && bitsOf (w 2) 44 0 == 0 && decide (1 ≤ w 3 ∧ w 3 ≤ 65536) && w 4 == 0 &&
         s.isPort (dmaLane ws)
     | _ => false)

/-- LEN of the frame whose header word lies at `a`. -/
def State.frameLen (s : State) (a : Nat) : Nat := bitsOf (s.memWord a) 15 0

/-- Bytes that a frame of `n` bytes takes in a frame list, with its header word and padding (R330). -/
def frameSpan (n : Nat) : Nat := 8 + ceilDiv n 8 * 8

/-- Bytes of a list of at most `k` frames at `a`, up to a frame whose LEN is out of range. -/
def State.listSpan (s : State) : Nat → Nat → Nat
  | 0, _ => 0
  | k + 1, a =>
    let n := s.frameLen a
    if n < 60 ∨ 15996 < n then 8 else frameSpan n + s.listSpan k (a + frameSpan n)

/-- The regions of a transfer: first address, bytes, and that it is written. -/
def State.dmaRegions (s : State) (ws : List Nat) : List (Nat × Nat × Bool) :=
  match dmaOp ws with
  | 1 => [(dmaSrc ws, dmaLen ws, false), (dmaDst ws, dmaLen ws, true)]
  | 2 => [(dmaDst ws, dmaLen ws, true)]
  | 3 => [(dmaSrc ws, dmaLen ws, false)]
  | 4 => [(dmaSrc ws, 16 * dmaLen ws, false)]
  | _ => [(dmaSrc ws, s.listSpan (dmaLen ws) (dmaSrc ws), false)]

/-- Status of a region as a target: all its bytes in one memory (R328). -/
def State.regionStatus (s : State) (a n : Nat) : Nat :=
  match regionOf a with
  | .register => stBadValue
  | .none => stNoTarget
  | .ddr => if a + n ≤ ddrBase + s.ddrBytes then stOK else stNoTarget
  | .hold => if a + n ≤ 0x40000000 then stOK else stNoTarget
  | .sram => if a + n ≤ 0x41000000 then stOK else stNoTarget

/-- Rights of requester `q` and engine `e` over a region (R333, R452–R454). -/
def State.regionRight (s : State) (q e a n : Nat) (w : Bool) : Bool × State :=
  if s.reservedFor q a w || s.reservedFor q (a + n - 1) w || (w && regionOf a == .hold && s.mode != 10) then (false, s)
  else
    let g := if w then Right.write else Right.read
    let (x, s) := s.hasRight q g a n
    if x then s.hasRight (reqEngine e) g a n else (false, s)

/-- Rights over the queue of a port, taken as WRITE on its SH registers (log entry 42). -/
def State.portRight (s : State) (q e l : Nat) : Bool × State :=
  let (x, s) := s.hasRight q .write (A.shp l) 8
  if x then s.hasRight (reqEngine e) .write (A.shp l) 8 else (false, s)

/-- A chain of checks: the first that fails decides, each leaving its state. -/
def allRights (s : State) : List (State → Bool × State) → Bool × State
  | [] => (true, s)
  | f :: fs => let (x, s) := f s; if x then allRights s fs else (false, s)

/-! ## Power domains (R339, R403) -/

/-- The bytes from `a` to `a + n - 1` lie in part in a domain: kind 1, DDR5 channel `i`; kind 2, bank group `i`. -/
def State.rangeTouches (s : State) (kind i a n : Nat) : Bool :=
  let z := a + n - 1
  match kind, regionOf a with
  | 1, .ddr =>
    let g := 2 ^ s.image.ddrG
    let k := (a - ddrBase) / g
    let m := min s.ddrChannels.length ((z - ddrBase) / g - k + 1)
    (List.range m).any (fun j => s.ddrChannels[(k + j) % s.ddrChannels.length]? == some i)
  | 2, .hold => decide (bankGroupOf a ≤ i ∧ i ≤ bankGroupOf z)
  | _, _ => false

/-- A transfer touches a power domain: its regions, or the slice that its frames or records reach (R339). -/
def State.dmaTouches (s : State) (ws : List Nat) (kind i : Nat) : Bool :=
  (s.dmaRegions ws).any (fun r => s.rangeTouches kind i r.1 r.2.1) ||
    (kind == 0 &&
      (match dmaOp ws with
       | 4 => (List.range (dmaLen ws)).any (fun k =>
           sliceOfAddr (bitsOf (s.memWord (dmaSrc ws + 16 * k)) 43 0) == some i)
       | 5 => sliceOf (dmaLane ws) == i
       | _ => false))

/-- DM_POWER's bits of a kind of domain. -/
def powerFld : Nat → Fld
  | 0 => DM_POWER_SLICES | 1 => DM_POWER_DDR | _ => DM_POWER_CALDERA_BANKS

/-- A domain is draining or down (DM_POWER). -/
def State.domainDown (s : State) (kind i : Nat) : Bool := (s.get A.dm (powerFld kind)).testBit i

/-- A transfer lies in part in a domain that is down or draining, or FRAME_OUT names a slice that does not serve
(R333). -/
def State.dmaUnpowered (s : State) (ws : List Nat) : Bool :=
  (List.range 16).any (fun i => s.domainDown 1 i && s.dmaTouches ws 1 i) ||
    (List.range 16).any (fun i => s.domainDown 2 i && s.dmaTouches ws 2 i) ||
    (s.dmaRegions ws).any (fun r => !s.rangeServed r.1 r.2.1) ||
    (dmaOp ws == 5 && (s.domainDown 0 (sliceOf (dmaLane ws)) || !s.sliceServes (sliceOf (dmaLane ws))))

/-! ## Ends of transfers (R335–R337) -/

/-- A transfer of channel `c` of engine `e` ends with its status, bytes and DETAIL: it fails or completes its ring entry,
or leaves a DIRECT channel IDLE, or HALTED when it was cut short (R335, R336). -/
def State.endTransfer (s : State) (e c st bytes detail : Nat) : State :=
  let b := A.dmc e c
  let s := ((s.put b DM_CH_STATUS_STATUS st).put b DM_CH_COUNT_BYTES bytes).put b DM_CH_DETAIL_DETAIL detail
  let s := s.add (A.dme e) DM_ENG_BYTES_COUNT bytes
  let s := if success st then s.inc b DM_CH_STATUS_DONE_SEQ 1 else s
  let s := s.setChan e c { goBy := (s.chan e c).goBy }
  match s.boundRing e c with
  | some r => (s.put b DM_CH_STATUS_STATE 0).finish r st bytes detail
  | none => s.put b DM_CH_STATUS_STATE (if success st then 0 else 3)

/-- Move the first `n` bytes of a COPY, FILL or CHECK in transfer order; every byte receives the source byte as it stood
before (R334). -/
def State.moveBytes (s : State) (ws : List Nat) (dir : Bool) (n : Nat) : State :=
  match dmaOp ws with
  | 1 =>
    let o := if dir then dmaLen ws - n else 0
    s.setMemBytes (dmaDst ws + o) (s.memBytes (dmaSrc ws + o) n)
  | 2 => s.setMemBytes (dmaDst ws) ((List.replicate (ceilDiv n 8) (wordLE (ws.getD 4 0))).flatten.take n)
  | _ => s

/-- DETAIL of a transfer that did not complete: the direction of a COPY, frames or records completed; 0 else. -/
def State.partDetail (s : State) (e c : Nat) : Nat :=
  match dmaOp (s.chan e c).words with
  | 1 => s.get (A.dmc e c) DM_CH_STATUS_DIR
  | 4 => (s.chan e c).frames
  | 5 => (s.chan e c).frames
  | _ => 0

/-- Bytes of the `units` units completed of 256 bytes each, short of the last byte (R336); of a list, the bytes of its
whole records or frames. -/
def State.partBytes (s : State) (e c units : Nat) : Nat :=
  let x := s.chan e c
  match dmaOp x.words with
  | 4 => 16 * x.frames
  | 5 => x.bytes
  | _ => min (256 * units) ((dmaLen x.words - 1) / 256 * 256)

/-- A RUNNING transfer halts after `units` whole units with status `st`; `spoil` leaves the destination beyond them
undefined (R337). -/
def State.haltTransfer (s : State) (e c st units : Nat) (spoil : Bool) : State :=
  let x := s.chan e c
  let n := s.partBytes e c units
  let dir := s.on (A.dmc e c) DM_CH_STATUS_DIR
  let rest := dmaLen x.words - n
  let s1 := s.moveBytes x.words dir n
  let s1 := if spoil && (dmaOp x.words == 1 || dmaOp x.words == 2) then
      s1.freeRange (dmaDst x.words + (if dir then 0 else n)) rest
    else s1
  s1.endTransfer e c st n (s.partDetail e c)

/-! ## Domains that power down (R339) -/

/-- Some LOADED or RUNNING transfer touches the domain. -/
def State.touched (s : State) (kind i : Nat) : Bool :=
  (List.range 4).any (fun e => (List.range 32).any (fun c =>
    (s.chanState e c == 1 || s.chanState e c == 2) && s.dmaTouches (s.chan e c).words kind i))

/-- A domain powers down: a slice without a fence is OFF, a fenced DDR5 channel is out of service, a bank group loses
its cells. -/
def State.powerDown (s : State) (d : Drain) : State :=
  match d.kind with
  | 0 => if d.fence then s else (s.setSlice d.index 7 0).putBit A.pw PW_DOMAIN_SLICES d.index false
  | 1 =>
    let s := (s.putBit A.pw PW_DOMAIN_DDR d.index false).loseMemory d.index
    if d.fence then s.putBit A.md MD_DDR_FENCE_CHANNELS d.index true else s
  | _ => s.setBank d.index false

/-- Every drained domain that no transfer touches any more powers down; a slice that drains for a fence waits for
FENCE_DRAIN_COMPLETE. -/
def State.drainsDone (s : State) : State :=
  s.drains.foldl (fun s d =>
    if (d.kind == 0 && d.fence) || s.touched d.kind d.index then s
    else { s with drains := s.drains.filter (· != d) }.powerDown d) s

/-- Channels in a state whose transfers touch a domain, as engine and channel. -/
def State.touching (s : State) (st kind i : Nat) : List (Nat × Nat) :=
  (List.range 4).flatMap (fun e => ((s.chansIn e st).filter (fun c => s.dmaTouches (s.chan e c).words kind i)).map (fun c => (e, c)))

/-- Report a POWER_ABORT of a channel. -/
def State.journalAbort (s : State) (e c n : Nat) : State :=
  (s.raise (A.dme e) DM_ENG_EVENT_FLAGS 2).report (5 + e) 0x0052 objDma (e * 32 + c) n

/-- A power-down request: the domain is marked as draining, LOADED transfers that touch it end, RUNNING ones go on
(R339, R340). -/
def State.requestDown (s : State) (kind i : Nat) (fence : Bool) : State :=
  let s := s.putBit A.dm (powerFld kind) i true
  let s := { s with drains := s.drains.filter (fun (d : Drain) => d.kind != kind || d.index != i) ++ [(⟨kind, i, s.time.clk, fence⟩ : Drain)] }
  let s := (s.touching 1 kind i).foldl (fun s x => s.endTransfer x.1 x.2 stPowerAbort 0 0) s
  s.drainsDone

/-- Halt the RUNNING transfers that touch a domain at their unit boundaries: `units` gives the units completed by
engine × 32 + channel. -/
def State.abortTouching (s : State) (kind i : Nat) (units : List (Nat × Nat)) : State :=
  (s.touching 2 kind i).foldl (fun s x =>
    let u := SMap.get 0 units (x.1 * 32 + x.2)
    let n := s.partBytes x.1 x.2 u
    (s.haltTransfer x.1 x.2 stPowerAbort u false).journalAbort x.1 x.2 n) s

/-- A domain exists and is powered. -/
def State.domainOn (s : State) (kind i : Nat) : Bool :=
  match kind with
  | 0 => s.isSlice i && (s.get A.pw PW_DOMAIN_SLICES).testBit i
  | 1 => s.image.ddrCh.testBit i && (s.get A.pw PW_DOMAIN_DDR).testBit i
  | 2 => decide (i < 16) && (s.get A.pw PW_DOMAIN_BANKS).testBit i
  | _ => false

/-- POWER_DOWN_REQUEST of a domain: 0 slice, 1 DDR5 channel, 2 bank group. -/
def execPowerDownRequest (kind i : Nat) (s : State) : Host.Outcome State Fault Refusal :=
  .next (if s.domainOn kind i then s.requestDown kind i false else s)

/-- DRAIN_LIMIT_EXPIRY: DRAIN_LIMIT_US has passed since the request; `units` gives the units each RUNNING channel that
touches the domain completed. -/
def execDrainLimitExpiry (kind i : Nat) (units : List (Nat × Nat)) (s : State) : Host.Outcome State Fault Refusal :=
  .next (match s.drains.find? (fun d => d.kind == kind && d.index == i) with
    | some d =>
      if s.get A.dm DM_CTRL_DRAIN_LIMIT_US * 1000 ≤ s.since d.at_ then (s.abortTouching kind i units).drainsDone else s
    | none => s)

/-! ## Loading (R332–R334) -/

/-- The shadow set of a channel. -/
def State.shadow (s : State) (e c : Nat) : List Nat :=
  (List.range 8).map (fun k => s.get (A.dmc e c) (DM_CH_SH_W_WORD k))

/-- The load checks of R333 in order; the state is the one after the map checks. -/
def State.loadStatus (s : State) (q e : Nat) (ws : List Nat) : Nat × State :=
  if !s.dmaFieldsOk ws then (stBadValue, s)
  else
    match (s.dmaRegions ws).find? (fun r => s.regionStatus r.1 r.2.1 != stOK) with
    | some r => (s.regionStatus r.1 r.2.1, s)
    | none =>
      let (ok, s) := allRights s ((s.dmaRegions ws).map (fun r (s : State) => s.regionRight q e r.1 r.2.1 r.2.2) ++
        (if dmaOp ws = 5 then [fun (s : State) => s.portRight q e (dmaLane ws)] else []))
      if !ok then (stAccessDenied, s)
      else if s.dmaUnpowered ws then (stPowerAbort, s)
      else if dmaOp ws = 1 ∧ dmaSrc ws = dmaDst ws then (stNOP, s)
      else if s.on (A.dme e) DM_ENG_STATUS_FAULT then (stEngineFault, s)
      else (stOK, s)

/-- Load the shadow set into the working set with the rights of requester `q`: LOADED, or ended by the check that failed.
A failed direct load leaves the channel IDLE. -/
def State.loadTransfer (s : State) (e c q : Nat) : State :=
  let b := A.dmc e c
  let ws := s.shadow e c
  let (st, s) := s.loadStatus q e ws
  let s := (s.put b DM_CH_WORK_SRC_DA (dmaSrc ws)).put b DM_CH_WORK_DST_DA (dmaDst ws)
  let s := (s.put b DM_CH_WORK_LEN_OPCODE (dmaOp ws)).put b DM_CH_WORK_LEN_LEN (dmaLen ws)
  let s := (s.put b DM_CH_COUNT_BYTES 0).put b DM_CH_DETAIL_DETAIL 0
  let dir := dmaOp ws == 1 && decide (dmaSrc ws < dmaDst ws ∧ dmaDst ws < dmaSrc ws + dmaLen ws)
  let s := s.put b DM_CH_STATUS_DIR (bit dir)
  if st = stOK then
    (s.setChan e c { words := ws, by_ := q, goBy := (s.chan e c).goBy }).put b DM_CH_STATUS_STATE 1
  else
    let s := s.endTransfer e c st 0 0
    if (s.boundRing e c).isSome then s else s.put b DM_CH_STATUS_STATE 0

/-- A write of 1 to DM_CH_GO by requester `q` (R332). -/
def State.dmaGo (s : State) (e c q : Nat) : State :=
  let b := A.dmc e c
  let st := s.chanState e c
  if (s.boundRing e c).isSome || st = 3 then s.put b DM_CH_STATUS_GO_STATUS stBadValue
  else if s.on b DM_CH_STATUS_PENDING then s.put b DM_CH_STATUS_GO_STATUS stQueueFull
  else if st = 0 then (s.put b DM_CH_STATUS_GO_STATUS stOK).loadTransfer e c q
  else
    ((s.setChan e c { s.chan e c with goBy := q }).put b DM_CH_STATUS_GO_STATUS stOK).put b DM_CH_STATUS_PENDING 1

/-- GO on channel `c` of engine `e` by requester `q`. -/
def execDmGo (e c q : Nat) (s : State) : Host.Outcome State Fault Refusal :=
  .next (if e < 4 ∧ c < 32 then s.dmaGo e c q else s)

/-- A write of shadow word `k`: ignored while a ring holds the channel or a start is pending, which GO_STATUS tells
(R332). -/
def State.shadowWrite (s : State) (e c k w : Nat) : State :=
  let b := A.dmc e c
  if (s.boundRing e c).isSome then s.put b DM_CH_STATUS_GO_STATUS stBadValue
  else if s.on b DM_CH_STATUS_PENDING then s.put b DM_CH_STATUS_GO_STATUS stQueueFull
  else (s.put b (DM_CH_SH_W_WORD k) w).put b DM_CH_STATUS_GO_STATUS stOK

/-- TRANSFER_LOAD: an IDLE channel loads what waits: the ring entry in its shadow set, or a pending direct start. -/
def State.transferLoad (s : State) (e c : Nat) : State :=
  let b := A.dmc e c
  if s.chanState e c ≠ 0 then s
  else
    match s.boundRing e c with
    | some r =>
      match (s.ring r).running, (s.ring r).finished with
      | some x, none =>
        let op := dmaOp x.words
        if 1 ≤ op ∧ op < 16 ∧ s.entryOpen r then s.loadTransfer e c (s.get (A.rgr r) RG_CFG_OWNER)
        else s
      | _, _ => s
    | none =>
      if s.on b DM_CH_STATUS_PENDING && !s.on (A.dme e) DM_ENG_STATUS_FAULT then
        (s.put b DM_CH_STATUS_PENDING 0).loadTransfer e c (s.chan e c).goBy
      else s

/-- TRANSFER_LOAD of channel `c` of engine `e`. -/
def execTransferLoad (e c : Nat) (s : State) : Host.Outcome State Fault Refusal :=
  .next (if e < 4 ∧ c < 32 then s.transferLoad e c else s)

/-! ## Running (R330, R335, R336) -/

/-- Movers an engine may run at a time: four, or one under capping step 4 (R406). -/
def State.movers (s : State) : Nat := if 4 ≤ s.get A.pw PW_CAP_STATUS_STEP then 1 else 4

/-- The LOADED channel an engine starts next: highest PRIO, then round-robin after the one started last (R335). -/
def State.nextChan (s : State) (e : Nat) : Option Nat :=
  let last := SMap.get 0 s.lastStart e
  let order := (List.range 32).map (fun k => (last + k) % 32)
  let ready := order.filter (fun c => s.chanState e c == 1)
  let top := ready.foldl (fun m c => max m (s.get (A.dmc e c) DM_CH_CTRL_PRIO)) 0
  ready.find? (fun c => s.get (A.dmc e c) DM_CH_CTRL_PRIO == top)

/-- The transfer of a RUNNING channel completes with everything it moves (R336); a FRAME_OUT only when every frame has
been sent, a TABLE_LOAD when every record has been written. -/
def State.transferDone (s : State) (e c : Nat) : State :=
  let x := s.chan e c
  let n := dmaLen x.words
  if s.chanState e c ≠ 2 then s
  else
    match dmaOp x.words with
    | 3 => s.endTransfer e c stOK n (crc32c (s.memBytes (dmaSrc x.words) n))
    | 4 => if x.frames = n then s.endTransfer e c stOK (16 * n) n else s
    | 5 => if x.frames = n then s.endTransfer e c stOK x.bytes n else s
    | _ =>
      let dir := s.on (A.dmc e c) DM_CH_STATUS_DIR
      (s.moveBytes x.words dir n).endTransfer e c stOK n (bit dir)

/-- TRANSFER_COMPLETE on channel `c` of engine `e`; a domain that it was the last to touch powers down. -/
def execTransferComplete (e c : Nat) (s : State) : Host.Outcome State Fault Refusal :=
  .next (if e < 4 ∧ c < 32 then (s.transferDone e c).drainsDone else s)

/-- FRAME_OUT: the next frame of a RUNNING FRAME_OUT transfer enters its queue once the port has relay cells for it; a LEN
out of range ends the transfer (R330). -/
def State.frameOut (s : State) (e c : Nat) : State :=
  let x := s.chan e c
  let a := dmaSrc x.words + x.offset
  let n := s.frameLen a
  let w := x.words.getD 2 0
  let l := dmaLane x.words
  if s.chanState e c ≠ 2 ∨ dmaOp x.words ≠ 5 ∨ x.frames = dmaLen x.words then s
  else if n < 60 ∨ 15996 < n then s.endTransfer e c stBadValue x.bytes x.frames
  else
    let f := withFcs (s.memBytes (a + 8) n)
    if s.relayFree l < cellsFor f.length ∨ !s.sliceServes (sliceOf l) then s
    else
      let s := s.relay l (bitsOf w 54 52) { bytes := f, flow := if w.testBit 51 then some (bitsOf w 50 45) else none }
      let s := s.setChan e c { x with frames := x.frames + 1, offset := x.offset + frameSpan n, bytes := x.bytes + n }
      s.put (A.dmc e c) DM_CH_COUNT_BYTES (x.bytes + n)

/-- FRAME_OUT on channel `c` of engine `e`. -/
def execFrameOut (e c : Nat) (s : State) : Host.Outcome State Fault Refusal :=
  .next (if e < 4 ∧ c < 32 then s.frameOut e c else s)

/-! ## Errors (R337, R338) -/

/-- BUS_ERROR: an access of a RUNNING transfer failed its last retry after `units` whole units (R337). -/
def State.busError (s : State) (e c units : Nat) : State :=
  if s.chanState e c ≠ 2 then s
  else
    let k := s.get (A.dme e) DM_ENG_CTRL_RETRY_LIMIT
    let n := s.partBytes e c units
    let s := (s.add (A.dmc e c) DM_CH_RETRIES_COUNT k).add (A.dme e) DM_ENG_RETRIES_COUNT k
    let s := (s.haltTransfer e c stBusError units true).raise (A.dme e) DM_ENG_EVENT_FLAGS 1
    (s.report (5 + e) 0x0050 objDma (e * 32 + c) n).drainsDone

/-- BUS_ERROR on channel `c` of engine `e`. -/
def execBusError (e c units : Nat) (s : State) : Host.Outcome State Fault Refusal :=
  .next (if e < 4 ∧ c < 32 then s.busError e c units else s)

/-- A RUNNING ring of a faulted engine enters ERROR at its current entry (R338). -/
def State.faultRing (s : State) (r : Nat) : State :=
  if s.ringState r ≠ 1 then s
  else
    match (s.ring r).running, (s.ring r).finished with
    | some e, some (st, bytes, detail) => s.completeEntry r e st bytes detail
    | some e, none => s.completeEntry r e stEngineFault 0 0
    | none, _ =>
      match s.fetchEntry r with
      | some (e, s) => s.completeEntry r e stEngineFault 0 0
      | none =>
        let i := s.get (A.rgr r) RG_DONE_DONE
        s.completeEntry r ⟨false, i, s.memWords (s.ringEntry r i) 8⟩ stEngineFault 0 0

/-- ENGINE_FAULT: a prefetch read of engine `e` at `addr` failed its last retry; `units` gives the units each RUNNING
channel completed, by channel (R338). -/
def State.engineFault (s : State) (e addr : Nat) (units : List (Nat × Nat)) : State :=
  let b := A.dme e
  let s := s.add b DM_ENG_RETRIES_COUNT (s.get b DM_ENG_CTRL_RETRY_LIMIT)
  let s := ((s.put b DM_ENG_STATUS_FAULT 1).put b DM_ENG_FAULT_ADDR_DA addr).raise b DM_ENG_EVENT_FLAGS 0
  let run := s.chansIn e 2
  let idle := s.chansIn e 1
  let s := run.foldl (fun s c => s.haltTransfer e c stEngineFault (SMap.get 0 units c) false) s
  let s := idle.foldl (fun s c => s.endTransfer e c stEngineFault 0 0) s
  let s := ((List.range 32).filterMap (fun c => s.boundRing e c)).foldl (fun s r => s.faultRing r) s
  let s := (run ++ idle).foldl (fun s c => s.report (5 + e) 0x0051 objDma (e * 32 + c) e) s
  s.drainsDone

/-- ENGINE_FAULT of engine `e`. -/
def execEngineFault (e addr : Nat) (units : List (Nat × Nat)) (s : State) : Host.Outcome State Fault Refusal :=
  .next (if e < 4 then s.engineFault e addr units else s)

/-- DM_ENG_CMD.CLEAR clears FAULT (R338). -/
def State.engineClear (s : State) (e : Nat) : State := s.put (A.dme e) DM_ENG_STATUS_FAULT 0

/-- DM_ENG_CLEAR of engine `e`. -/
def execDmEngClear (e : Nat) (s : State) : Host.Outcome State Fault Refusal :=
  .next (if e < 4 then s.engineClear e else s)

/-- CLEAR_HALT returns a HALTED DIRECT channel to IDLE (R335). -/
def State.clearHalt (s : State) (e c : Nat) : State :=
  if s.chanState e c = 3 ∧ (s.boundRing e c).isNone then s.put (A.dmc e c) DM_CH_STATUS_STATE 0 else s

/-- CLEAR_HALT of channel `c` of engine `e`. -/
def execClearHalt (e c : Nat) (s : State) : Host.Outcome State Fault Refusal :=
  .next (if e < 4 ∧ c < 32 then s.clearHalt e c else s)

end Sys2Proof.Machine
end

