-- ==== Sys2Proof/Machine/Image.lean ====
section
/-!
DEFINITION. Celwen images: layout, records, and the checks that read only the image (spec/14_image_boot.md R357–R369,
R375).
-/

namespace Sys2Proof.Machine

/-! ## Layout (R357, R358) -/

/-- Why an image was refused: failure code of R369, section index (0xFF none), byte offset of the failing part. -/
structure ImageFail where
  code : Nat
  section_ : Nat
  offset : Nat
  deriving DecidableEq, Repr

/-- KIND: 0 FULL, 1 RESHAPE, 2 FIRMWARE. -/
def imgKind (b : Bytes) : Nat := rd b 6 1
/-- TARGET. -/
def imgTarget (b : Bytes) : Nat := rd b 7 1
/-- IMAGE_LEN. -/
def imgLen (b : Bytes) : Nat := rd b 8 4
/-- SECTIONS. -/
def imgSections (b : Bytes) : Nat := rd b 12 2
/-- SEC_VERSION. -/
def imgSecVersion (b : Bytes) : Nat := rd b 16 4
/-- Start of the signature block. -/
def imgSig (b : Bytes) : Nat := imgLen b - 256

/-- The section table. -/
def sectionTable (b : Bytes) : List Section :=
  (List.range (imgSections b)).map (fun i =>
    let o := 128 + 32 * i
    ⟨rd b o 2, rd b (o + 2) 1, rd b (o + 4) 4, rd b (o + 8) 4, rd b (o + 12) 4, rd b (o + 16) 4⟩)

/-- Record types and offsets of a section whose records carry RLEN, read from `o` for `k` records; none where they do not
end exactly at `e`. -/
def walkRecords (b : Bytes) (e : Nat) : Nat → Nat → Option (List (Nat × Nat))
  | 0, o => if o = e then some [] else none
  | k + 1, o =>
    let n := rd b (o + 2) 2
    if n < 4 ∨ e < o + n then none
    else (walkRecords b e k (o + n)).map (fun l => (rd b o 2, o) :: l)

/-- The records of a MODULE or SLICE section: type and offset. -/
def sectionRecords (b : Bytes) (x : Section) : List (Nat × Nat) := (walkRecords b (x.off + x.len) x.records x.off).getD []

/-- Length of the records of a section of fixed records; 0 for the others. -/
def recordLen : Nat → Nat
  | 3 => 32 | 4 => 16 | 5 => 64 | _ => 0

/-- The records fill their section as R358 defines. -/
def recordsFill (b : Bytes) (x : Section) : Bool :=
  match x.type with
  | 1 => (walkRecords b (x.off + x.len) x.records x.off).isSome
  | 2 => (walkRecords b (x.off + x.len) x.records x.off).isSome
  | 3 => x.records * 32 == x.len && decide (1 ≤ x.records ∧ x.records ≤ 4096)
  | 4 => x.records * 16 == x.len
  | 5 => x.records * 64 == x.len
  | 0x10 => x.records == 0
  | _ => true

/-- A list of numbers has no repeats. -/
def distinct (l : List Nat) : Bool := l.eraseDups.length == l.length

/-- The sections of a type. -/
def ofType (xs : List Section) (t : Nat) : List Section := xs.filter (fun x => x.type == t)

/-- How many sections of each type an image of its kind carries (R359). -/
def countsOk (kind target : Nat) (xs : List Section) : Bool :=
  let n := fun t => (ofType xs t).length
  let fw := (ofType xs 0x10).map (·.inst)
  let sl := (ofType xs 2).map (·.inst)
  ((ofType xs 1) ++ ofType xs 3 ++ ofType xs 4 ++ ofType xs 5).all (fun x => x.inst == 0) &&
    fw.all (fun i => decide (i < 3)) && distinct fw && sl.all (fun i => decide (i < 8)) && distinct sl &&
    (match kind with
     | 0 => n 1 == 1 && n 3 == 1 && n 4 == 1 && decide (n 5 ≤ 1) && fw.length == 3
     | 1 => n 1 == 0 && sl == [target] && n 3 == 1 && n 4 == 0 && n 5 == 0 && fw.isEmpty
     | 2 => n 1 == 0 && sl.isEmpty && decide (n 3 ≤ 1) && n 4 == 0 && n 5 == 0 && !fw.isEmpty
     | _ => true)

/-! ## Records (R360, R363, R374, R375) -/

/-- The PORT record at `o` of slice `n`. -/
def portAt (b : Bytes) (n o : Nat) : PortRec :=
  let f := rd b (o + 7) 1
  { lane := n * 64 + rd b (o + 4) 1, lanes := rd b (o + 5) 1, rates := rd b (o + 6) 1, autoNeg := f.testBit 0,
    cellPort := f.testBit 1, channelB := f.testBit 2, maxFrame := rd b (o + 8) 2, cell := rd b (o + 10) 2,
    mac := rd b (o + 12) 6 }

/-- The PARTITION record at `o` of slice `n`. -/
def partAt (b : Bytes) (n o : Nat) : PartRec :=
  { lane := n * 64 + rd b (o + 4) 1, base := rd b (o + 8) 4, launch := rd b (o + 12) 4, relay := rd b (o + 16) 4,
    borrow := rd b (o + 20) 4 }

/-- The records of one type in a record list. -/
def recordsOf (rs : List (Nat × Nat)) (t : Nat) : List Nat := (rs.filter (fun r => r.1 == t)).map (·.2)

/-- The constants of a section. -/
def constsOf (b : Bytes) (x : Section) : List ConstRec :=
  (List.range x.records).map (fun i =>
    let o := x.off + 32 * i
    ⟨rd b o 1, rd b (o + 8) 8, rd b (o + 16) 8, rd b (o + 24) 8⟩)

/-- Add a MODULE section's records to an image. -/
def addModule (b : Bytes) (x : Section) (im : Image) : Image :=
  let rs := sectionRecords b x
  let m := (recordsOf rs 0x0101).headD 0
  let p := (recordsOf rs 0x0103).head?
  { im with
    slices := rd b (m + 4) 1, ddrG := rd b (m + 5) 1, ddrCh := rd b (m + 6) 2, cells := rd b (m + 8) 2,
    clocks := rd b (m + 10) 2,
    lanes := (recordsOf rs 0x0102).map (fun o =>
      let f := rd b (o + 5) 1
      { lane := rd b (o + 4) 1, ipv6 := f.testBit 0, vlan := f.testBit 1, udpPort := rd b (o + 6) 2, mac := rd b (o + 8) 6,
        vid := rd b (o + 14) 2 % 4096, ip := rd b (o + 16) 16 }),
    pa := p.map (fun o => rd b (o + 4) 2), pb := p.map (fun o => rd b (o + 6) 2),
    binds := (recordsOf rs 0x0104).map (fun o => (rd b (o + 4) 2, rd b (o + 6) 2)) }

/-- Replace slice `n` of an image by the records of a SLICE section. -/
def addSlice (b : Bytes) (x : Section) (im : Image) : Image :=
  let n := x.inst
  let rs := sectionRecords b x
  { im with
    sliceRecs := im.sliceRecs.filter (fun r => r.slice != n) ++ (recordsOf rs 0x0201).map (fun o =>
      ({ slice := n, profiles := rd b (o + 4) 2, tables := rd b (o + 6) 1, edges := rd b (o + 7) 1 } : SliceRec)),
    ports := im.ports.filter (fun p => p.lane / 64 != n) ++ (recordsOf rs 0x0202).map (portAt b n),
    parts := im.parts.filter (fun p => p.lane / 64 != n) ++ (recordsOf rs 0x0203).map (partAt b n),
    tables := im.tables.filter (fun r => r.slice != n) ++ (recordsOf rs 0x0204).map (fun o =>
      ({ slice := n, table := rd b (o + 4) 1, width := rd b (o + 5) 1, base := rd b (o + 8) 4, size := rd b (o + 12) 4 } : TableRec)),
    edges := im.edges.filter (fun r => r.slice != n) ++ (recordsOf rs 0x0205).map (fun o =>
      ({ slice := n, kind := rd b (o + 4) 1, next := rd b (o + 5) 1, value := rd b (o + 6) 2 } : EdgeRec)) }

/-- The slice that a constant's register belongs to: its own registers, or the partition of one of its ports. -/
def constSlice (da : Nat) : Option Nat :=
  match sliceOfAddr da with
  | some n => some n
  | none => if 0x18010000 ≤ da ∧ da < 0x18010000 + 512 * 0x40 then some ((da - 0x18010000) / 0x40 / 64) else none

/-- The image that results from `b` over the image in force, with every section's records parsed. -/
def parseImage (b : Bytes) (old : Image) : Image :=
  let xs := sectionTable b
  let cs := (ofType xs 3).flatMap (constsOf b)
  match imgKind b with
  | 0 =>
    let im : Image :=
      { loaded := true, flags := rd b 20 4, secVersion := imgSecVersion b, buildId := rd b 24 8,
        moduleHash := slice b 48 48, clockId := rd b 32 8, priority1 := rd b 40 1, consts := cs,
        provs := (ofType xs 5).flatMap (fun x => (List.range x.records).map (fun i =>
          let o := x.off + 64 * i
          ⟨rd b o 1, rd b (o + 1) 1, slice b (o + 8) 40⟩)),
        amap := (ofType xs 4).flatMap (fun x => (List.range x.records).map (fun i =>
          let w0 := rd b (x.off + 16 * i) 8
          let w1 := rd b (x.off + 16 * i + 8) 8
          { word0 := w0, word1 := w1, comp0 := 2 ^ 64 - 1 - w0, comp1 := 2 ^ 64 - 1 - w1 })) }
    let im := (ofType xs 1).foldl (fun im x => addModule b x im) im
    (ofType xs 2).foldl (fun im x => addSlice b x im) im
  | 1 =>
    let im := (ofType xs 2).foldl (fun im x => addSlice b x im) old
    { im with consts := old.consts.filter (fun c => constSlice c.da != some (imgTarget b)) ++ cs }
  | _ => old

/-! ## Checks 1–6 (R369) -/

/-- The first failure of a list of tests: what holds, and the failure where it does not. -/
def firstFail : List (Bool × ImageFail) → Option ImageFail
  | [] => none
  | (ok, f) :: t => if ok then firstFail t else some f

/-- Checks 1–3. -/
def checkHeader (b : Bytes) : Option ImageFail :=
  let n := imgLen b
  firstFail
    [ (decide (4 ≤ b.length) && rd b 0 4 == 0x43454C57, ⟨1, 0xFF, 0⟩),
      (decide (n ≤ 12582912), ⟨11, 0xFF, 8⟩),
      (rd b 4 2 == 1, ⟨2, 0xFF, 4⟩),
      (rd b 14 2 == 128, ⟨2, 0xFF, 14⟩),
      (rd b 124 4 == crc32c (b.take 124), ⟨2, 0xFF, 124⟩),
      (n % 64 == 0 && decide (4096 ≤ n) && decide (n ≤ b.length), ⟨2, 0xFF, 8⟩),
      (decide (1 ≤ imgSections b ∧ imgSections b ≤ 64), ⟨2, 0xFF, 12⟩) ]

/-- Checks 4–6: the anchor, the signature, the security version. -/
def State.checkTrust (s : State) (b : Bytes) (c : Crypto) : Option ImageFail :=
  let o := imgSig b
  let a := rd b (o + 4) 1
  firstFail
    [ (rd b o 4 == 0x5349474E, ⟨4, 0xFF, o⟩),
      (rd b (o + 5) 1 == 1, ⟨4, 0xFF, o + 5⟩),
      (decide (a < 4) && (s.get A.sy SY_ANCHOR_STATUS_PRESENT).testBit a && !(s.get A.sy SY_ANCHOR_STATUS_REVOKED).testBit a,
        ⟨4, 0xFF, o + 4⟩),
      (sha384 (slice b (o + 16) 96) == s.mram.anchors.getD a [], ⟨4, 0xFF, o + 16⟩),
      (c.image, ⟨5, 0xFF, o + 112⟩),
      (decide (s.get A.sy SY_SECVER_MIN ≤ imgSecVersion b), ⟨6, 0xFF, 16⟩) ]

/-! ## Check 7: the section table -/

/-- Two sections overlap. -/
def overlaps (x y : Section) : Bool := decide (x.off < y.off + y.len ∧ y.off < x.off + x.len)

/-- Check 7. -/
def checkSections (b : Bytes) : Option ImageFail :=
  let xs := sectionTable b
  let low := 128 + 32 * xs.length
  firstFail
    (xs.zipIdx.flatMap (fun (x, i) =>
      [ ([1, 2, 3, 4, 5, 0x10, 0xF0].contains x.type, (⟨3, i, 128 + 32 * i⟩ : ImageFail)),
        (x.off % 64 == 0 && x.len % 8 == 0 && decide (low ≤ x.off ∧ x.off + x.len ≤ imgSig b), ⟨3, i, 128 + 32 * i + 4⟩),
        (!(xs.take i).any (overlaps x), ⟨3, i, 128 + 32 * i + 4⟩),
        (x.crc == crc32c (slice b x.off x.len), ⟨3, i, x.off⟩),
        (recordsFill b x, ⟨3, i, x.off⟩) ]) ++
     [(countsOk (imgKind b) (imgTarget b) xs, ⟨3, 0xFF, 128⟩)])

/-! ## Checks 8, 9: kind, hash, inner signatures -/

/-- Index and section of the first section of a type. -/
def sectionOf (b : Bytes) (t : Nat) : Option (Section × Nat) := (sectionTable b).zipIdx.find? (fun x => x.1.type == t)

/-- MODULE_HASH: of the MODULE section in a FULL image, of the FULL image in force in the others (R357). -/
def hashOk (b : Bytes) (old : Image) : Bool :=
  let h := slice b 48 48
  match imgKind b with
  | 0 => match sectionOf b 1 with
    | some (x, _) => h == sha384 (slice b x.off x.len)
    | none => false
  | _ => h == old.moduleHash

/-- Check 8: the kind is allowed (`allowed`), the hash holds, and every release can take over (R391). -/
def checkKind (b : Bytes) (old : Image) (c : Crypto) (allowed : Bool) : Option ImageFail :=
  firstFail
    ([ (allowed && decide (imgKind b ≤ 2), (⟨10, 0xFF, 6⟩ : ImageFail)), (hashOk b old, ⟨10, 0xFF, 48⟩) ] ++
     (if imgKind b = 2 then
        (sectionTable b).zipIdx.filterMap (fun (x, i) =>
          if x.type = 0x10 then
            some ((match c.releases.find? (fun r => r.1 == i) with | some r => r.2.2 | none => true), ⟨10, i, x.off⟩)
          else none)
      else []))

/-- Check 9: every FIRMWARE section carries an inner signature under anchor 0 (R368). -/
def State.checkInner (s : State) (b : Bytes) (c : Crypto) : Option ImageFail :=
  firstFail ((sectionTable b).zipIdx.filterMap (fun (x, i) =>
    if x.type = 0x10 then
      some (decide (192 ≤ x.len) && sha384 (slice b (x.off + x.len - 192) 96) == s.mram.anchors.getD 0 [] &&
        !c.bad.contains i, ⟨5, i, x.off + x.len - 192⟩)
    else none))

/-! ## Check 10: structure (R361, R362) -/

/-- Every record of a section has a defined type and that type's length. -/
def recordTypesOk (b : Bytes) (x : Section) : Bool :=
  (sectionRecords b x).all (fun r =>
    let n := rd b (r.2 + 2) 2
    match x.type, r.1 with
    | 1, 0x0101 => n == 16 | 1, 0x0102 => n == 32 | 1, 0x0103 => n == 16 | 1, 0x0104 => n == 8
    | 2, 0x0201 => n == 16 | 2, 0x0202 => n == 24 | 2, 0x0203 => n == 24 | 2, 0x0204 => n == 16 | 2, 0x0205 => n == 8
    | _, _ => false)

/-- Number of ones in a bit set of `n` bits. -/
def ones (n w : Nat) : Nat := ((List.range n).filter (fun i => w.testBit i)).length

/-- The clock a cell binds to. -/
def Image.bound (im : Image) (c : Nat) : Nat :=
  match im.binds.find? (fun x => x.1 == c) with
  | some x => x.2
  | none => c

/-- The rules of the MODULE section (R360). -/
def moduleOk (b : Bytes) (x : Section) (im : Image) : Bool :=
  let rs := sectionRecords b x
  let n := fun t => (recordsOf rs t).length
  n 0x0101 == 1 && n 0x0102 == 2 && im.lanes.any (fun r => r.lane == 0) && im.lanes.any (fun r => r.lane == 1) &&
    decide (n 0x0103 ≤ 1) && decide (12 ≤ im.ddrG ∧ im.ddrG ≤ 30) && decide (2 ≤ ones 16 im.ddrCh) &&
    decide (im.cells ≤ 2048) && decide (im.cells ≤ im.clocks ∧ im.clocks ≤ 2048) &&
    im.binds.all (fun x => decide (x.1 < im.cells)) && distinct (im.binds.map (·.1)) &&
    (let ks := (List.range im.cells).map im.bound
     distinct ks && ks.all (fun k => decide (k < im.clocks)))

/-- The PORT records of a slice: lanes, rates, frames, and one PARTITION each. -/
def portsOk (im : Image) (n : Nat) : Bool :=
  let ps := im.ports.filter (fun p => p.lane / 64 == n)
  let ls := ps.flatMap (fun p => (List.range p.lanes).map (fun k => p.lane + k))
  ps.all (fun p => [1, 2, 4, 8].contains p.lanes && p.lane % p.lanes == 0 && decide (p.lane % 64 + p.lanes ≤ 64) &&
      decide (1 ≤ p.rates ∧ p.rates < 32) && (p.lanes == 1 || p.rates % 8 == 0) &&
      decide (64 ≤ p.maxFrame ∧ p.maxFrame ≤ 16000) &&
      ((im.parts.filter (fun q => q.lane == p.lane)).length == 1) &&
      (!p.cellPort || (decide (p.cell < im.cells) && ones 5 p.rates == 1))) &&
    distinct ls &&
    (im.parts.filter (fun q => q.lane / 64 == n)).all (fun q => ps.any (fun p => p.lane == q.lane) &&
      decide (q.base + q.launch + q.relay ≤ 2097152 ∧ q.borrow ≤ 1048575))

/-- The TABLE records of a slice (R361, R362). -/
def tablesOk (im : Image) (n : Nat) : Bool :=
  let ts := im.tables.filter (fun t => t.slice == n)
  match im.sliceRecs.filter (fun r => r.slice == n) with
  | [r] =>
    decide (1 ≤ r.profiles ∧ r.profiles ≤ 4096) && decide (1 ≤ r.tables ∧ r.tables ≤ 8) && decide (r.edges ≤ 32) &&
      (im.edges.filter (fun e => e.slice == n)).length == r.edges && ts.length == r.tables &&
      ts.all (fun t => decide (t.table < 8 ∧ t.width ≤ 2) && t.base % 4 == 0 && t.size % 2 ^ t.width == 0 &&
        decide (t.base + t.size ≤ 65536)) &&
      distinct (ts.map (·.table)) &&
      (ts.zipIdx.all (fun (t, i) => (ts.take i).all (fun u => decide (t.base + t.size ≤ u.base ∨ u.base + u.size ≤ t.base)))) &&
      decide ((ts.map (fun t => 2 ^ t.width)).sum ≤ 16)
  | _ => false

/-- The partitions of an image are disjoint. -/
def partsDisjoint (im : Image) : Bool :=
  im.parts.zipIdx.all (fun (p, i) => (im.parts.take i).all (fun q =>
    decide (p.base + p.launch + p.relay ≤ q.base ∨ q.base + q.launch + q.relay ≤ p.base ∨ p.launch + p.relay = 0 ∨
      q.launch + q.relay = 0)))

/-- All ports of one cell have the same lanes and rate. -/
def cellPortsOk (im : Image) : Bool :=
  let cs := im.ports.filter (·.cellPort)
  cs.all (fun p => cs.all (fun q => p.cell != q.cell || (p.lanes == q.lanes && p.rates == q.rates)))

/-- The pair links are 1-lane 200 Gbit/s ports of no cell. -/
def pairOk (im : Image) : Bool :=
  (im.pa.toList ++ im.pb.toList).all (fun l =>
    im.ports.any (fun p => p.lane == l && p.lanes == 1 && p.rates == 16 && !p.cellPort)) &&
    (im.pa.isNone || im.pa != im.pb)

/-- Cells that belong to no port. -/
def Image.sharedCells (im : Image) : Nat := 2097152 - (im.parts.map (fun p => p.launch + p.relay)).sum

/-- The image's port limits for a horizon check: the state as it would be with the image's ports on slice `n`. -/
def State.withPorts (s : State) (im : Image) (n : Nat) : State :=
  (im.ports.filter (fun p => p.lane / 64 == n)).foldl (fun s p =>
    let b := A.lnp p.lane
    ((s.put b LN_PORT_MAXFRAME_BYTES p.maxFrame).put b LN_PORT_TIMING_LANES p.lanes).put b LN_PORT_TIMING_LANE_RATE 0)
    { s with image := im }

/-- A RESHAPE image leaves R26 whole for every enabled cell, and takes no shared cell in use. -/
def State.reshapeOk (s : State) (im : Image) (n : Nat) : Bool :=
  let t := s.withPorts im n
  (List.range im.cells).all (fun c =>
    let k := s.clockOf c
    !s.on (A.scc k) SC_CELL_CTRL_EN || t.horizonOk k (s.get (A.scc k) SC_HORIZON_NS)) &&
    decide (s.get A.hm HM_SHARED_USE_USED ≤ im.sharedCells)

/-- Check 10: `im` is the image that would result. -/
def State.checkStructure (s : State) (b : Bytes) (im : Image) : Option ImageFail :=
  let xs := (sectionTable b).zipIdx
  firstFail
    (xs.flatMap (fun (x, i) =>
      if x.type = 1 then
        [(recordTypesOk b x && moduleOk b x im, (⟨7, i, x.off⟩ : ImageFail))]
      else if x.type = 2 then
        [(recordTypesOk b x && im.slices.testBit x.inst && portsOk im x.inst && tablesOk im x.inst && partsDisjoint im &&
          cellPortsOk im && pairOk im && (imgKind b != 1 || s.reshapeOk im x.inst), ⟨7, i, x.off⟩)]
      else []) ++
     [((imgKind b != 0) || ((List.range 8).all (fun n => !im.slices.testBit n || xs.any (fun (x, _) => x.type == 2 && x.inst == n)) &&
        pairOk im), ⟨7, 0xFF, 128⟩)])

/-! ## Check 11: the access map (R375) -/

/-- The ranges in `rs` cover every byte from `lo` to `hi`; `k` bounds the steps. -/
def covered (rs : List (Nat × Nat)) : Nat → Nat → Nat → Bool
  | 0, lo, hi => decide (hi < lo)
  | k + 1, lo, hi =>
    if hi < lo then true
    else
      let e := rs.foldl (fun m r => if r.1 ≤ lo then max m (r.2 + 1) else m) lo
      decide (lo < e) && covered rs k e hi

/-- The map gives requester `q` right `g` on every byte from `lo` to `hi`. -/
def mapGrants (m : List AmapRec) (q : Nat) (g : Right) (lo hi : Nat) : Bool :=
  covered ((m.filter (fun r => r.gives q g)).map (fun r => (r.word0 % 2 ^ 44, r.word1 % 2 ^ 44))) (m.length + 1) lo hi

/-- The map as R375 requires it. -/
def mapOk (im : Image) : Bool :=
  let m := im.amap
  decide (1 ≤ m.length ∧ m.length ≤ 512) &&
    m.all (fun r => decide (r.word0 % 2 ^ 44 ≤ r.word1 % 2 ^ 44 ∧ r.word1 < 2 ^ 44) && bitsOf r.word0 63 62 == 0 &&
      bitsOf r.word0 47 47 == 0) &&
    [Right.read, Right.write].all (fun g => mapGrants m reqFirmware g 0 0x40FFFFFF &&
      mapGrants m reqFirmware g ddrBase 0x2FFFFFFFFFF) &&
    (im.pa.isNone ||
      (mapGrants m reqPartner .write 0x1100000 0x15FFFFF &&
       (List.range 8).all (fun n => !im.slices.testBit n ||
         (mapGrants m reqPartner .write (A.cl n) (A.cl n + 0xFFFFF) &&
          mapGrants m reqPartner .write (A.fr n) (A.fr n + 0xFFFFF))))) &&
    (List.range 8).any (fun q => mapGrants m q .read 0 0x1FFFFF)

/-- Check 11. -/
def checkMap (b : Bytes) (im : Image) : Option ImageFail :=
  if imgKind b = 0 then
    match sectionOf b 4 with
    | some (x, i) => if mapOk im then none else some ⟨9, i, x.off⟩
    | none => some ⟨9, 0xFF, 128⟩
  else none

/-- Checks 1–11 in order; `allowed` says that the request takes an image of this kind. -/
def State.verifyImage (s : State) (b : Bytes) (c : Crypto) (allowed : Bool) : Option ImageFail :=
  (checkHeader b).orElse fun _ => (s.checkTrust b c).orElse fun _ => (checkSections b).orElse fun _ =>
  (checkKind b s.image c allowed).orElse fun _ => (s.checkInner b c).orElse fun _ =>
  (s.checkStructure b (parseImage b s.image)).orElse fun _ => checkMap b (parseImage b s.image)

/-! ## Check 12: constants (R363, R364) -/

/-- `a` is the value address of an rwp register. -/
def isPairValue (a : Nat) : Bool := match findReg a with | some f => f.reg.rwp != 0 | none => false

/-- The addresses that must carry a READBACK constant: of the module, or of slice `n` alone (R364). -/
def neededConsts (im : Image) (only : Option Nat) : List Nat :=
  let mine := fun n => match only with | some k => n == k | none => im.slices.testBit n
  let ports := im.ports.filter (fun p => mine (p.lane / 64))
  (if only.isNone then [A.sc, A.hm] else []) ++ ports.flatMap (fun p => [A.hmp p.lane, A.hmp p.lane + 8, A.hmp p.lane + 16]) ++
    ((List.range 8).filter mine).flatMap (fun n =>
      (List.range 8).map (fun t => A.cf n + (CF_TABLE_VALID t).off) ++ [A.ln n, A.cl n]) ++
    (ports.filter (·.cellPort)).map (fun p => A.gdp p.lane)

/-- The constants are well formed and complete: the part of check 12 that needs no structure; `only` names the slice of a
RESHAPE image. -/
def constsOk (im : Image) (only : Option Nat) : Bool :=
  let cs := match only with
    | some n => im.consts.filter (fun (c : ConstRec) => constSlice c.da == some n)
    | none => im.consts
  cs.all (fun (c : ConstRec) => c.value + c.complement == 2 ^ 64 - 1 && (c.kind == 1 || c.kind == 2) && c.da % 8 == 0 &&
      (c.kind != 2 || (only.isNone && isPairValue c.da))) &&
    (neededConsts im only).all (fun a => cs.any (fun (c : ConstRec) => c.kind == 1 && c.da == a))

end Sys2Proof.Machine
end

