-- ==== Sys2Proof/Machine/Structure.lean ====
section
/-!
DEFINITION. What an image builds: registers that follow from its records, a slice returned to its Reset values, its golden
copies, what Park saves, and what Reset keeps (spec/14_image_boot.md R360–R364, spec/15_modes_inservice.md R384, R387,
R389, spec/19_register_map.md R455, R456).
-/

namespace Sys2Proof.Machine

/-! ## Registers that the image sets -/

/-- Ports of slice `n`. -/
def Image.portsOf (im : Image) (n : Nat) : List PortRec := im.ports.filter (fun p => p.lane / 64 == n)

/-- Cells with a port on slice `n`. -/
def Image.cellsOf (im : Image) (n : Nat) : List Nat :=
  (((im.portsOf n).filter (·.cellPort)).map (·.cell)).eraseDups

/-- Registers of the module that follow from a FULL image: SC_INFO, HM_INFO, the control lanes and the IM block. -/
def State.buildModule (s : State) (im : Image) (anchor : Nat) : State :=
  let s := { s.forgetDdr with image := im }
  let s := (s.put A.sc SC_INFO_CELLS im.clocks).put A.hm HM_INFO_SHARED_CELLS im.sharedCells
  let s := im.lanes.foldl (fun s r =>
    let b := A.xpl r.lane
    let s := (s.put b XP_LANE_MAC_MAC r.mac).put b XP_LANE_IP_HI_ADDR (r.ip / 2 ^ 64)
    let s := (s.put b XP_LANE_IP_LO_ADDR r.ip).put b XP_LANE_CFG_UDP_PORT r.udpPort
    s.put b XP_LANE_CFG_IPV6 (bit r.ipv6)) s
  let s := (s.put A.im IM_HDR_SEC_VERSION im.secVersion).put A.im IM_HDR_FLAGS im.flags
  let s := s.put A.im IM_BUILD_BUILD_ID im.buildId
  let s := (List.range 6).foldl (fun s k => s.put A.im (IM_MODULE_HASH_HASH k) (rd im.moduleHash (8 * k) 8)) s
  s.put A.sy SY_ANCHOR_STATUS_ACTIVE anchor

/-- Registers of port `p` that follow from its records (R360). -/
def State.buildPort (s : State) (im : Image) (p : PortRec) : State :=
  let n := p.lane / 64
  let s := (s.put (A.lnp p.lane) LN_PORT_MAXFRAME_BYTES p.maxFrame).put (A.lnp p.lane) LN_PORT_TIMING_LANES p.lanes
  let s := match im.parts.find? (fun q => q.lane == p.lane) with
    | some q =>
      let b := A.hmp p.lane
      let s := (s.put b HM_PART_BASE_BASE q.base).put b HM_PART_SIZE_LAUNCH q.launch
      (s.put b HM_PART_SIZE_RELAY q.relay).put b HM_PART_BORROW_BORROW_MAX q.borrow
    | none => s
  let s := if p.cellPort then
      (s.put (A.gdp p.lane) GD_PORT_CTRL_CELL p.cell).put (A.gdp p.lane) GD_PORT_CTRL_CHANNEL (bit p.channelB)
    else s
  let s := (List.range p.lanes).foldl (fun s k =>
    let j := p.lane % 64 + k
    let b := A.sd n
    let s := (s.put b (SD_LANE_IN_PORT j) 1).put b (SD_LANE_FIRST j) (bit (k == 0))
    let s := (s.put b (SD_LANE_FIRST_LANE j) (p.lane % 64)).put b (SD_LANE_LANES j) p.lanes
    s.put b (SD_LANE_POWERED j) 1) s
  s.setRate p.lane 0

/-- Registers of slice `n` that follow from its section (R361, R456); its die links are up. -/
def State.buildSlice (s : State) (im : Image) (n : Nat) : State :=
  let s := match im.sliceRecs.find? (fun r => r.slice == n) with
    | some r => (s.put (A.ln n) LN_INFO_PROFILES r.profiles).put (A.sd n) SD_INFO_TABLES r.tables
    | none => s
  let s := (s.put (A.sd n) SD_INFO_PORTS (im.portsOf n).length).put (A.sd n) SD_INFO_SLICE n
  let s := (s.put (A.sd n) SD_LINK_CT_UP 1).put (A.sd n) SD_LINK_HD_UP 1
  let s := s.put (A.cl n) CL_INFO_CELLS (im.cellsOf n).length
  let s := (im.tables.filter (fun t => t.slice == n)).foldl (fun s t =>
    let b := A.cf n
    let s := (s.put b (CF_TABLE_VALID t.table) 1).put b (CF_TABLE_WIDTH t.table) t.width
    (s.put b (CF_TABLE_SIZE t.table) t.size).put b (CF_TABLE_BASE t.table) t.base) s
  (im.portsOf n).foldl (fun s p => s.buildPort im p) s

/-! ## Return to Reset values -/

/-- The slice whose table entry lies at key `a` (RegMap.lean); stream counters, cycle marks and nodes belong to none. -/
def tableSlice (a : Nat) : Option Nat :=
  let t := a / 2 ^ 40
  if t = 0x11 then some (a % 2 ^ 40 / 0x1000000)
  else if [0x12, 0x13, 0x15, 0x16, 0x17, 0x18, 0x19, 0x1C].contains t then some (a % 2 ^ 40 / 0x10000000)
  else none

/-- Key `a` of `words` belongs to slice `n`: its registers, the entries behind its windows, and the hold partitions of its
ports. -/
def ofSlice (n a : Nat) : Bool := sliceOfAddr a == some n || tableSlice a == some n || constSlice a == some n

/-- Key `a` holds a TCAM slot of slice `n`, hits apart, or the epoch that its lookups are in (log entry 45). -/
def ofTcam (n a : Nat) : Bool :=
  (a / 2 ^ 40 == 0x12 && tableSlice a == some n && a % 0x200 != CF_EHITS_HITS.off) || a == A.cf n + CF_EPOCH_CURRENT.off

/-- The entries of a map whose key does not satisfy `p`. -/
def without {V : Type} (p : Nat → Bool) (m : SMap V) : SMap V := m.filter (fun e => !p e.1)

/-- Change every value of a map; a value that becomes the default is no entry. -/
def mapEntries {V : Type} [DecidableEq V] (d : V) (f : Nat → V → V) (m : SMap V) : SMap V :=
  (m.map (fun e => (e.1, f e.1 e.2))).filter (fun e => decide (e.2 ≠ d))

/-- Drop everything that waits in slice `n` or at its ports and holds cells. -/
def State.emptySlice (s : State) (n : Nat) : State :=
  let s := s.dropHeld (fun h => h.lane / 64 == n)
  let s := s.dropLaunches (fun y => y.held.lane / 64 == n)
  let s := s.feeds.foldl (fun s e =>
    let mine := (s.feed e.1).retained.filter (fun (h : Held) => h.lane / 64 == n)
    let s := s.setFeed e.1 { s.feed e.1 with retained := (s.feed e.1).retained.filter (fun (h : Held) => h.lane / 64 != n) }
    mine.foldl (fun s h => s.freeHeld h) s) s
  (s.image.portsOf n).foldl (fun s p =>
    let w := s.wire p.lane
    (w.tx.toList ++ w.preempted.toList).foldl (fun s t => s.loseTx p.lane t) (s.setWire p.lane {})) s

/-- The lists of a gate that come back from the golden copy: the oper list alone. -/
def GateLists.golden (x : GateLists) : GateLists := { oper := x.oper, lastCct := x.lastCct }

/-- Return slice `n` to its Reset values (R7, R387). `keep` leaves its TCAM slots and the oper gate lists, which come back
from their golden copies. -/
def State.resetSlice (s : State) (n : Nat) (keep : Bool) : State :=
  let s := s.emptySlice n
  let lane := fun (k d : Nat) => decide (k / (64 * d) = n)
  let at_ := fun (d : Nat) (k : Nat) => decide (k / d = n)
  let dead := (s.image.portsOf n).map (fun p => s.get (A.hmp p.lane) HM_PART_USE_BORROWED)
  let s := s.put A.hm HM_SHARED_USE_USED (s.get A.hm HM_SHARED_USE_USED - dead.sum)
  let s := s.clearWords (fun a => ofSlice n a && !(keep && ofTcam n a))
  { s with
    queues := without (lane · 8) s.queues, flows := without (lane · 64) s.flows, wires := without (lane · 1) s.wires,
    credits := without (lane · 8) s.credits, merges := without (lane · 1) s.merges,
    windows := without (lane · 1) s.windows, samplers := without (lane · 1) s.samplers,
    injectors := without (lane · 4) s.injectors, evcs := without (at_ 64) s.evcs, lsBuf := without (at_ 1) s.lsBuf,
    qsBuf := without (at_ 1) s.qsBuf, recirc := without (at_ 8) s.recirc, crossing := without (at_ 1) s.crossing,
    meters := without (at_ 65536) s.meters, recs := without (at_ 65536) s.recs, sources := without (at_ 512) s.sources,
    capCounts := without (at_ 16) s.capCounts, slowBuckets := without (at_ 1) s.slowBuckets,
    gates := if keep then mapEntries {} (fun k x => if lane k 1 then x.golden else x) s.gates else without (lane · 1) s.gates,
    sgates := if keep then mapEntries {} (fun k x => if at_ 65536 k then { lists := x.lists.golden } else x) s.sgates
      else without (at_ 65536) s.sgates }

/-! ## Cells of a slice that is rebuilt (R389) -/

/-- Some slice other than `n` serves with a port of cell `c`. -/
def State.cellHeldElsewhere (s : State) (c n : Nat) : Bool :=
  (s.image.ports.filter (fun p => p.cellPort && p.cell == c)).any (fun p => p.lane / 64 != n && s.sliceServes (p.lane / 64))

/-- Forget cell `c`: matrices, marks and nodes; its EN is 0. -/
def State.forgetCell (s : State) (c : Nat) : State :=
  let nodes := s.cellNodes c
  let s := s.clearWords (fun a => (decide (A.tmark c 0 ≤ a) && decide (a < A.tmark c 0 + 0x1000)) ||
    nodes.any (fun d => decide (A.tnode d ≤ a) && decide (a < A.tnode d + 0x100)))
  { s with cells := SMap.set {} c {} s.cells }

/-- Move the CL registers of cell `c` from home slice `a` of state `old` to its home slice now. -/
def State.rehome (s old : State) (c a : Nat) : State :=
  match s.homeSlice c with
  | some h => (List.range 32).foldl (fun s k => s.setWord (A.clc h c + 8 * k) (old.word (A.clc a c + 8 * k))) s
  | none => s

/-- After slice `n` was returned to its Reset values and built: each of its cells that another serving slice holds is as it
was before, in state `old`; the others are forgotten. -/
def State.settleCells (s old : State) (n : Nat) : State :=
  ((old.image.cellsOf n ++ s.image.cellsOf n).eraseDups).foldl (fun s c =>
    match old.homeSlice c with
    | some a => if old.cellHeldElsewhere c n then s.rehome old c a else s.forgetCell c
    | none => s) s

/-! ## Building a slice in service (R387) -/

/-- Copy the words of a table from the entries of `m` to those of `n`. -/
def State.copyTable (s : State) (base : Nat → Nat) (m n : Nat) : State :=
  let lo := base m
  s.words.foldl (fun s e => if lo ≤ e.1 ∧ e.1 < lo + 0x10000000 then s.setWord (base n + (e.1 - lo)) e.2 else s) s

/-- The stream table replica and the egress groups of slice `n` are loaded from the golden copy, and the committed batch
is applied. -/
def State.loadReplica (s : State) (n : Nat) : State :=
  let s := s.clearWords (fun a => [0x13, 0x15].contains (a / 2 ^ 40) && tableSlice a == some n)
  let s := (s.copyTable (A.tstream · 0) 8 n).copyTable (A.tgroup · 0) 8 n
  match s.update with
  | some u => s.applyItems n u.items
  | none => s

/-- FR configuration of slice `n` is copied from a serving slice (R249): EN and MODE, W0 and W1. -/
def State.copyFr (s : State) (n : Nat) : State :=
  match (List.range 8).find? (fun m => m != n && s.isSlice m && s.sliceServes m) with
  | none => s
  | some m =>
    s.words.foldl (fun s e =>
      let g := A.tgenf m 0
      let r := A.trecf m 0
      if g ≤ e.1 ∧ e.1 < g + 0x10000000 ∧ (e.1 - g) % 0x100 = FR_GEN_W0_EN.off then
        s.setWord (A.tgenf n 0 + (e.1 - g)) (BitVec.ofNat 64 (bitsOf e.2.toNat 63 62 * 2 ^ 62))
      else if r ≤ e.1 ∧ e.1 < r + 0x10000000 ∧
          ((e.1 - r) % 0x100 = FR_REC_W0_EN.off ∨ (e.1 - r) % 0x100 = FR_REC_W1_LAT_DIFF.off) then
        s.setWord (A.trecf n 0 + (e.1 - r)) e.2
      else s) s

/-- The oper gate lists that came back are shown in the registers of slice `n`. -/
def State.showGolden (s : State) (n : Nat) : State :=
  let s := (s.image.portsOf n).foldl (fun s p =>
    match (s.gateLists p.lane).oper with
    | some g =>
      let b := A.gcp p.lane
      let s := (s.put b GC_OPER_CYCLE_NS g.cycle).put b GC_OPER_EXT_NS g.ext
      ((s.put b GC_OPER_LEN_LEN g.entries.length).classOpen p.lane g).showGates p.lane
    | none => s) s
  s.sgShowPool n

/-- Build slice `n` of image `im` from its section: Reset values, structure, replica, FR configuration. `keep` is a REBUILD,
which brings TCAM rules and gate lists back (R387). -/
def State.rebuildSlice (s : State) (im : Image) (n : Nat) (keep : Bool) : State :=
  let old := s
  let epoch := s.get (A.st n) ST_EPOCH_COMMITTED
  let s := s.resetSlice n keep
  let s := { s with image := { im with ddrG := s.image.ddrG, ddrCh := s.image.ddrCh } }.buildSlice im n
  let s := s.put A.hm HM_INFO_SHARED_CELLS im.sharedCells
  let s := s.settleCells old n
  let s := (((s.loadReplica n).copyFr n).showGolden n)
  let s := (s.put (A.st n) ST_EPOCH_COMMITTED epoch).put (A.st n) ST_EPOCH_APPLIED epoch
  let s := (s.tests.retired.filter (fun i => match im.partOf i with
    | some (p, _) => p.lane / 64 == n
    | none => false)).foldl (fun s i => s.countCell i) s
  old.recount s

/-! ## Results of IM_CMD (R369, R380, R387) -/

/-- A command of IM_CMD ends: its TAG, STATUS, failure code, and section and offset of the failure. -/
def State.imResult (s : State) (tag st : Nat) (fail section_ offset : Nat) : State :=
  let b := A.im
  let s := (s.put b IM_RESULT_TAG tag).inc b IM_RESULT_RESULT_SEQ 1
  let s := ((s.put b IM_RESULT_FAIL fail).put b IM_RESULT_STATUS st).put b IM_RESULT_BUSY 0
  (s.put b IM_FAIL_AT_SECTION section_).put b IM_FAIL_AT_OFFSET offset

/-- The build of a slice ends without a READY slice: after a LOAD its result is BAD_VALUE with code `fail`; without one of
R369, the code is a free value. -/
def State.buildFailed (s : State) (im : Option Image) (fail : Option Nat) : State :=
  let r : Nat × State := match fail with
    | some c => (c, s)
    | none => (s.fresh.1.toNat, s.fresh.2)
  match im with
  | some _ => r.2.imResult r.2.boot.tag stBadValue r.1 0xFF 0
  | none => r.2.put A.im IM_RESULT_FAIL r.1

/-- Builds of the slices in `p` are cut short. -/
def State.dropBuilds (s : State) (p : Nat → Bool) : State :=
  let gone := s.boot.builds.filter (fun e => p e.1)
  let s := { s with boot := { s.boot with builds := s.boot.builds.filter (fun e => !p e.1) } }
  gone.foldl (fun s e => s.buildFailed e.2 none) s

/-! ## Park's save area (R384) -/

/-- Save every register and table entry of the present slices, with the lists of their gates. -/
def State.saveSlices (s : State) : State :=
  { s with saved := { words := s.words.filter (fun e => (List.range 8).any (fun n => s.isSlice n && ofSlice n e.1)),
                      gates := s.gates, sgates := s.sgates } }

/-- The bits of a saved word that come back: settings; counters, flags and results restart from Reset. -/
def settingBits (a : Nat) : Nat := match findReg a with
  | some f => f.reg.rw ||| f.reg.rwp
  | none => 0

/-- Restore the settings of slice `n` that Park saved over what its section built. -/
def State.restoreSlice (s : State) (n : Nat) : State :=
  let s := s.saved.words.foldl (fun s e =>
    if ofTcam n e.1 ∨ (tableSlice e.1 = some n ∧ e.1 / 2 ^ 40 = 0x11) then s.setWord e.1 e.2
    else if ofSlice n e.1 ∧ settingBits e.1 ≠ 0 ∧ !([0x12, 0x13, 0x15].contains (e.1 / 2 ^ 40)) then
      let m := settingBits e.1
      s.setWord e.1 (BitVec.ofNat 64 (e.2.toNat &&& m ||| ((s.word e.1).toNat - ((s.word e.1).toNat &&& m))))
    else s) s
  { s with
    gates := s.saved.gates.foldl (fun m e => if e.1 / 64 = n then SMap.set {} e.1 { e.2 with pending := none, entryAt := none, enabled := false } m else m) s.gates,
    sgates := s.saved.sgates.foldl (fun m e =>
      if e.1 / 65536 = n then SMap.set {} e.1 { lists := { e.2.lists with pending := none, entryAt := none } } m else m) s.sgates }

end Sys2Proof.Machine
end

