-- ==== Sys2Proof/Machine/SelfTest.lean ====
section
/-!
DEFINITION. Self-test items: requests, conflicts, the queue, result records and repair from spares
(spec/15_modes_inservice.md R397, R398, spec/17_selftest_faults.md R415–R417).
-/

namespace Sys2Proof.Machine

/-! ## Items and targets (R397, R415) -/

/-- What an item's target is: 0 slice, 1 DDR5 channel, 2 bank group, 3 the module. -/
def itemKind (i : Nat) : Nat :=
  if [1, 3, 4, 7, 16, 19].contains i then 0 else if [6, 17].contains i then 1 else if [2, 5, 18].contains i then 2 else 3

/-- The item may be requested. -/
def itemKnown (i : Nat) : Bool := decide (1 ≤ i ∧ i ≤ 7 ∨ 16 ≤ i ∧ i ≤ 19)

/-- The item takes its target out of use. -/
def itemOffline (i : Nat) : Bool := decide (16 ≤ i)

/-- The target of an item exists. -/
def State.targetExists (s : State) (i t : Nat) : Bool :=
  match itemKind i with
  | 0 => s.isSlice t
  | 1 => s.image.ddrCh.testBit t
  | 2 => decide (t < 16)
  | _ => t == 0

/-- Bank group `b` holds a cell of a partition of slice `n`. -/
def State.groupOfSlice (s : State) (b n : Nat) : Bool :=
  s.image.parts.any (fun p => p.lane / 64 == n && decide (0 < inGroupCells b p.base (p.base + p.launch + p.relay)))

/-- Shared-pool cells in use. -/
def State.sharedUsed (s : State) : Nat := s.get A.hm HM_SHARED_USE_USED - s.deadShared

/-- A slice is fenced, rebuilt, or faulted with its Armature link up: an offline item may run on it. -/
def State.sliceReleased (s : State) (n : Nat) : Bool :=
  match s.sliceState n with
  | 2 => true
  | 4 => true
  | 5 => s.on (A.sd n) SD_LINK_CT_UP
  | _ => false

/-- The target of an offline item is released (R398). -/
def State.released (s : State) (i t : Nat) : Bool :=
  s.mode == 5 || s.mode == 10 ||
    (match itemKind i with
     | 0 => s.sliceReleased t
     | 1 => (s.get A.md MD_DDR_FENCE_CHANNELS).testBit t
     | _ => (List.range 8).all (fun n => !s.groupOfSlice t n || [2, 4, 5].contains (s.sliceState n)) &&
        (s.image.groupShared t == 0 || s.sharedUsed == 0))

/-- Two items conflict: one target, or a slice and a bank group with one of its partitions (R398). -/
def State.conflicts (s : State) (i t : Nat) (x : TestItem) : Bool :=
  match itemKind i, itemKind x.item with
  | 0, 2 => s.groupOfSlice x.target t
  | 2, 0 => s.groupOfSlice t x.target
  | a, b => a == b && t == x.target

/-! ## Result records (R416) -/

/-- Write the result record of an item that ends, and send it as an event. -/
def State.logTest (s : State) (x : TestItem) (outcome us units failed repaired left first errors : Nat) : State :=
  let q := s.tests.seq + 1
  let m32 := fun (v : Nat) => min v (2 ^ 32 - 1)
  let ws : List Nat :=
    [ 5 * 2 ^ 56 + x.item % 256 * 2 ^ 48 + outcome * 2 ^ 40 + x.target % 256 * 2 ^ 32 + x.ticket % 65536 * 65536 + x.origin * 256,
      q % 2 ^ 64, secOf x.at_, nsOf x.at_ * 2 ^ 32 + m32 us, m32 units * 2 ^ 32 + m32 failed, m32 repaired * 2 ^ 32 + m32 left,
      first % 2 ^ 64, m32 errors * 2 ^ 32 ]
  let s := { s with tests := { s.tests with seq := q } }
  let s := s.setMemWords (0x403FC000 + q % 256 * 64) ws
  (s.formEvent 6 (ws.flatMap (be 8))).raise A.md MD_EVENT_FLAGS 4

/-- An item ends without a result of its own: CANCELLED, NEEDS_FENCE or ABORTED. -/
def State.endItem (s : State) (x : TestItem) (outcome : Nat) : State :=
  s.logTest x outcome (s.since x.clk / 1000) 0 0 0 0 0 0

/-! ## Running and queueing (R398) -/

/-- Start an item now. -/
def State.startItem (s : State) (x : TestItem) : State :=
  let y : TestItem := { x with at_ := s.nowQ, clk := s.time.clk }
  { s with tests := { s.tests with running := s.tests.running ++ [y] } }

/-- Up to `n` items at the head of the queue start, or end because their target is no longer released. -/
def State.runItems : Nat → State → State
  | 0, s => s
  | n + 1, s =>
    match s.tests.queue with
    | [] => s
    | x :: t =>
      if s.tests.running.any (s.conflicts x.item x.target) then s
      else
        let r := { s with tests := { s.tests with queue := t } }
        if itemOffline x.item && !s.released x.item x.target then
          State.runItems n (r.endItem { x with at_ := s.nowQ, clk := s.time.clk } 4)
        else State.runItems n (r.startItem x)

/-- Items at the head of the queue start, or end. -/
def State.runQueue (s : State) : State := State.runItems 16 s

/-- Items that run on a target which is fenced, powered down or has lost its link end ABORTED (R399, R416). -/
def State.abortItems (s : State) (p : TestItem → Bool) : State :=
  let gone := s.tests.running.filter p
  let t := { s with tests := { s.tests with running := s.tests.running.filter (fun x => !p x) } }
  (gone.foldl (fun s x => s.endItem x 5) t).runQueue

/-- The result of MD_TEST_CMD. -/
def State.testResult (s : State) (tag ticket st : Nat) : State :=
  let s := (s.put A.md MD_TEST_RESULT_TAG tag).put A.md MD_TEST_RESULT_TICKET ticket
  (s.inc A.md MD_TEST_RESULT_RESULT_SEQ 1).put A.md MD_TEST_RESULT_STATUS st

/-- Take the next ticket. -/
def State.nextTicket (s : State) : State := { s with tests := { s.tests with ticket := (s.tests.ticket + 1) % 65536 } }

/-- MD_TEST_CMD REQUEST. -/
def State.testRequest (s : State) (i t tag : Nat) : State :=
  if !itemKnown i || !s.targetExists i t || (itemKind i == 0 && s.mode == 9) then s.testResult tag 0 stBadValue
  else if itemOffline i && !s.released i t then s.testResult tag 0 stNeedsFence
  else
    let k := (s.tests.ticket + 1) % 65536
    let x : TestItem := { ticket := k, item := i, target := t, origin := 0 }
    if (s.tests.running ++ s.tests.queue).any (s.conflicts i t) then
      if 16 ≤ s.tests.queue.length then s.testResult tag 0 stQueueFull
      else
        let s := s.nextTicket
        { s with tests := { s.tests with queue := s.tests.queue ++ [x] } }.testResult tag k stDeferred
    else (s.nextTicket.startItem x).testResult tag k stOK

/-- REQUEST of item `i` on target `t`. -/
def execRequest (i t tag : Nat) (s : State) : Host.Outcome State Fault Refusal := .next (s.testRequest i t tag)

/-- MD_TEST_CMD CANCEL: a queued item is removed, a running online item stops, a running offline item ends once its repair
is done (R398, R424). -/
def State.testCancel (s : State) (ticket tag : Nat) : State :=
  match s.tests.queue.find? (fun x => x.ticket == ticket), s.tests.running.find? (fun x => x.ticket == ticket && x.origin == 0) with
  | some x, _ =>
    let t := { s with tests := { s.tests with queue := s.tests.queue.filter (· != x) } }
    ((t.endItem { x with at_ := s.nowQ, clk := s.time.clk } 3).testResult tag ticket stOK).runQueue
  | none, some x =>
    if itemOffline x.item then
      { s with tests := { s.tests with running := s.tests.running.map (fun y => if y = x then { y with cancelled := true } else y) } }.testResult
        tag ticket stOK
    else
      let t := { s with tests := { s.tests with running := s.tests.running.filter (· != x) } }
      ((t.endItem x 3).testResult tag ticket stOK).runQueue
  | none, none => s.testResult tag ticket stNOP

/-- TEST_CANCEL. -/
def execTestCancel (ticket tag : Nat) (s : State) : Host.Outcome State Fault Refusal := .next (s.testCancel ticket tag)

/-! ## Repair (R417) -/

/-- The domain whose spares an item uses, as `Mram.repairs` numbers it; items on other units have none. -/
def repairDomain (i t : Nat) : Option Nat :=
  match i with
  | 18 => some (16 + t)
  | 19 => some t
  | 32 => some 48
  | _ => none

/-- Spares that the faulty units of a finding can use: 1,024 cells of a bank group, less those used before. -/
def State.sparesFor (s : State) (f : Finding) : Nat :=
  match f.item with
  | 18 => 1024 - SMap.get 0 s.mram.repairs (16 + f.target)
  | _ => f.spares

/-- Units that a boot or offline item replaces. -/
def State.repairs (s : State) (f : Finding) : Nat :=
  if (repairDomain f.item f.target).isSome then min f.faulty.length (s.sparesFor f) else 0

/-- OUTCOME of a finding: PASS, REPAIRED or FAIL. -/
def State.outcome (s : State) (f : Finding) : Nat :=
  if f.faulty.isEmpty then 0 else if s.repairs f = f.faulty.length then 1 else 2

/-- Record the repair in the MRAM repair map, and the result in the test log. -/
def State.recordItem (s : State) (x : TestItem) (f : Finding) (outcome : Nat) : State :=
  let n := s.repairs f
  let left := s.sparesFor f - n
  let s := match repairDomain f.item f.target with
    | some d => { s with mram := { s.mram with repairs := SMap.set 0 d (SMap.get 0 s.mram.repairs d + n) s.mram.repairs } }
    | none => s
  s.logTest x outcome f.us f.units f.faulty.length n left (f.faulty.headD 0) f.errors

end Sys2Proof.Machine
end

