-- ==== Sys2Proof/Machine/Modes.lean ====
section
/-!
DEFINITION. Changes of mode by command and by failure, Park, and leaving a pair (spec/15_modes_inservice.md R381–R384,
spec/01_module.md R23, spec/09_redundancy.md R259, R267, spec/14_image_boot.md R371).
-/

namespace Sys2Proof.Machine

/-- STATUS of MD_CMD. -/
def State.mdStatus (s : State) (st : Nat) : State := s.put A.md MD_CMD_STATUS st

/-! ## Halt -/

/-- Power slices and Caldera off at once (R402, R408); what they held is lost. -/
def State.powerOffSlices (s : State) : State :=
  let s := (List.range 8).foldl (fun s n => if s.isSlice n then s.emptySlice n else s) s
  let s := (List.range 8).foldl (fun s n => if s.isSlice n then s.setSlice n 7 0 else s) s
  (List.range 16).foldl (fun s b => s.setBank b false) (s.put A.pw PW_DOMAIN_SLICES 0)

/-- The unit no longer takes part in a pair's roles. -/
def State.quitPair (s : State) : State :=
  let s := (s.put A.up UP_STATUS_ROLE 0).put A.up UP_HANDOVER_MS_INDEX 0xFFFFFFFF
  { s with pair := { s.pair with leaving := none, waitFrom := none, unacked := [], snapDue := false, tryAt := none } }

/-- Enter Halt: lanes electrical idle, time pins low, no input used (R381). -/
def State.enterHalt (s : State) (c : Nat) : State :=
  let s := s.quitPair.toMode 11 c
  let s := s.image.ports.foldl (fun s p => s.linkLoss p.lane) s
  ((s.put A.up UP_STATUS_LINK_A_UP 0).put A.up UP_STATUS_LINK_B_UP 0).selectInput

/-- ROOT_PLL_LOSS: Halt and one journal entry (R23). -/
def execRootPllLoss (s : State) : Host.Outcome State Fault Refusal :=
  .next (if s.mode = 0 ∨ s.mode = 11 then s else (s.enterHalt 5).report 14 0x0003 objNone 0 0)

/-- WATCHDOG: the firmware, once it runs, misses its 100 ms watchdog (R382). -/
def execWatchdog (s : State) : Host.Outcome State Fault Refusal :=
  .next (if 5 ≤ s.mode ∧ s.mode ≤ 10 then s.enterHalt 8 else s)

/-- BOOT_PLL_LOCK_TIMEOUT: the root PLL has not locked 1 ms after the end of Reset (R371). -/
def execBootPllLockTimeout (s : State) : Host.Outcome State Fault Refusal :=
  .next (if s.mode = 1 ∧ 1000000 ≤ s.since s.boot.endAt then (s.put A.sy SY_BOOT_LAST_FAIL 12).enterHalt 5 else s)

/-! ## Park and Wake (R384) -/

/-- Hold cells of a partition's relay allotment that are retired. -/
def State.retiredRelay (s : State) (l : Nat) : Nat :=
  (s.tests.retired.filter (fun i => match s.image.partOf i with
    | some (p, launch) => p.lane == l && !launch
    | none => false)).length

/-- Nothing waits at a port, in a queue, between pipelines or on a wire any more. -/
def State.dropTraffic (s : State) : State :=
  let n := s.held.length + (s.launches.filter (fun x => x.kind == .replay)).length
  let s := s.add A.md MD_CNT_PARK_DISCARD_COUNT n
  let s := (List.range 8).foldl (fun s n => if s.isSlice n then s.emptySlice n else s) s
  let s := s.image.ports.foldl (fun s p => s.put (A.hmp p.lane) HM_PART_USE_RELAY_USED (s.retiredRelay p.lane)) s
  { s with queues := [], flows := [], recirc := [], crossing := [], windows := [], captures := [], slow := [], exports := [] }

/-- Slices that come back from Park as they were: fenced, READY or in FAULT; a build or a drain that Park cut short comes
back FENCED. -/
def State.fencedNow (s : State) : List (Nat × Nat × Nat) :=
  ((List.range 8).filter s.sliceFenced).map (fun n =>
    (n, if s.sliceState n ≤ 3 then 2 else s.sliceState n, s.get A.md (MD_SLICE_STATE_CAUSE n)))

/-- Enter Park (R384): save, drain, discard, power off. -/
def State.enterPark (s : State) : State :=
  let was := s.fencedNow
  let s := s.saveSlices
  let s := { s with saved := { s.saved with fenced := was }, boot := { s.boot with unfencing := [] } }
  let s := s.dropBuilds (fun _ => true)
  let s := s.quitPair.toMode 9 0
  let s := s.abortItems (fun x => itemKind x.item == 0 || itemKind x.item == 2)
  let s := s.dropTraffic
  let s := s.enabledFeeds.foldl (fun s x => s.idleFeed x) s
  let s := s.image.ports.foldl (fun s p => s.linkLoss p.lane) s
  let s := (List.range 8).foldl (fun s n => if s.domainOn 0 n then s.requestDown 0 n false else s) s
  (List.range 16).foldl (fun s b => if s.domainOn 2 b then s.requestDown 2 b false else s) s

/-- Carry out the command of MD_CMD that leaves service or Ready: to Park (9), Diagnostic (10) or Halt (11). -/
def State.enterMode (s : State) (m c : Nat) : State :=
  match m with
  | 9 => s.enterPark
  | 11 => s.enterHalt c
  | _ => s.quitPair.toMode m c

/-- Leave for mode `m`: a unit of a pair that serves sends ROLE LEAVING in three heartbeats first (R383). -/
def State.depart (s : State) (m c : Nat) : State :=
  if s.serving && s.on A.up UP_CTRL_EN then
    let k := match s.pair.leaving with
      | some (_, _, k) => k
      | none => 3
    { s.put A.up UP_STATUS_ROLE 3 with pair := { s.pair with leaving := some (m, c, k), waitFrom := none } }
  else s.enterMode m c

/-- Complete at once a departure that waits for its heartbeats. -/
def State.finishLeaving (s : State) : State :=
  match s.pair.leaving with
  | some (m, c, _) => s.enterMode m c
  | none => s

/-- HEARTBEAT_SEND: a heartbeat instant; after the third heartbeat with ROLE LEAVING the unit leaves (R259, R383). -/
def State.heartbeatSend (s : State) : State :=
  let t := s.heartbeat
  if t.pair.instant = s.pair.instant then t
  else match t.pair.leaving with
    | some (m, c, k + 2) => { t with pair := { t.pair with leaving := some (m, c, k + 1) } }
    | some _ => t.finishLeaving
    | none => t

/-- HEARTBEAT_SEND. -/
def execHeartbeatSend (s : State) : Host.Outcome State Fault Refusal := .next s.heartbeatSend

/-- Wake slice `n`: built from its section, with what Park saved and the golden copies (R384). -/
def State.wakeSlice (s : State) (n : Nat) : State :=
  let s := (s.resetSlice n false).buildSlice s.image n
  let s := (s.restoreSlice n).loadReplica n
  let s := (s.setSlice n 3 0).putBit A.pw PW_DOMAIN_SLICES n true
  (s.tests.retired.filter (fun i => match s.image.partOf i with
    | some (p, _) => p.lane / 64 == n
    | none => false)).foldl (fun s i => s.countCell i) s

/-- The core voltage of die `d` follows its ageing correction (R412). -/
def State.applyAging (s : State) (d : Nat) : State :=
  s.put A.pw (PW_AVS_VCORE_MV d) (s.get A.pw (PW_AVS_VID_MV d) + s.get A.pw (PW_AVS_AGING_MV d))

/-- Wake from Park (R384): power returns, the slices are built and restored, and Calibrate follows. -/
def State.wake (s : State) : State :=
  let s := { s with drains := s.drains.filter (fun (d : Drain) => d.kind == 1) }
  let s := (s.put A.dm DM_POWER_SLICES 0).put A.dm DM_POWER_CALDERA_BANKS 0
  let s := (List.range 16).foldl (fun s b => s.setBank b true) s
  let s := s.power.agingDue.foldl (fun s d => s.applyAging d) s
  let s := { s with power := { s.power with agingDue := [] } }
  let s := (List.range 8).foldl (fun s n =>
    if !s.isSlice n then s
    else if s.saved.fenced.any (fun f => f.1 == n && f.2.2 == 5) then s.setSlice n 5 5
    else s.wakeSlice n) s
  let s := s.cells.foldl (fun s e => if s.on (s.cellBase e.1) CL_CELL_CTRL_EN then s.startMatrix e.1 else s) s
  s.toMode 4 0

/-! ## MD_CMD (R382) -/

/-- A command of MD_CMD that the table of R382 allows from the present mode is done; any other is BAD_VALUE. -/
def State.mdCommand (s : State) (allowed : Bool) (f : State → State) : State :=
  if allowed then f (s.mdStatus stOK) else s.mdStatus stBadValue

/-- GO_SERVICE: an unpaired unit serves at once; a paired one listens for its partner first (R267). -/
def State.goService (s : State) : State :=
  s.mdCommand (s.mode == 5) (fun s =>
    if s.on A.up UP_CTRL_EN then
      if s.pair.waitFrom.isSome then s else { s with pair := { s.pair with waitFrom := some s.time.clk } }
    else s.serveAs 6 0)

/-- GO_SERVICE. -/
def execGoService (s : State) : Host.Outcome State Fault Refusal := .next s.goService

/-- Ready or a serving mode, and no firmware switch runs (R382, R399). -/
def State.mayLeave (s : State) : Bool := decide (5 ≤ s.mode ∧ s.mode ≤ 8) && s.get A.md MD_FW_STATUS_STATE != 2

/-- PARK. -/
def execPark (s : State) : Host.Outcome State Fault Refusal := .next (s.mdCommand s.mayLeave (·.depart 9 0))

/-- DIAG. -/
def execDiag (s : State) : Host.Outcome State Fault Refusal := .next (s.mdCommand s.mayLeave (·.depart 10 0))

/-- WAKE. -/
def execWake (s : State) : Host.Outcome State Fault Refusal := .next (s.mdCommand (s.mode == 9) (·.wake))

/-- EXIT_DIAG. -/
def execExitDiag (s : State) : Host.Outcome State Fault Refusal := .next (s.mdCommand (s.mode == 10) (·.toMode 4 0))

/-- HALT, from any mode but Reset and Halt itself. -/
def execHalt (s : State) : Host.Outcome State Fault Refusal :=
  .next (s.mdCommand (s.mode != 0 && s.mode != 11) (·.depart 11 0))

/-! ## Reset (R7, R382, R425) -/

/-- Bits of a word that outlive Reset: MRAM, fuses, sensors and supplies. -/
def keptBits (a : Nat) : Nat :=
  if a = A.sy then 0x0000FFFF00000000
  else if a = A.sy + 8 ∨ a = A.sy + 0x38 ∨ a = A.sy + 0x68 then 2 ^ 64 - 1
  else if a = A.sy + 0x50 then 0xFF
  else if a = A.pw then 7
  else if a = A.pw + 0x1A0 ∨ a = A.pw + 0x180 ∨ a = A.pw + 0x188 then 2 ^ 64 - 1
  else if A.pw + 0xC0 ≤ a ∧ a < A.pw + 0x120 then 0xFFFFFFFFFFFF0000
  else if A.pw + 0x120 ≤ a ∧ a < A.pw + 0x180 then 2 ^ 64 - 1
  else 0

/-- Enter Reset (R382): every register and table at its Reset value, but for what MRAM, fuses and sensors keep; memories
keep their bytes as long as they are powered. -/
def State.enterReset (s : State) (c : Nat) : State :=
  let m := s.mode
  let t : State :=
    { board := s.board, mram := s.mram, mem := s.forgetDdr.mem, undef := s.forgetDdr.undef, contacts := s.contacts, out := s.out,
      free := s.free, pending := s.pending, time := { clk := s.time.clk },
      power := { word := s.power.word, temp := s.power.temp, tjSum := s.power.tjSum, tjN := s.power.tjN,
                 agingDue := s.power.agingDue } }
  let t := s.words.foldl (fun t e =>
    let k := keptBits e.1
    if k = 0 then t
    else t.setWord e.1 (BitVec.ofNat 64 ((resetWord e.1).toNat - ((resetWord e.1).toNat &&& k) + (e.2.toNat &&& k)))) t
  (t.put A.md MD_STATUS_PREV_MODE m).put A.md MD_STATUS_CAUSE c

/-- RESET. -/
def execResetModule (s : State) : Host.Outcome State Fault Refusal := .next (s.enterReset 0)

end Sys2Proof.Machine
end

