-- ==== Sys2Proof/Machine/Fences.lean ====
section
/-!
DEFINITION. Fences of slices and DDR5 channels, by command and by fault, and die links
(spec/15_modes_inservice.md R385–R390, R399; spec/01_module.md R15, R16, R29).
-/

namespace Sys2Proof.Machine

/-! ## Stopping a slice (R385) -/

/-- An unconverted frame is freed and counts as missed, with its cause. -/
def State.missHeld (s : State) (h : Held) (cause : Nat) : State :=
  let s := s.freeHeld h
  let s := (s.bump (A.lnp h.lane) LN_MISSED_COUNT).raise (A.lnp h.lane) LN_EVENT_FLAGS 1
  ((s.streamMissed h.stream).event h.lane 7 (some h.tc) 1).journalMiss h.lane cause

/-- Step 1 of R385: launches of slice `n` are missed with cause FENCED, its held frames freed. -/
def State.stopTraffic (s : State) (n : Nat) : State :=
  let mine := fun (l : Nat) => l / 64 == n
  let s := (s.launches.filter (fun x => mine x.held.lane)).foldl (fun s x => s.miss x.held.lane x 4) s
  let hs := s.held.filter (fun h => mine h.lane)
  let s := hs.foldl (fun s h => s.missHeld h 4) { s with held := s.held.filter (fun h => !mine h.lane) }
  let s := s.resolveGone hs
  s.feeds.foldl (fun s e =>
    let f := s.feed e.1
    let gone := f.retained.filter (fun (h : Held) => mine h.lane)
    gone.foldl (fun s h => s.freeHeld h) (s.setFeed e.1 { f with retained := f.retained.filter (fun (h : Held) => !mine h.lane) })) s

/-- Something is fenced: Service and Mirror become Reshape, which remembers them (R382). -/
def State.toReshape (s : State) (c : Nat) : State :=
  let m := s.mode
  if m = 6 ∨ m = 7 then (s.toMode 8 c).put A.md MD_STATUS_RETURN_MODE m else s

/-- Nothing is fenced any more: Reshape becomes what it remembers. -/
def State.leaveReshape (s : State) : State :=
  if s.mode = 8 ∧ !s.anyFence then s.toMode (s.get A.md MD_STATUS_RETURN_MODE) 3 else s

/-- Fence slice `n`: its state and cause, and the cause of the mode change (R385, R386). -/
def State.fenceSlice (s : State) (n st cause why : Nat) : State :=
  let served := s.sliceServes n
  let s := s.abortItems (fun x => itemKind x.item == 0 && x.target == n)
  let s := if served then s.stopTraffic n else s
  let s := s.setSlice n st cause
  let s := if served then s.requestDown 0 n true else s
  let s := { s with boot := { s.boot with unfencing := s.boot.unfencing.filter (fun e => e.1 != n) } }
  let s := s.dropBuilds (· == n)
  ((s.raise A.md MD_EVENT_FLAGS 1).toReshape why).report 14 0x0061 objSlice n cause

/-- A fault fence is made from Ready onward (R386), on a slice that is there, powered, and not in FAULT already. -/
def State.faultable (s : State) (n : Nat) : Bool :=
  s.isSlice n && decide (5 ≤ s.mode) && s.mode != 9 && s.mode != 11 && decide (s.sliceState n ≤ 4)

/-- Fault fence with cause LINK_DOWN: die link `k` of slice `n` (0 to Hold, 1 to Control) is down. -/
def State.linkFence (s : State) (n k : Nat) : State :=
  let s := s.put (A.sd n) (if k = 0 then SD_LINK_HD_UP else SD_LINK_CT_UP) 0
  let s := (s.bump (A.sd n) SD_CNT_LINK_DOWN_COUNT).report (srcSlice n 0) 0x0060 objSlice n k
  if s.faultable n then s.fenceSlice n 5 2 4 else s

/-- Fault fence with cause RAIL: the slice is powered off (R386, R402). `units` gives the units each RUNNING channel that
touches the slice completed. -/
def State.railFence (s : State) (n : Nat) (units : List (Nat × Nat)) : State :=
  let s := if s.faultable n then s.fenceSlice n 5 5 6 else s.setSlice n 5 5
  let s := (s.abortTouching 0 n units).putBit A.pw PW_DOMAIN_SLICES n false
  let s := { s with drains := s.drains.filter (fun (d : Drain) => d.kind != 0 || d.index != n) }
  (s.image.portsOf n).foldl (fun s p => s.linkLoss p.lane) s

/-! ## Commands on slices -/

/-- STATUS of MD_FENCE_CMD. -/
def State.fenceStatus (s : State) (st : Nat) : State := s.put A.md MD_FENCE_CMD_STATUS st

/-- FENCE of slice `n`. -/
def State.fence (s : State) (n : Nat) : State :=
  let another := (List.range 8).any (fun m => m != n && s.isSlice m && s.sliceServes m)
  if s.serving && s.isSlice n && s.sliceServes n && another then (s.fenceStatus stOK).fenceSlice n 1 1 3
  else s.fenceStatus stBadValue

/-- FENCE_DRAIN_COMPLETE: no transfer touches the draining slice `n` any more; it is FENCED, and stays powered. -/
def State.fenceDrained (s : State) (n : Nat) : State :=
  if !s.drains.any (fun (d : Drain) => d.kind == 0 && d.index == n && d.fence) || s.touched 0 n then s
  else
    let s := { s with drains := s.drains.filter (fun (d : Drain) => d.kind != 0 || d.index != n) }
    let s := s.putBit A.dm DM_POWER_SLICES n false
    if s.sliceState n = 1 then s.setSlice n 2 (s.get A.md (MD_SLICE_STATE_CAUSE n)) else s

/-- FENCE_DRAIN_COMPLETE of slice `n`. -/
def execFenceDrainComplete (n : Nat) (s : State) : Host.Outcome State Fault Refusal := .next (s.atSlice n (·.fenceDrained n))

/-- UNFENCE of slice `n`: a READY slice that no offline item runs on, and that its self-test did not condemn (R388,
R417). -/
def State.unfence (s : State) (n : Nat) : State :=
  let busy := s.tests.running.any (fun x => itemOffline x.item && itemKind x.item == 0 && x.target == n)
  if s.isSlice n && s.sliceState n == 4 && !busy && !s.tests.locked.contains n then
    let s := s.fenceStatus stOK
    if s.boot.unfencing.any (fun e => e.1 == n) then s
    else { s with boot := { s.boot with unfencing := s.boot.unfencing ++ [(n, s.time.clk)] } }
  else s.fenceStatus stBadValue

/-- UNFENCE_EFFECTIVE: 2 µs after UNFENCE slice `n` serves (R388). -/
def State.unfenceEffective (s : State) (n : Nat) : State :=
  match s.boot.unfencing.find? (fun e => e.1 == n) with
  | some (_, t) =>
    if s.since t < 2000 then s
    else
      let s := { s with boot := { s.boot with unfencing := s.boot.unfencing.filter (fun e => e.1 != n) } }
      (s.setSlice n 0 0).leaveReshape
  | none => s

/-- UNFENCE_EFFECTIVE of slice `n`. -/
def execUnfenceEffective (n : Nat) (s : State) : Host.Outcome State Fault Refusal := .next (s.unfenceEffective n)

/-- A slice enters BUILDING from its section in the running image, or from image `im` (R387). -/
def State.startBuild (s : State) (n : Nat) (im : Option Image) : State :=
  let s := s.abortItems (fun x => itemKind x.item == 0 && x.target == n)
  let s := (s.image.portsOf n).foldl (fun s p => s.linkLoss p.lane) s
  { s.setSlice n 3 (s.get A.md (MD_SLICE_STATE_CAUSE n)) with
    boot := { s.boot with builds := SMap.insert n im s.boot.builds } }

/-- REBUILD of slice `n`, FENCED or in FAULT with its power on (R387). -/
def State.rebuild (s : State) (n : Nat) : State :=
  if s.isSlice n && (s.sliceState n == 2 || s.sliceState n == 5) && (s.get A.pw PW_DOMAIN_SLICES).testBit n then
    (s.fenceStatus stOK).startBuild n none
  else s.fenceStatus stBadValue

/-- REBUILD of slice `n`. -/
def execRebuild (n : Nat) (s : State) : Host.Outcome State Fault Refusal := .next (s.rebuild n)

/-! ## DDR5 channels (R390) -/

/-- A DDR5 channel is fenced or draining for a fence. -/
def State.ddrFenced (s : State) : Bool :=
  s.get A.md MD_DDR_FENCE_CHANNELS != 0 || s.drains.any (fun (d : Drain) => d.kind == 1 && d.fence)

/-- FENCE of DDR5 channel `c`. -/
def State.ddrFence (s : State) (c : Nat) : State :=
  if s.image.ddrCh.testBit c && !s.ddrFenced && (s.serving || s.mode == 9) then
    let s := ((s.fenceStatus stOK).raise A.md MD_EVENT_FLAGS 1).abortItems (fun x => itemKind x.item == 1 && x.target == c)
    (s.requestDown 1 c true).toReshape 3
  else s.fenceStatus stBadValue

/-- FENCE: `kind` 0 slice, 1 DDR5 channel. -/
def execFence (kind n : Nat) (s : State) : Host.Outcome State Fault Refusal :=
  .next (match kind with
    | 0 => s.fence n
    | 1 => s.ddrFence n
    | _ => s.fenceStatus stBadValue)

/-- UNFENCE of DDR5 channel `c`: it retrains. -/
def State.ddrUnfence (s : State) (c : Nat) : State :=
  if (s.get A.md MD_DDR_FENCE_CHANNELS).testBit c && !s.boot.retraining.contains c then
    { s.fenceStatus stOK with boot := { s.boot with retraining := s.boot.retraining ++ [c] } }
  else s.fenceStatus stBadValue

/-- UNFENCE: `kind` 0 slice, 1 DDR5 channel. -/
def execUnfence (kind n : Nat) (s : State) : Host.Outcome State Fault Refusal :=
  .next (match kind with
    | 0 => s.unfence n
    | 1 => s.ddrUnfence n
    | _ => s.fenceStatus stBadValue)

/-- DDR_UNFENCE_COMPLETE: the channel is trained and serves again; its data is undefined (R390). -/
def State.ddrUnfenced (s : State) (c : Nat) : State :=
  if !s.boot.retraining.contains c then s
  else
    let s := { s with boot := { s.boot with retraining := s.boot.retraining.filter (· != c) } }
    let s := (s.putBit A.md MD_DDR_FENCE_CHANNELS c false).putBit A.dm DM_POWER_DDR c false
    ((s.putBit A.pw PW_DOMAIN_DDR c true).loseMemory c).leaveReshape

/-- DDR_UNFENCE_COMPLETE of channel `c`. -/
def execDdrUnfenceComplete (c : Nat) (s : State) : Host.Outcome State Fault Refusal := .next (s.ddrUnfenced c)

/-- A write of MD_FENCE_CMD (R385, R387, R388, R390). -/
def State.fenceCommand (s : State) (op kind n : Nat) : State :=
  match op, kind with
  | 1, 0 => s.fence n
  | 1, _ => s.ddrFence n
  | 2, 0 => s.unfence n
  | 2, _ => s.ddrUnfence n
  | 3, 0 => s.rebuild n
  | _, _ => s.fenceStatus stBadValue

/-! ## Die links (R15, R16) -/

/-- A complement-protected value on a die link does not match: what it governs stops, the last good value stays, and one
entry is written. Kinds: 0 gate list entry of port `o`, 1 launch instant on port `o`, 2 parameters of scene clock `o`,
3 time base addend, 4 claim, 5 access map (R16). -/
def State.linkMismatch (s : State) (k o : Nat) : State :=
  if (decide (k ≤ 1) && !s.isPort o) || (k == 2 && decide (2048 ≤ o)) then s
  else match k with
  | 0 => (s.raise (A.gcp o) GC_EVENT_FLAGS 3).report (srcSlice (sliceOf o) 5) 0x0011 objPort o 0
  | 1 =>
    let s := { s with launches := replaceFirst (fun x => x.held.lane == o && !x.corrupt) (fun x => { x with corrupt := true }) s.launches }
    s.report (srcSlice (sliceOf o) 4) 0x0011 objPort o 1
  | 2 => (s.setScene o { s.scene o with stopped := true }).report 1 0x0011 objNone 0 2
  | 3 => s.report 0 0x0011 objNone 0 3
  | 4 => s.report 2 0x0011 objNone 0 4
  | _ => s.report 10 0x0011 objNone 0 5

/-- DIE_LINK_FLIT_RECEIVE on link `k` (0 to Hold, 1 to Control) of slice `n`: `failed` attempts failed their CRC; `bad` is
the kind and object of a value that arrives with a complement that does not match. -/
def State.flitReceive (s : State) (n k failed : Nat) (bad : Option (Nat × Nat)) : State :=
  let up := s.on (A.sd n) (if k = 0 then SD_LINK_HD_UP else SD_LINK_CT_UP)
  if !s.isSlice n || decide (2 ≤ k) || !up then s
  else
    let s := s.add (A.mss n) (if k = 0 then MSS_LINK_RETRY_HD_COUNT else MSS_LINK_RETRY_CT_COUNT) (min failed 7)
    if 8 ≤ failed then s.linkFence n k
    else match bad with
      | some (c, o) => s.linkMismatch c o
      | none => s

/-- DIE_LINK_FLIT_RECEIVE. -/
def execDieLinkFlitReceive (n k failed : Nat) (bad : Option (Nat × Nat)) (s : State) : Host.Outcome State Fault Refusal :=
  .next (s.flitReceive n k failed bad)

end Sys2Proof.Machine
end

