-- ==== Sys2Proof/Machine/Firmware.lean ====
section
/-!
DEFINITION. Switching firmware banks, and the time base tick, which carries a switch along
(spec/15_modes_inservice.md R391–R393, spec/02_physical_time.md R31).
-/

namespace Sys2Proof.Machine

/-- MD_FW_STATUS.STATE: 0 IDLE, 1 STAGED, 2 SWITCHING, 3 SWITCHED, 4 ROLLING_BACK, 5 FAILED. -/
def State.fwState (s : State) : Nat := s.get A.md MD_FW_STATUS_STATE

/-- One part of a switch: SerDes adaptation of a slice, Fumarole, or a control core. -/
inductive FwPart where
  | adapt (n : Nat)
  | fumarole
  | core (k : Nat)
  deriving DecidableEq, Repr

/-- The longest time a part takes, in ns (R392; log entry 60). -/
def FwPart.ns : FwPart → Nat
  | .adapt _ => 10000000
  | .fumarole => 20000000
  | .core _ => 2000000

/-- The parts of a switch in order, for the instances that STANDBY holds (R392). -/
def State.fwParts (s : State) : List FwPart :=
  (if s.firmware.parts.contains 2 then ((List.range 8).filter s.isSlice).map FwPart.adapt else []) ++
    (if s.firmware.parts.contains 1 then [.fumarole] else []) ++
    (if s.firmware.parts.contains 0 then (List.range 16).map (fun k => .core (15 - k)) else [])

/-- The part runs the new bank. -/
def State.fwNew (s : State) : FwPart → Bool
  | .adapt n => (s.get A.md MD_FW_STATUS_SLICES_NEW).testBit n
  | .fumarole => s.on A.md MD_FW_STATUS_FUMAROLE_NEW
  | .core k => (s.get A.md MD_FW_STATUS_CORES_NEW).testBit k

/-- Show which bank a part runs. -/
def State.setFwNew (s : State) (p : FwPart) (v : Bool) : State :=
  match p with
  | .adapt n => s.putBit A.md MD_FW_STATUS_SLICES_NEW n v
  | .fumarole => s.put A.md MD_FW_STATUS_FUMAROLE_NEW (bit v)
  | .core k => s.putBit A.md MD_FW_STATUS_CORES_NEW k v

/-- The part that switches now: forward in order, or back in the reverse order. -/
def State.fwNext (s : State) : Option FwPart :=
  match s.fwState with
  | 2 => s.fwParts.find? (fun p => !s.fwNew p)
  | 4 => s.fwParts.reverse.find? s.fwNew
  | _ => none

/-- Fumarole's tasks pause while it switches, and those that are not mandatory from capping step 1 on (R392, R406,
R414). -/
def State.fwPause (s : State) : State :=
  s.put A.bg BG_STATUS_PAUSED (bit (s.fwNext == some .fumarole || s.get A.pw PW_CAP_STATUS_STEP != 0))

/-- The banks of the switched instances exchange names. -/
def State.fwExchange (s : State) : State :=
  s.firmware.parts.foldl (fun s i =>
    let a := s.get A.md (MD_FW_REL_ACTIVE i)
    let b := s.get A.md (MD_FW_REL_STANDBY i)
    (s.put A.md (MD_FW_REL_ACTIVE i) b).put A.md (MD_FW_REL_STANDBY i) a) s

/-- A switch or a return has no part left (R392, R393). -/
def State.fwEnd (s : State) : State :=
  match s.fwState with
  | 2 => (s.fwExchange.put A.md MD_FW_STATUS_STATE 3).raise A.md MD_EVENT_FLAGS 2
  | 4 =>
    if s.firmware.failed then
      ((s.put A.md MD_FW_STATUS_STATE 5).raise A.md MD_EVENT_FLAGS 3).reportOther 14 objNone 0 0
    else s.fwExchange.put A.md MD_FW_STATUS_STATE 1
  | _ => s

/-- Carry a switch along; `n` bounds the parts that can have ended. -/
def State.fwRun : Nat → State → State
  | 0, s => s
  | n + 1, s =>
    if s.fwState ≠ 2 ∧ s.fwState ≠ 4 then s
    else match s.fwNext with
      | none => s.fwEnd.fwPause
      | some p =>
        if s.since s.firmware.since < p.ns then s
        else
          let s := s.setFwNew p (s.fwState == 2)
          State.fwRun n { s with firmware := { s.firmware with since := s.firmware.since + p.ns } }.fwPause

/-- A switch starts, or a return. -/
def State.fwStart (s : State) (st : Nat) (failed : Bool) : State :=
  let s := { s with firmware := { s.firmware with since := s.time.clk, failed := failed } }
  (s.put A.md MD_FW_STATUS_STATE st).fwPause

/-- STATUS of MD_FW_CMD. -/
def State.fwStatus (s : State) (st : Nat) : State := s.put A.md MD_FW_CMD_STATUS st

/-- MD_FW_CMD SWITCH: a release waits in STANDBY. -/
def State.fwSwitch (s : State) : State :=
  if s.fwState = 1 ∨ s.fwState = 5 then (s.fwStatus stOK).fwStart 2 false else s.fwStatus stBadValue

/-- SWITCH. -/
def execSwitch (s : State) : Host.Outcome State Fault Refusal := .next s.fwSwitch

/-- MD_FW_CMD ROLLBACK: after a switch (R393). -/
def State.fwRollback (s : State) : State :=
  if s.fwState = 3 then (s.fwStatus stOK).fwStart 4 false else s.fwStatus stBadValue

/-- ROLLBACK. -/
def execRollback (s : State) : Host.Outcome State Fault Refusal := .next s.fwRollback

/-- FW_CORE_START_TIMEOUT: the core that switches has not started in the new bank within 10 ms (R393). -/
def State.fwTimeout (s : State) : State :=
  match s.fwState, s.fwNext with
  | 2, some (.core _) => s.fwStart 4 true
  | _, _ => s

/-- FW_CORE_START_TIMEOUT. -/
def execFwCoreStartTimeout (s : State) : Host.Outcome State Fault Refusal := .next s.fwTimeout

/-- TIME_BASE_TICK: `n` ticks of the 1.0 GHz clock; a firmware switch goes on. -/
def execTimeBaseTick (n : Nat) (s : State) : Host.Outcome State Fault Refusal := .next (State.fwRun 32 (s.tick n))

end Sys2Proof.Machine
end

