-- ==== Sys2Proof/Machine/Background.lean ====
section
/-!
DEFINITION. Fumarole's tasks and the end of self-test items (spec/15_modes_inservice.md R394–R396,
spec/17_selftest_faults.md R415–R417, spec/14_image_boot.md R377–R379, spec/08_parse_classify.md R239,
spec/02_physical_time.md R43). What a pass finds in the hardware is an operand.
-/

namespace Sys2Proof.Machine

/-! ## Passes (R394–R396) -/

/-- Tasks that always run: AMAP_CHECK, CONST_CHECK, OSC_COMP, TELEMETRY. -/
def mandatory (t : Nat) : Bool := [5, 6, 8, 9].contains t

/-- Task `t` makes passes now: its mode, its enable, capping step 1, and a switch of Fumarole, through which the control
cores carry OSC_COMP and TELEMETRY. -/
def State.taskRuns (s : State) (t : Nat) : Bool :=
  let m := s.mode
  (decide (5 ≤ m ∧ m ≤ 8) || m == 10 || (m == 9 && [4, 5, 6, 8, 9, 10, 11].contains t)) &&
    (mandatory t || ((s.on (A.bgt t) BG_TASK_CTRL_EN || (t == 12 && m == 7)) && s.get A.pw PW_CAP_STATUS_STEP == 0)) &&
    (t == 8 || t == 9 || s.fwNext != some .fumarole)

/-- A pass of task `t` ends after `us` microseconds with `found` findings. -/
def State.passEnd (s : State) (t us found : Nat) : State :=
  let b := A.bgt t
  let s := (s.inc b BG_TASK_STAT_PASSES 1).inc b BG_TASK_STAT_OVERRUNS (bit (decide (s.get b BG_TASK_CTRL_PERIOD_MS * 1000 < us)))
  let s := (s.put b BG_TASK_LAST_END (shortOf s.nowQ)).put b BG_TASK_LAST_DURATION_US (min us (2 ^ 32 - 1))
  s.inc b BG_TASK_FOUND_COUNT found

/-- Do a pass of task `t`, if it runs: `f` answers the number of findings and the state after their effects. -/
def State.pass (s : State) (t us : Nat) (f : State → Nat × State) : State :=
  if s.taskRuns t then
    let r := f s
    r.2.passEnd t us r.1
  else s

/-- OSC_COMP: the compensation of this millisecond, in addend LSBs (R43); the pass took `us` microseconds. -/
def execOscComp (x : Int) (us : Nat) (s : State) : Host.Outcome State Fault Refusal :=
  .next (s.pass 8 us (fun s =>
    (0, if s.servoState = 3 then { s with sync := { s.sync with comp := x } }.formAddend else s)))

/-! ## Tables (tasks 0–2) -/

/-- Slice tasks leave out fenced slices. -/
def State.scrubbed (s : State) (found : List (Nat × Nat)) : List (Nat × Nat) :=
  found.filter (fun e => s.isSlice e.1 && !s.sliceFenced e.1 && e.2 != 0)

/-- Slots or entries rewritten on slice `n`: one journal entry per slice and second (R394). -/
def State.scrubEntry (s : State) (key k n count : Nat) : State :=
  s.limited (limitKey key n) count (fun c s => s.reportOther (srcSlice n k) objSlice n c)

/-- TCAM_SCRUB: `found` gives the slots rewritten by slice. -/
def execTcamScrub (found : List (Nat × Nat)) (us : Nat) (s : State) : Host.Outcome State Fault Refusal :=
  .next (s.pass 0 us (fun s =>
    let f := s.scrubbed found
    ((f.map (·.2)).sum, f.foldl (fun s e => s.scrubEntry 7 1 e.1 e.2) s)))

/-- GATE_SCRUB: `found` gives the entries of gate lists, stream gate lists and matrices rewritten by slice. -/
def execGateScrub (found : List (Nat × Nat)) (us : Nat) (s : State) : Host.Outcome State Fault Refusal :=
  .next (s.pass 1 us (fun s =>
    let f := s.scrubbed found
    ((f.map (·.2)).sum, f.foldl (fun s e => s.scrubEntry 8 5 e.1 e.2) s)))

/-- An entry or group of the replica of slice `n` was rewritten from the golden copy (R239). -/
def State.replicaRepair (s : State) (n x : Nat) : State :=
  (s.bump (A.st n) ST_CNT_REPAIR_COUNT).reportOther (srcSlice n 2) objStream x 0

/-- STREAM_COMPARE: `found` gives slice and index of each entry rewritten. -/
def execStreamCompare (found : List (Nat × Nat)) (us : Nat) (s : State) : Host.Outcome State Fault Refusal :=
  .next (s.pass 2 us (fun s =>
    let f := found.filter (fun e => s.isSlice e.1 && !s.sliceFenced e.1)
    (f.length, f.foldl (fun s e => s.replicaRepair e.1 e.2) s)))

/-! ## Hold cells (task 3) -/

/-- A frame of stream `x` with SEQ `q` for port `l` lay in a cell that is retired: it is discarded and counts as a missed
launch, for want of integrity (log entry 61). -/
def State.loseFrame (s : State) (l x q : Nat) : State :=
  let mine := fun (h : Held) => h.lane == l && h.stream == x && h.seq == q
  match s.held.find? mine, s.launches.find? (fun y => mine y.held) with
  | some h, _ => { s with held := s.held.eraseP mine }.missHeld h 2
  | none, some y =>
    let t := (({ s with launches := s.launches.eraseP (fun y => mine y.held) }.freeLaunch y).bump (A.lnp l) LN_MISSED_COUNT).raise
      (A.lnp l) LN_EVENT_FLAGS 1
    (((t.raise (A.lnp l) LN_EVENT_FLAGS 3).streamMissed x).event l 7 (some y.held.tc) 1).journalMiss l 2
  | none, none => s

/-- Cells `bad` have uncorrectable errors; `hit` gives the frames in them by port, stream and SEQ. -/
def State.retireCells (s : State) (bad : List Nat) (hit : List (Nat × Nat × Nat)) : State :=
  let s := hit.foldl (fun s h => s.loseFrame h.1 h.2.1 h.2.2) s
  (bad.filter (fun i => decide (i < 2097152))).foldl (fun s i => s.retireCell i) s

/-- HOLD_PATROL: `fixed` errors corrected in place, `bad` cells retired, `hit` their frames. -/
def execHoldPatrol (fixed : Nat) (bad : List Nat) (hit : List (Nat × Nat × Nat)) (us : Nat) (s : State) :
    Host.Outcome State Fault Refusal :=
  .next (s.pass 3 us (fun s => (fixed + bad.length, s.retireCells bad hit)))

/-! ## Complemented values (tasks 4–6) -/

/-- A stored complemented value of kind `k` and object `o` does not match: the rule of its kind applies. Kinds 0 to 5 are
those of R16; 6 is the matrix of cell `o` (R378). -/
def State.storedMismatch (s : State) (k o : Nat) : State :=
  if k = 6 then
    match s.homeSlice o with
    | some n => (s.raise (s.cellBase o) CL_EVENT_FLAGS 4).report (srcSlice n 7) 0x0011 objCell o 0
    | none => s
  else s.linkMismatch k o

/-- COMPLEMENT_CHECK: `found` gives kind and object of each mismatch. -/
def execComplementCheck (found : List (Nat × Nat)) (us : Nat) (s : State) : Host.Outcome State Fault Refusal :=
  .next (s.pass 4 us (fun s => (found.length, found.foldl (fun s e => s.storedMismatch e.1 e.2) s)))

/-- AMAP_CHECK (R377). -/
def execAmapCheck (us : Nat) (s : State) : Host.Outcome State Fault Refusal := .next (s.pass 5 us (·.amapCheck))

/-- The register at `a`, or its constant, does not match (R379): the slice that holds it is fenced, or the module
halts. -/
def State.constMismatch (s : State) (a : Nat) : State :=
  if !s.image.consts.any (fun c => c.kind == 1 && c.da % 2 ^ 44 == a) then s
  else
    let s := s.inc A.im IM_CONST_ERRORS 1
    let s := s.report 10 0x0011 objReg a 0
    match constSlice a with
    | some n => if s.faultable n then s.fenceSlice n 5 3 7 else s
    | none => s.enterHalt 7

/-- CONST_CHECK: `bad` gives the addresses that mismatch. -/
def execConstCheck (bad : List Nat) (us : Nat) (s : State) : Host.Outcome State Fault Refusal :=
  .next (s.pass 6 us (fun s => (bad.length, bad.foldl (fun s a => s.constMismatch a) s)))

/-! ## Lanes and DDR5 (tasks 7, 10) -/

/-- SERDES_ADAPT of the lanes of port `l`: a trained lane is adapted, and its link stays as it is. -/
def execSerdesAdapt (l us : Nat) (s : State) : Host.Outcome State Fault Refusal :=
  .next (if s.isPort l && s.linkUp l && !s.sliceFenced (sliceOf l) then s.pass 7 us (fun s => (0, s)) else s)

/-- An uncorrectable error at DDR5 address `a` (R394). -/
def State.ddrError (s : State) (a : Nat) : State :=
  let c := s.ddrChannelOf a
  s.report (16 + c) 0x0070 objDdr c a

/-- DDR_SCRUB: `fixed` errors corrected, `bad` the addresses of the others. -/
def execDdrScrub (fixed : Nat) (bad : List Nat) (us : Nat) (s : State) : Host.Outcome State Fault Refusal :=
  .next (s.pass 10 us (fun s => (fixed + bad.length, bad.foldl (fun s a => s.ddrError a) s)))

/-! ## Ends of self-test items (R416, R417) -/

/-- A failed item raises item 6 of R263 where it is an online one. -/
def State.noteFail (s : State) (f : Finding) (outcome : Nat) : State :=
  if outcome = 2 ∧ !itemOffline f.item then { s with testFails := s.testFails + 1 } else s

/-- The hold cell at a device address (R452). -/
def cellAt (a : Nat) : Nat := (a - 0x20000000) / 256

/-- What a task's item does on its findings, as the task does. -/
def State.taskItem (s : State) (f : Finding) (hit : List (Nat × Nat × Nat)) : State :=
  match f.item with
  | 3 => if f.faulty.isEmpty then s else s.scrubEntry 7 1 f.target f.faulty.length
  | 4 => f.faulty.foldl (fun s x => s.replicaRepair f.target x) s
  | 5 => s.retireCells (f.faulty.map cellAt) hit
  | 6 => f.faulty.foldl (fun s a => s.ddrError a) s
  | _ => s

/-- A lane that failed its self-test: the port that holds it is held with its link down. -/
def State.badLane (s : State) (j : Nat) : State :=
  let s := { s with tests := { s.tests with badLanes := s.tests.badLanes ++ [j] } }
  (s.image.ports.filter (fun p => decide (p.lane ≤ j ∧ j < p.lane + p.lanes))).foldl (fun s p => s.linkLoss p.lane) s

/-- DDR5 channel `c` stays out of service as under a fence (R417). -/
def State.ddrOut (s : State) (c : Nat) : State :=
  let s := (s.putBit A.pw PW_DOMAIN_DDR c false).putBit A.dm DM_POWER_DDR c true
  s.putBit A.md MD_DDR_FENCE_CHANNELS c true

/-- What an offline item that fails without repair does (R417). -/
def State.offlineFail (s : State) (f : Finding) : State :=
  match f.item with
  | 16 => f.faulty.foldl (fun s j => s.badLane j) s
  | 17 => (s.ddrOut f.target).toReshape 4
  | 18 => s.retireCells ((f.faulty.drop (s.repairs f)).map cellAt) []
  | 19 =>
    let s := { s with tests := { s.tests with locked := s.tests.locked ++ [f.target] } }
    if s.faultable f.target then s.fenceSlice f.target 5 4 4 else s.setSlice f.target 5 4
  | _ => s

/-- Patterns of an offline item overwrite the memory it tests (R415). -/
def State.overwritten (s : State) (f : Finding) : State :=
  match f.item with
  | 17 => s.loseMemory f.target
  | 18 => s.loseMemory (16 + f.target)
  | _ => s

/-- Item `x` ends with finding `f`. -/
def State.itemEnd (s : State) (x : TestItem) (f : Finding) (hit : List (Nat × Nat × Nat)) : State :=
  let out := s.outcome f
  let s := s.overwritten f
  let s := if out = 2 ∧ itemOffline f.item then s.offlineFail f else s
  let s := (s.taskItem f hit).noteFail f out
  s.recordItem x f (if x.cancelled then 3 else out)

/-- TEST_ITEM_COMPLETE: the running item with this ticket ends. -/
def State.testDone (s : State) (ticket : Nat) (f : Finding) (hit : List (Nat × Nat × Nat)) : State :=
  match s.tests.running.find? (fun x => x.ticket == ticket && x.item == f.item && x.target == f.target) with
  | some x =>
    let t := { s with tests := { s.tests with running := s.tests.running.filter (· != x) } }
    (t.itemEnd x f hit).runQueue
  | none => s

/-- TEST_ITEM_COMPLETE. -/
def execTestItemComplete (ticket : Nat) (f : Finding) (hit : List (Nat × Nat × Nat)) (s : State) :
    Host.Outcome State Fault Refusal :=
  .next (s.testDone ticket f hit)

/-- The online items and their targets in the order of the rotation. -/
def rotationSteps : List (Nat × Nat) :=
  [1, 2, 3, 4, 5, 6, 7].flatMap (fun i => (List.range (if itemKind i = 0 then 8 else 16)).map (fun t => (i, t)))

/-- The rotation tests this target: it exists and is not fenced. -/
def State.rotates (s : State) (e : Nat × Nat) : Bool :=
  s.targetExists e.1 e.2 &&
    (match itemKind e.1 with
     | 0 => !s.sliceFenced e.2
     | 1 => s.ddrUp e.2
     | _ => (s.get A.pw PW_DOMAIN_BANKS).testBit e.2)

/-- Place in the rotation of the next item, and that item. -/
def State.nextRotation (s : State) : Option (Nat × Nat × Nat) :=
  let n := rotationSteps.length
  ((List.range n).map (fun k => (s.tests.rotation + k) % n)).findSome? (fun k =>
    match rotationSteps[k]? with
    | some e => if s.rotates e then some (k, e.1, e.2) else none
    | none => none)

/-- SELFTEST_ROTATION: the next online item runs, with finding `f` (R394). -/
def State.rotate (s : State) (f : Finding) (hit : List (Nat × Nat × Nat)) : State :=
  match s.nextRotation with
  | some (k, i, t) =>
    if f.item ≠ i ∨ f.target ≠ t then s
    else s.pass 12 f.us (fun s =>
      let x : TestItem := { ticket := 0, item := i, target := t, origin := 2, at_ := s.nowQ - nsQ (f.us * 1000) }
      let s := { s with tests := { s.tests with rotation := (k + 1) % rotationSteps.length } }
      (f.faulty.length, s.itemEnd x f hit))
  | none => s

/-- SELFTEST_ROTATION. -/
def execSelftestRotation (f : Finding) (hit : List (Nat × Nat × Nat)) (s : State) : Host.Outcome State Fault Refusal :=
  .next (s.rotate f hit)

end Sys2Proof.Machine
end

