-- ==== Sys2Proof/Machine/Power.lean ====
section
/-!
DEFINITION. Supplies, power domains, capping, temperatures, telemetry and ageing (spec/16_power.md R400–R414,
spec/09_redundancy.md R275). Measured values are operands.
-/

namespace Sys2Proof.Machine

/-! ## Supplies (R401, R402) -/

/-- Set the latched bits `m` of PMBus STATUS_WORD (R411). -/
def State.latchWord (s : State) (m : Nat) : State := { s with power := { s.power with word := s.power.word ||| m } }

/-- SUPPLY_IN_RANGE: VIN has been in range for 10 ms beside VAUX; Armature's rails are good. `addr` is PMB_ADDR, sampled
when VAUX enters its range (R401, R433). -/
def State.supplyGood (s : State) (addr : Nat) : State :=
  let s := if s.on A.pw PW_STATUS_VAUX_OK then s else s.put A.pw PW_PMB_ADDR (0x40 + addr % 8)
  let s := (s.put A.pw PW_STATUS_VAUX_OK 1).put A.pw PW_STATUS_VIN_OK 1
  (s.put A.pw PW_STATUS_RAILS_GOOD 1).applyAging 9

/-- SUPPLY_IN_RANGE. -/
def execSupplyInRange (addr : Nat) (s : State) : Host.Outcome State Fault Refusal := .next (s.supplyGood addr)

/-- Every memory loses its contents. -/
def State.loseAll (s : State) : State := (List.range 33).foldl (fun s u => s.loseMemory u) s

/-- Every rail but VAUX goes off (R402). -/
def State.allRailsOff (s : State) : State :=
  let s := (s.put A.pw PW_STATUS_RAILS_GOOD 0).put A.pw PW_DOMAIN_DDR 0
  s.loseAll

/-- VIN_LOW: VIN below 10.4 V for more than 50 µs, or, with `below9`, below 9.0 V (R402). -/
def State.vinLow (s : State) (below9 : Bool) : State :=
  let s := (s.put A.pw PW_STATUS_VIN_OK 0).latchWord (2 ^ 3 + 2 ^ 13)
  let s := if s.mode = 0 then s
    else
      let s := (s.raise A.pw PW_EVENT_FLAGS 5).powerOffSlices
      if s.mode = 11 then s else s.enterHalt 6
  if below9 then s.allRailsOff else s

/-- VIN_LOW. -/
def execVinLow (below9 : Bool) (s : State) : Host.Outcome State Fault Refusal := .next (s.vinLow below9)

/-- The rail of DDR5 channel `c` is lost (R402): out of service as under a fence, or Halt when another is out already.
`units` gives the units each RUNNING channel that touches it completed. -/
def State.ddrRailLost (s : State) (c : Nat) (units : List (Nat × Nat)) : State :=
  let other := s.ddrChannels.any (fun k => k != c && !s.ddrUp k)
  let s := (s.abortTouching 1 c units).loseMemory c
  let s := { s with drains := s.drains.filter (fun (d : Drain) => d.kind != 1 || d.index != c) }
  let s := (s.ddrOut c).report (16 + c) 0x0070 objDdr c 5
  if other then s.enterHalt 6 else s.toReshape 6

/-- RAIL_FAULT of `kind` 0 slice, 1 DDR5 channel, 3 Armature (R402, R382). -/
def State.railFault (s : State) (kind i : Nat) (units : List (Nat × Nat)) : State :=
  match kind with
  | 0 => if s.domainOn 0 i then (s.raise A.pw PW_EVENT_FLAGS 3).railFence i units else s
  | 1 => if s.domainOn 1 i then s.ddrRailLost i units else s
  | 3 => if s.mode = 0 ∨ s.mode = 11 then s else (s.raise A.pw PW_EVENT_FLAGS 3).enterHalt 6
  | _ => s

/-- RAIL_FAULT. -/
def execRailFault (kind i : Nat) (units : List (Nat × Nat)) (s : State) : Host.Outcome State Fault Refusal :=
  .next (s.railFault kind i units)

/-- VAUX_OUT_OF_RANGE is treated as the assertion of RESET_N (R402). -/
def execVauxOutOfRange (s : State) : Host.Outcome State Fault Refusal :=
  .next ((if s.mode = 0 then s else s.enterReset 10).put A.pw PW_STATUS_VAUX_OK 0)

/-! ## Bank groups (R404) -/

/-- STATUS of PW_DOMAIN_CMD. -/
def State.domainStatus (s : State) (st : Nat) : State := s.put A.pw PW_DOMAIN_CMD_STATUS st

/-- Bank group `b` may hold a cell in use: the allotments that reach into it have cells in use, or the shared pool does
(log entry 62). -/
def State.groupInUse (s : State) (b : Nat) : Bool :=
  s.image.parts.any (fun p =>
    (decide (0 < inGroupCells b p.base (p.base + p.launch)) && s.get (A.hmp p.lane) HM_PART_USE_LAUNCH_USED != 0) ||
      (decide (0 < inGroupCells b (p.base + p.launch) (p.base + p.launch + p.relay)) &&
        s.get (A.hmp p.lane) HM_PART_USE_RELAY_USED != 0)) ||
    (s.image.groupShared b != 0 && s.sharedUsed != 0)

/-- Bank group `b` holds a partition of a slice that is SERVING, DRAINING or BUILDING. -/
def State.groupServes (s : State) (b : Nat) : Bool :=
  (List.range 8).any (fun n => s.groupOfSlice b n && [0, 1, 3].contains (s.sliceState n))

/-- PW_DOMAIN_CMD OFF of bank group `b`. -/
def State.domainOff (s : State) (b : Nat) : State :=
  if 16 ≤ b ∨ s.groupInUse b ∨ s.groupServes b then s.domainStatus stBadValue
  else if s.domainOn 2 b then (s.domainStatus stOK).requestDown 2 b false
  else s.domainStatus stNOP

/-- DOMAIN_OFF. -/
def execDomainOff (b : Nat) (s : State) : Host.Outcome State Fault Refusal := .next (s.domainOff b)

/-- PW_DOMAIN_CMD ON of bank group `b`. -/
def State.domainRaise (s : State) (b : Nat) : State :=
  if 16 ≤ b then s.domainStatus stBadValue
  else
    let up := s.domainOn 2 b && !s.domainDown 2 b
    let s := { s with drains := s.drains.filter (fun (d : Drain) => d.kind != 2 || d.index != b) }
    let s := s.putBit A.dm DM_POWER_CALDERA_BANKS b false
    if up then s.domainStatus stNOP else (s.setBank b true).domainStatus stOK

/-- DOMAIN_ON. -/
def execDomainOn (b : Nat) (s : State) : Host.Outcome State Fault Refusal := .next (s.domainRaise b)

/-! ## Capping (R406, R414) -/

/-- Show the highest step that LIMIT_W or the thermal cap asks for. -/
def State.showCap (s : State) : State :=
  let n := if s.power.cap then 4 else s.power.limitStep
  let s := if s.get A.pw PW_CAP_STATUS_STEP = 0 ∧ n ≠ 0 then s.bump A.pw PW_CNT_CAP_COUNT else s
  (s.put A.pw PW_CAP_STATUS_STEP n).fwPause

/-- Capping steps after a millisecond of `w` watts under limit `m`, with the milliseconds below 97 %. -/
def capStep (m w step low : Nat) : Nat × Nat :=
  if m = 0 then (0, 0)
  else if m < w then (min 4 (step + 1), 0)
  else if w * 100 < m * 97 then (if 100 ≤ low + 1 then (step - 1, 0) else (step, low + 1))
  else (step, 0)

/-- CAP_EVALUATE: a millisecond ends in which the input power averaged `w` watts. -/
def State.capEvaluate (s : State) (w : Nat) : State :=
  let m := s.get A.pw PW_CAP_LIMIT_W
  let x := capStep m w s.power.limitStep s.power.low
  let full := if m ≠ 0 ∧ m < w ∧ s.power.limitStep = 4 then s.power.full + 1 else 0
  let s := { s with power := { s.power with limitStep := x.1, low := x.2, full := full } }.showCap
  let s := if s.get A.pw PW_CAP_STATUS_STEP = 0 then s
    else s.put A.pw PW_CAP_STATUS_TIME_MS (min (s.get A.pw PW_CAP_STATUS_TIME_MS + 1) (2 ^ 32 - 1))
  if full = 1000 then (s.raise A.pw PW_EVENT_FLAGS 0).reportOther 9 objNone 0 0 else s

/-- CAP_EVALUATE; in Reset nothing is capped. -/
def execCapEvaluate (w : Nat) (s : State) : Host.Outcome State Fault Refusal :=
  .next (if s.mode = 0 then s else s.capEvaluate w)

/-! ## Temperatures (R408) -/

/-- Store the temperatures of the dies in 1/16 °C. -/
def State.storeTemps : State → Nat → List Int → State
  | s, _, [] => s
  | s, d, t :: ts =>
    let s := s.putI A.pw (PW_TJ_NOW d) t
    let s := if s.getI A.pw (PW_TJ_MAX d) < t then s.putI A.pw (PW_TJ_MAX d) t else s
    s.storeTemps (d + 1) ts

/-- The thermal warning: from WARN_C up, until 3 °C below it. -/
def State.thermalWarn (s : State) (t : Int) : State :=
  let w : Int := s.get A.pw PW_THERM_WARN_C
  if !s.power.warn && decide (w * 16 ≤ t) then
    let s := { s with power := { s.power with warn := true, temp := s.power.temp ||| 2 ^ 6 } }
    ((s.raise A.pw PW_EVENT_FLAGS 1).latchWord (2 ^ 2)).reportOther 9 objNone 0 0
  else if s.power.warn && decide (t < (w - 3) * 16) then { s with power := { s.power with warn := false } }
  else s

/-- The thermal cap: from 105 °C up, until below 102 °C. -/
def State.thermalCap (s : State) (t : Int) : State :=
  if !s.power.cap && decide (1680 ≤ t) then
    ({ s with power := { s.power with cap := true } }.raise A.pw PW_EVENT_FLAGS 2).showCap
  else if s.power.cap && decide (t < 1632) then { s with power := { s.power with cap := false } }.showCap
  else s

/-- Thermal shutdown after 1 ms at 115 °C or more. -/
def State.thermalShut (s : State) (t : Int) : State :=
  if t < 1840 then { s with power := { s.power with hotAt := none } }
  else match s.power.hotAt with
    | none => { s with power := { s.power with hotAt := some s.time.clk } }
    | some k =>
      if s.since k < 1000000 ∨ s.mode = 11 then s
      else
        let s := { s with power := { s.power with temp := s.power.temp ||| 2 ^ 7 } }.latchWord (2 ^ 2)
        (s.powerOffSlices.enterHalt 9).put A.pw PW_STATUS_THERM 3

/-- PW_STATUS.THERM; a shutdown stays shown. -/
def State.showTherm (s : State) : State :=
  if s.get A.pw PW_STATUS_THERM = 3 then s
  else s.put A.pw PW_STATUS_THERM (if s.power.cap then 2 else if s.power.warn then 1 else 0)

/-- TEMPERATURE_READ: the hottest sensor of each die, by die (R408). -/
def State.temperatureRead (s : State) (ts : List Int) : State :=
  match ts with
  | [] => s
  | t0 :: rest =>
    let t := rest.foldl max t0
    let s := s.storeTemps 0 (ts.take 10)
    let s := { s with power := { s.power with tjSum := s.power.tjSum + t, tjN := s.power.tjN + 1 } }
    if s.mode = 0 then s
    else (((s.thermalWarn t).thermalCap t).showTherm).thermalShut t

/-- TEMPERATURE_READ. -/
def execTemperatureRead (ts : List Int) (s : State) : Host.Outcome State Fault Refusal := .next (s.temperatureRead ts)

/-! ## Telemetry (R410, R275) -/

/-- Sum of a per-port counter over the configured ports. -/
def State.portSum (s : State) (f : State → Nat → Nat) : Nat := (s.image.ports.map (fun p => f s p.lane)).sum

/-- Highest temperature of a die now. -/
def State.tjMax (s : State) : Int := (List.range 10).foldl (fun m d => max m (s.getI A.pw (PW_TJ_NOW d))) (s.getI A.pw (PW_TJ_NOW 0))

/-- FLAGS of a health record. -/
def State.healthFlags (s : State) : Nat :=
  bit (s.role == 1) + 2 * bit s.synced + 4 * bit s.clean + 8 * bit (s.pair.mismatches != 0) +
    16 * bit (s.on A.tb TB_STATUS_XCHK_FAIL) + 32 * bit s.heard

/-- The health record of this millisecond: its 64 bytes (R275). -/
def State.healthBytes (s : State) (missed late : Nat) : Bytes :=
  let set := fun (n : Nat) (p : Nat → Bool) => (List.range n).foldl (fun m k => m + bit (p k) * 2 ^ k) 0
  closeCrc (be 1 1 ++ be 1 3 ++ be 1 s.role ++ be 1 s.mode ++ be 4 s.pair.healthSeq ++ be 8 s.image.clockId ++
    be 12 (stampBits s.nowQ) ++ be 2 s.effClaim ++ be 2 s.penalty ++ be 4 s.activeItems ++ be 1 s.servoState ++
    be 1 (set 8 (fun n => s.isSlice n && s.sliceServes n)) ++ be 2 (set 16 s.ddrUp) ++
    be 4 ((s.pair.compared.getD 0) % 2 ^ 32) ++ be 2 s.healthFlags ++ be 2 (toTwos 16 s.tjMax) ++
    be 2 (s.get A.pw PW_INPUT_POWER_W) ++
    be 2 (s.image.ports.filter (fun p => !s.isPairLink p.lane && s.linkUp p.lane)).length ++ be 4 missed ++ be 4 late)

/-- HEALTH_RECORD: to UP_HEALTH_W, to the partner on a pair link and to the host as an event. -/
def State.sendHealth (s : State) : State :=
  let m := s.portSum (fun s l => s.get (A.lnp l) LN_MISSED_COUNT)
  let k := s.portSum (fun s l => s.get (A.lnp l) LN_LATE_COUNT)
  let b := s.healthBytes (m - s.pair.missed0) (k - s.pair.late0)
  let s := { s with pair := { s.pair with healthSeq := (s.pair.healthSeq + 1) % 2 ^ 32, missed0 := m, late0 := k } }
  let s := (List.range 8).foldl (fun s k => s.put A.up (UP_HEALTH_W_WORD k) (rd b (8 * k) 8)) s
  let s := if s.pairRuns then s.sendPair s.stateLink b .none else s
  s.formEvent 4 b

/-- The power manager's measurements of a millisecond: mV, 10 mA, W and mV (R410). -/
def State.measure (s : State) (vin iin power vaux : Nat) : State :=
  let b := A.pw
  let s := ((s.put b PW_INPUT_VIN_MV vin).put b PW_INPUT_IIN_10MA iin).put b PW_INPUT_POWER_W power
  (s.put b PW_INPUT_VAUX_MV vaux).inc b PW_ENERGY_MJ power

/-- TELEMETRY: measurements, and, where Fumarole runs, the health record; the pass took `us` microseconds. -/
def execTelemetry (vin iin power vaux us : Nat) (s : State) : Host.Outcome State Fault Refusal :=
  .next ((s.measure vin iin power vaux).pass 9 us (fun s => (0, s.sendHealth)))

/-! ## Ageing and life (R412, R413) -/

/-- The die keeps its core rail: its slice is not fenced, and the module is not in Park, but for Armature. -/
def State.dieRuns (s : State) (d : Nat) : Bool :=
  d == 9 || (s.mode != 9 && (d == 8 || (!s.sliceFenced d && (s.get A.pw PW_DOMAIN_SLICES).testBit d)))

/-- The monitor of die `d` shows `ppm` of slow-down since manufacture: 5 mV more above 500 ppm since the last correction,
up to 60 mV. -/
def State.ageDie (s : State) (d ppm : Nat) : State :=
  let b := A.pw
  let was := s.get b (PW_AGING_SINCE_STEP_PPM d)
  let since := ppm - (s.get b (PW_AGING_SLOW_PPM d) - was)
  let s := (s.put b (PW_AGING_SLOW_PPM d) ppm).put b (PW_AGING_SINCE_STEP_PPM d) since
  if since ≤ 500 then s
  else if s.get b (PW_AVS_AGING_MV d) + 5 ≤ 60 then
    let s := (s.put b (PW_AVS_AGING_MV d) (s.get b (PW_AVS_AGING_MV d) + 5)).put b (PW_AGING_SINCE_STEP_PPM d) 0
    if s.dieRuns d then s.applyAging d
    else { s with power := { s.power with agingDue := s.power.agingDue.filter (· != d) ++ [d] } }
  else if was ≤ 500 then (s.raise b PW_EVENT_FLAGS 4).reportOther 9 objNone 0 0
  else s

/-- The largest `x` below `hi` with x^160 ≤ 2^e, found by halving `[lo, hi)` `n` times. -/
def root160 (e : Nat) : Nat → Nat → Nat → Nat
  | 0, lo, _ => lo
  | n + 1, lo, hi =>
    let m := (lo + hi) / 2
    if m ^ 160 ≤ 2 ^ e then root160 e n m hi else root160 e n lo m

/-- Equivalent hours in 2^-16 h of an hour at a mean Tj of `t` (1/16 °C): 2^((T − 95) / 10), cut to that unit. -/
def lifeOf (t : Int) : Nat := root160 (16 * 160 + (t - 1520)).toNat 40 0 (2 ^ 40)

/-- A powered hour ends (R413). -/
def State.addHour (s : State) : State :=
  let b := A.pw
  let h := s.get b PW_LIFE_HOURS
  let avg := s.getI b PW_LIFE_TAVG_TJ
  let t := if s.power.tjN = 0 then avg else s.power.tjSum / (s.power.tjN : Int)
  let life := s.mram.life + lifeOf t
  let s := { s with mram := { s.mram with life := life }, power := { s.power with tjSum := 0, tjN := 0 } }
  let s := (s.put b PW_LIFE_HOURS (h + 1)).put b PW_LIFE_EQ_HOURS (life / 65536)
  s.putI b PW_LIFE_TAVG_TJ ((avg * h + t) / (h + 1))

/-- AGING: an hour of power ends, and task 11 reads the monitors: `slow` gives die and slow-down since manufacture in ppm;
the pass took `us` microseconds. -/
def execAging (slow : List (Nat × Nat)) (us : Nat) (s : State) : Host.Outcome State Fault Refusal :=
  .next (s.addHour.pass 11 us (fun s =>
    (0, (slow.filter (fun e => decide (e.1 < 10))).foldl (fun s e => s.ageDie e.1 e.2) s)))

end Sys2Proof.Machine
end

