-- ==== Sys2Proof/Machine/Contacts.lean ====
section
/-!
DEFINITION. RESET_N, the PMBus, the test access port, and the levels of single contacts (spec/18_contacts_electrical.md
R432–R435, R444, R447; spec/16_power.md R411).
-/

namespace Sys2Proof.Machine

/-! ## RESET_N (R432, R447) -/

/-- RESET_N_ASSERT: a low level that is recognised. -/
def execResetNAssert (s : State) : Host.Outcome State Fault Refusal :=
  .next (let t := if s.mode = 0 then s else s.enterReset 10
    { t with contacts := { t.contacts with resetN := false } })

/-- The instruction in the test access port drives the contacts. -/
def State.tapDrives (s : State) : Bool := decide (3 ≤ s.contacts.tap)

/-- RESET_N_RELEASE; while a test instruction is loaded, Reset is held (R447). -/
def execResetNRelease (s : State) : Host.Outcome State Fault Refusal :=
  .next { s with contacts := { s.contacts with resetN := true, held := s.contacts.held || (s.mode == 0 && s.tapDrives) } }

/-! ## PMBus (R411) -/

/-- Answer on the PMBus while VAUX is in range. -/
def State.pmbus (s : State) (b : Bytes) : State := if s.on A.pw PW_STATUS_VAUX_OK then s.emit (.pmbus b) else s

/-- STATUS_WORD: latched bits, OFF in modes 0 and 11, IOUT/POUT while capping is in force. -/
def State.statusWord (s : State) : Nat :=
  s.power.word ||| (if s.mode = 0 ∨ s.mode = 11 then 2 ^ 6 else 0) |||
    (if s.get A.pw PW_CAP_STATUS_STEP = 0 then 0 else 2 ^ 14)

/-- CLEAR_FAULTS: what latched is cleared, but for conditions that last. -/
def State.clearFaults (s : State) : State :=
  let hot := s.get A.pw PW_STATUS_THERM == 3
  let temp := (if s.power.warn then 2 ^ 6 else 0) + (if hot then 2 ^ 7 else 0)
  let word := (if temp = 0 then 0 else 2 ^ 2) + (if s.on A.pw PW_STATUS_VIN_OK then 0 else s.power.word &&& (2 ^ 3 + 2 ^ 13))
  { s with power := { s.power with word := word, temp := temp } }

/-- CLEAR_FAULTS. -/
def execClearFaults (s : State) : Host.Outcome State Fault Refusal :=
  .next (if s.on A.pw PW_STATUS_VAUX_OK then s.clearFaults else s)

/-- STATUS_WORD. -/
def execStatusWord (s : State) : Host.Outcome State Fault Refusal := .next (s.pmbus (le 2 s.statusWord))

/-- STATUS_TEMPERATURE. -/
def execStatusTemperature (s : State) : Host.Outcome State Fault Refusal := .next (s.pmbus (le 1 s.power.temp))

/-- The rational `n / d` in LINEAR11, cut toward zero, with the smallest of the exponents from `e` up in `k` steps whose
mantissa fits (log entry 63). -/
def linear11 (n : Int) (d : Nat) : Nat → Int → Nat
  | 0, _ => 0
  | k + 1, e =>
    let m : Int := if 0 ≤ e then n.tdiv (d * 2 ^ e.toNat : Nat) else (n * (2 ^ (-e).toNat : Nat)).tdiv (d : Int)
    if m.natAbs ≤ 1023 then toTwos 5 e * 2048 + toTwos 11 m else linear11 n d k (e + 1)

/-- A measured value of `n / d` units in LINEAR11. -/
def State.pmbusValue (s : State) (n : Int) (d : Nat) : State := s.pmbus (le 2 (linear11 n d 32 (-16)))

/-- READ_VIN, V. -/
def execReadVin (s : State) : Host.Outcome State Fault Refusal := .next (s.pmbusValue (s.get A.pw PW_INPUT_VIN_MV) 1000)

/-- READ_IIN, A. -/
def execReadIin (s : State) : Host.Outcome State Fault Refusal := .next (s.pmbusValue (s.get A.pw PW_INPUT_IIN_10MA) 100)

/-- READ_TEMPERATURE_1: the hottest Tj, °C. -/
def execReadTemperature1 (s : State) : Host.Outcome State Fault Refusal := .next (s.pmbusValue s.tjMax 16)

/-- READ_PIN, W. -/
def execReadPin (s : State) : Host.Outcome State Fault Refusal := .next (s.pmbusValue (s.get A.pw PW_INPUT_POWER_W) 1)

/-- PMBUS_REVISION. -/
def execPmbusRevision (s : State) : Host.Outcome State Fault Refusal := .next (s.pmbus [0x33])

/-- MFR_ID: "LAMB", as a block (log entry 63). -/
def execMfrId (s : State) : Host.Outcome State Fault Refusal := .next (s.pmbus [4, 0x4C, 0x41, 0x4D, 0x42])

/-- MFR_MODEL: "SND-2048", as a block. -/
def execMfrModel (s : State) : Host.Outcome State Fault Refusal :=
  .next (s.pmbus [8, 0x53, 0x4E, 0x44, 0x2D, 0x32, 0x30, 0x34, 0x38])

/-- Any other command: no data, CML. -/
def execPmbusUnsupported (s : State) : Host.Outcome State Fault Refusal :=
  .next (if s.on A.pw PW_STATUS_VAUX_OK then s.latchWord (2 ^ 1) else s)

/-! ## Test access port (R444, R447) -/

/-- The port runs: VAUX and VIN in range, rails good. -/
def State.tapRuns (s : State) : Bool :=
  s.on A.pw PW_STATUS_VAUX_OK && s.on A.pw PW_STATUS_VIN_OK && s.on A.pw PW_STATUS_RAILS_GOOD

/-- Load instruction `i` and shift out the register it selects: `v`. -/
def State.tapLoad (s : State) (i v : Nat) : State :=
  if s.tapRuns then { s with contacts := { s.contacts with tap := i } }.emit (.tap i v) else s

/-- BYPASS: the bypass register captures 0. -/
def execBypass (s : State) : Host.Outcome State Fault Refusal := .next (s.tapLoad 0 0)

/-- IDCODE. -/
def execIdcode (s : State) : Host.Outcome State Fault Refusal := .next (s.tapLoad 1 0x1204894F)

/-- SAMPLE/PRELOAD: what the boundary register captures is a free value. -/
def execSamplePreload (s : State) : Host.Outcome State Fault Refusal :=
  .next (let r := s.fresh
    r.2.tapLoad 2 r.1.toNat)

/-- A test instruction: BYPASS while RESET_N is high; else `i`, with the bypass register for CLAMP and HIGHZ and a free
value of the boundary register for the others. -/
def State.tapTest (s : State) (i : Nat) : State :=
  if s.contacts.resetN then s.tapLoad 0 0
  else if i = 4 ∨ i = 5 then s.tapLoad i 0
  else
    let r := s.fresh
    r.2.tapLoad i r.1.toNat

/-- EXTEST. -/
def execExtest (s : State) : Host.Outcome State Fault Refusal := .next (s.tapTest 3)

/-- CLAMP. -/
def execClamp (s : State) : Host.Outcome State Fault Refusal := .next (s.tapTest 4)

/-- HIGHZ. -/
def execHighz (s : State) : Host.Outcome State Fault Refusal := .next (s.tapTest 5)

/-- EXTEST_PULSE. -/
def execExtestPulse (s : State) : Host.Outcome State Fault Refusal := .next (s.tapTest 6)

/-- EXTEST_TRAIN. -/
def execExtestTrain (s : State) : Host.Outcome State Fault Refusal := .next (s.tapTest 7)

/-- TAP_TEST_LOGIC_RESET: IDCODE is the instruction, and a held Reset may end. -/
def execTapTestLogicReset (s : State) : Host.Outcome State Fault Refusal :=
  .next { s with contacts := { s.contacts with tap := 1, held := false } }

/-! ## Levels (R435) -/

/-- State of an output contact. -/
inductive Level where
  | low | high | highZ | boundary
  deriving DecidableEq, Repr

/-- A contact under the test access port: the boundary register drives it, or HIGHZ; else its level in operation. -/
def State.contact (s : State) (x : Level) : Level :=
  if s.contacts.tap = 5 then .highZ else if s.tapDrives then .boundary else x

/-- HALT_N. -/
def State.haltN (s : State) : Level :=
  s.contact (if s.mode = 0 ∨ s.mode = 11 ∨ !s.on A.pw PW_STATUS_RAILS_GOOD then .low else .highZ)

/-- PMB_ALERT_N. -/
def State.pmbAlertN (s : State) : Level :=
  s.contact (if s.on A.pw PW_STATUS_RAILS_GOOD ∧ s.statusWord ≠ 0 then .low else .highZ)

/-- DDRc_RESET_N. -/
def State.ddrResetN (s : State) (c : Nat) : Level :=
  s.contact (if decide (5 ≤ s.mode) && s.ddrUp c then .high else .low)

/-- FL_RESET_N. -/
def State.flResetN (s : State) : Level :=
  s.contact (if !s.on A.pw PW_STATUS_RAILS_GOOD then .highZ else if s.mode = 0 then .low else .high)

/-- The transmitters of port `l` are electrically idle: in Reset and Halt, and while its slice is off. -/
def State.txIdle (s : State) (l : Nat) : Bool :=
  s.mode == 0 || s.mode == 11 || !(s.get A.pw PW_DOMAIN_SLICES).testBit (sliceOf l)

end Sys2Proof.Machine
end

