-- ==== Sys2Proof/Machine/View.lean ====
section
/-!
DEFINITION. What a register read returns: which instances exist, the access codes, the fields that are computed from the
rest of the state, the windows, and the reads that have a side effect (spec/01_module.md R7–R9,
spec/19_register_map.md R450, R455, and the field tables of the chapters).
-/

namespace Sys2Proof.Machine

/-- Module-wide lane of a slice block's instance indices. -/
def laneIdx (idx : List Nat) : Nat := idx.getD 0 0 * 64 + idx.getD 1 0

/-- The instance that a register belongs to exists: a port's registers at its first lane only, cells that the image
defines, and tables and windows once an image is loaded (R7, R455). -/
def State.exists? (s : State) (f : Found) : Bool :=
  let i := f.idx.getD 0 0
  match f.kind with
  | .plain => true
  | .pin => true
  | .tbPort => s.isPort i
  | .scCell => decide (i < s.get A.sc SC_INFO_CELLS)
  | .port => s.isPort (laneIdx f.idx)
  | .portM => s.isPort i
  | .clCell => decide (f.idx.getD 1 0 < s.get A.sc SC_INFO_CELLS) && s.isHome i (f.idx.getD 1 0)
  | .gdPort => match s.port? (laneIdx f.idx) with
    | some p => p.cellPort
    | none => false
  | .profile => decide (1 ≤ i)
  | .loaded => s.image.loaded
  | .table => s.image.loaded

/-- A register word with field `f` set to `v`. -/
def setF (w : Nat) (f : Fld) (v : Nat) : Nat := withBits w f.hi f.lo v

/-- Low `n` bits of a signed number. -/
def lowBits (n : Nat) (i : Int) : Nat := toTwos n i

/-- Sampling load of slice `n` in records per ms (R182). -/
def State.qsLoad (s : State) (n : Nat) : Nat :=
  s.image.ports.foldl (fun t p =>
    if sliceOf p.lane = n ∧ s.on (A.shp p.lane) SH_PORT_CTRL_QS_EN then
      t + ((List.range 8).filter (s.get (A.shp p.lane) SH_PORT_CTRL_QS_CLASSES).testBit).length * 1000 /
        max 1 (s.get (A.shp p.lane) SH_PORT_CTRL_QS_PERIOD_US)
    else t) 0

/-- Sync intervals left of a SUSPECT input (R40). -/
def State.suspectLeft (s : State) (i : Nat) : Nat :=
  if s.get (A.tbp i) TB_PORT_STATUS_INPUT_STATE = 2 then 16 - s.since (s.input i).suspectAt / max 1 (s.inputNs i) else 0

/-- The basic cycle in force of cell `c`. -/
def State.basicNow (s : State) (c : Nat) : Nat :=
  let x := s.cell c
  match x.cycleAt with
  | some t => ((basicStarts x.oper t).filter (fun u => decide (u ≤ s.toCell c s.nowQ))).length - 1
  | none => 0

/-- The configuration of a mark in force. -/
def State.markCfg (s : State) (c m : Nat) : Nat :=
  let x := s.mark c m
  match x.next with
  | some (w, t) => if t ≤ s.toCell c s.nowQ then w else x.cfg
  | none => x.cfg

/-- Whole nanoseconds of a signed number of 2^-16 ns, as 32 bits. -/
def ns32 (i : Int) : Nat := lowBits 32 (i / 65536)

/-- Module words that are computed: block page, offset in the block, instance indices. -/
def State.moduleView (s : State) (page o : Nat) (idx : List Nat) (w : Nat) : Nat :=
  let i := idx.getD 0 0
  if page = 0x10 then
    if o < 0x10000 then w
    else if o % 0x40 = 0 then setF w TB_PORT_CTRL_DOMAIN_PHYS (s.get A.tb TB_CTRL_DOMAIN_PHYS)
    else if o % 0x40 = 0x20 then setF w TB_PORT_STATUS_SUSPECT_REMAIN (s.suspectLeft ((o - 0x10000) / 0x40))
    else w
  else if page = 0x180 then if 0x40 ≤ o ∧ o < 0xC0 ∧ !s.image.loaded then 0 else w
  else if page = 0x30 then
    if o = 0xC0 then
      let w := setF (setF w UP_STATUS_STEPPED (bit s.steppedFlag)) UP_STATUS_REVERT_PENDING (bit (s.handoverMs != 0xFFFFFFFF))
      setF (setF (setF w UP_STATUS_CLEAN (bit s.clean)) UP_STATUS_SYNCED (bit s.synced)) UP_STATUS_PARTNER_HEARD (bit s.heard)
    else if o = 0xC8 then
      setF (setF (setF w UP_CLAIM_STATUS_PENALTY s.penalty) UP_CLAIM_STATUS_DEFERENCE s.deference) UP_CLAIM_STATUS_EFF s.effClaim
    else if o = 0xD8 then s.activeItems
    else if o = 0xE0 then s.cleanMs
    else w
  else if page = 0x24 then if 0x20000 ≤ o ∧ o < 0x22000 ∧ o % 0x20 = 0x10 then s.capUsed i else w
  else if page = 0x23 then
    if o = 0x28 then
      setF (setF w JR_STATUS_DDR_DOWN (bit (s.on A.jr JR_CTRL_EN && !s.ringServed s.jrRing))) JR_STATUS_RING_FULL
        (bit (s.on A.jr JR_CTRL_EN && s.ringUsed s.jrRing == s.ringSize s.jrRing))
    else w
  else if page = 0x20 then
    if o = 8 then s.mram.bootId
    else if 0x10000 ≤ o ∧ 0x40 ≤ o % 0x100 ∧ o % 0x100 < 0xC0 ∧ o % 0x10 = 8 then
      setF w (XP_CH_ACK_BUFFERED 0) (SMap.get {} s.xp.chans (i * 8 + (o % 0x100 - 0x40) / 0x10)).buffered.length
    else w
  else if page = 0x21 then
    if 0x10000 ≤ o ∧ o % 0x80 = 8 then setF w RG_CFG_ROLE (s.ringRole i)
    else if 0x10000 ≤ o ∧ o % 0x80 = 0x28 then setF w RG_STATE_PUSH_FILL (s.ring i).push.length
    else w
  else if page = 0x22 then
    if o = 0x10 then setF w DM_POWER_DRAINING (bit (!s.drains.isEmpty))
    else if 0x10000 ≤ o ∧ o % 0x10000 = 8 then setF w DM_ENG_STATUS_LOADED (s.chansIn i 1).length
    else if 0x10000 ≤ o ∧ o % 0x10000 = 0x10 then (s.chansIn i 2).length
    else if 0x1000 ≤ o % 0x10000 ∧ o % 0x100 = 0 then
      match s.boundRing i (idx.getD 1 0) with
      | some r => setF (setF w DM_CH_CTRL_BOUND 1) DM_CH_CTRL_RING r
      | none => w
    else w
  else if page = 0x02 then
    if o = 0xD0 then s.tests.queue.length * 256 + s.tests.running.length else w
  else if page = 0x04 then
    if 0x100 ≤ o ∧ o % 0x20 = 0 then setF w BG_TASK_CTRL_MANDATORY (bit (mandatory ((o - 0x100) / 0x20))) else w
  else if page = 0x00 then
    if !s.on A.sy SY_AMAP_LOCK_LOCKED then w
    else if o = 0x30 then s.image.amap.length
    else if 0x1000 ≤ o then
      match s.image.amap[(o - 0x1000) / 0x10]? with
      | some r => if o % 0x10 = 0 then r.word0 else r.word1
      | none => 0
    else w
  else w

/-- Slice words that are computed: slice, block number, offset in the block, instance indices. -/
def State.sliceView (s : State) (n blk o : Nat) (idx : List Nat) (w : Nat) : Nat :=
  let l := laneIdx idx
  let k := idx.getD 2 0
  if blk = 4 then
    if 0x10000 ≤ o ∧ o % 0x100 = 0x10 then
      setF (setF w LN_PORT_STATUS_STAGED ((s.portLaunches l).filter (·.staged.isSome)).length) LN_PORT_STATUS_SHADOW_OPEN
        (bit (s.inShadow l s.nowQ))
    else w
  else if blk = 5 then
    if o < 0x10000 then w
    else if o % 0x200 = 0x70 then s.gateData l
    else if 0x100 ≤ o % 0x200 ∧ o % 0x20 = 0x10 then if s.portRate l = 0 then 0 else s.guardNs l k
    else w
  else if blk = 7 then
    if o = 8 then s.qsLoad n
    else if 0x10000 ≤ o ∧ 0x100 ≤ o % 0x1000 ∧ o % 0x1000 < 0x300 then
      if o % 0x40 = 0x10 then lowBits 64 (s.creditNow l k / 65536000)
      else if o % 0x40 = 0x20 then setF (setF w (SH_CLASS_DEPTH_CELLS) (s.classCells l k)) SH_CLASS_DEPTH_FRAMES
        (min 65535 (s.classFrames l k).length)
      else if o % 0x40 = 0x28 then min (2 ^ 32 - 1) (s.headDelay l k)
      else w
    else w
  else if blk = 8 then
    if o = 0x10 then (s.mxWindow n).1
    else if o = 0x20 then (s.mxWindow n).2
    else if o = 0x30 then s.mxCyc n
    else if o = 0x40 then s.mxHdr n
    else if o = 0x80 then s.markCfg (s.get (A.cl n) CL_MARK_SEL_CELL) (s.get (A.cl n) CL_MARK_SEL_MARK)
    else if o = 0x88 then
      setF w CL_MARK_STATUS_FIRED (s.mark (s.get (A.cl n) CL_MARK_SEL_CELL) (s.get (A.cl n) CL_MARK_SEL_MARK)).fired
    else if o = 0x98 then
      (s.word (A.tnode (s.get (A.cl n) CL_NODE_SEL_NODE) + 0x98)).toNat / 2 ^ 32 * 2 ^ 32 + s.get (A.cl n) CL_NODE_CFG_STATUS
    else if 0x10000 ≤ o ∧ o % 0x100 = 0x48 then setF w CL_STATUS_BASIC_CYCLE (s.basicNow (idx.getD 1 0))
    else w
  else if blk = 9 then
    let d := s.get (A.gd n) GD_NODE_SEL_NODE
    let ch := s.get (A.gd n) GD_NODE_SEL_CHANNEL
    let cfg := A.tnode d
    let here := s.on cfg CL_NODE_CFG_VALID && (if ch = 0 then s.on cfg CL_NODE_CFG_A_EN && sliceOf (s.get cfg CL_NODE_CFG_PORT_A) == n
      else s.on cfg CL_NODE_CFG_B_EN && sliceOf (s.get cfg CL_NODE_CFG_PORT_B) == n)
    let x := s.drift d ch
    if o = 8 then if here then ns32 x.mean * 2 ^ 32 + ns32 x.last else 0
    else if o = 0x10 then
      if here then x.count % 2 ^ 32 * 2 ^ 32 + 2 ^ 16 + x.samples.length * 256 + bit x.warnSeen * 2 + bit x.warn else 0
    else if o = 0x18 then if here then ns32 (x.low.getD 0) * 2 ^ 32 + ns32 (x.high.getD 0) else 0
    else w
  else if blk = 3 then
    if o = 0x40 then setF w ST_RESULT_STAGED s.batch.length
    else if o = 0x260 then s.sgData n
    else if 0x208 ≤ o ∧ o < 0x2A0 then
      let g := A.tsgate n (s.get (A.st n) ST_SG_SEL_GATE)
      (s.word (g + o)).toNat
    else w
  else if blk = 12 then
    if o = 0 then setF w FI_INFO_ACTIVE (bit s.injectionOn)
    else if o < 0x10000 ∨ s.injectionOn then w else 0
  else w

/-- The home slice of the cell whose register `f` finds in slice `i`, where the cell has ports on that slice too: the slice
shows the home slice's copy (R192; DEDUCED, log entry 91). -/
def State.copyHome (s : State) (f : Found) : Option Nat :=
  let i := f.idx.getD 0 0
  let c := f.idx.getD 1 0
  if f.kind = .clCell ∧ c < s.get A.sc SC_INFO_CELLS ∧ (s.cellPorts c).any (fun p => sliceOf p.lane == i) then s.homeSlice c
  else none

/-- A read of this register's instance shows a value: it exists, or it is another slice's copy of a cell register. -/
def State.readable (s : State) (f : Found) : Bool := s.exists? f || (s.copyHome f).isSome

/-- The value in force of the register that `f` finds at address `a`: absent instances and write-only bits read 0 (R8,
R450, R455). A copy is read in the cell's home slice. -/
def State.viewReg (s : State) (f : Found) (a : Nat) : Nat :=
  if !s.readable f then 0
  else
    let h := (s.copyHome f).getD 0
    let (f, a) := if s.exists? f then (f, a) else ({ f with idx := h :: f.idx.drop 1 }, a - (f.idx.getD 0 0 - h) * 0x1000000)
    let w := (s.word a).toNat
    let w := w - Nat.land w f.reg.wo
    match sliceOfAddr a with
    | some n => s.sliceView n (a / 0x100000 % 16) (a % 0x100000) f.idx w
    | none => s.moduleView (a / 0x100000) (a % 0x100000) f.idx w

/-- What a read of the register word at `a` returns: a value, the complement of the value below it (R9), or 0. -/
def State.shown (s : State) (a : Nat) : Nat :=
  match findReg a with
  | some f => s.viewReg f a
  | none =>
    match (if 8 ≤ a then findReg (a - 8) else none) with
    | some f => if f.reg.rwp ≠ 0 ∧ s.readable f then 2 ^ 64 - 1 - s.viewReg f (a - 8) else 0
    | none => 0

/-- The state after a read of the register at `a`: stamps latch, capture queues advance, and windows advance under AUTO_INC;
a read of a complement has no side effect (R9, R31, R55, R145, R187, R242). -/
def State.readEffect (s : State) (a : Nat) : State :=
  match findReg a with
  | none => s
  | some f =>
    if !s.readable f then s
    else
      let i := f.idx.getD 0 0
      let o := a % 0x100000
      match sliceOfAddr a with
      | some n =>
        let blk := a / 0x100000 % 16
        if blk = 5 ∧ 0x10000 ≤ o ∧ o % 0x200 = 0x70 then s.gateNext (laneIdx f.idx)
        else if blk = 3 ∧ o = 0x260 then s.sgNext n
        else if blk = 8 ∧ o = 0x20 then s.mxNext n
        else s
      | none =>
        if a = A.tb + 0x10 then s.tbNowRead
        else if f.kind = .pin ∧ o % 0x40 = 0x30 then s.tpCapRead i
        else if f.kind = .scCell ∧ o % 0x800 = 0x18 ∧ 0x10000 ≤ o then s.scNowRead i
        else s

/-- Read the register word at `a`. A stamp's second word is the one latched with its first: the value returned is the one
after the latch. -/
def State.readReg (s : State) (a : Nat) : Nat × State :=
  let t := s.readEffect a
  let latched : Bool := match findReg a with
    | some f => a == A.tb + 0x10 || f.kind == .pin || f.kind == .scCell
    | none => false
  ((if latched then t.shown a else s.shown a), t)

end Sys2Proof.Machine
end

