-- ==== Sys2Proof/Machine/Boot.lean ====
section
/-!
DEFINITION. The end of Reset, the sources of an image, VERIFY and LOAD, the security version and the anchors
(spec/14_image_boot.md R366, R367, R369–R373, R380; spec/15_modes_inservice.md R382, R387, R391; spec/16_power.md R401;
spec/11_control_rings.md R304, R305).
-/

namespace Sys2Proof.Machine

/-! ## The end of Reset (R304, R305, R371, R401) -/

/-- The register that shows key slot `q` (R302, R304). -/
def State.showKey (s : State) (q : Nat) : State :=
  let k := s.keySlot q
  let on := fun (g : KeyGen) => !g.key.isEmpty
  let s := s.put (A.xps q) XP_SLOT_STATUS_KEYED (bit (on (if k.gen = 0 then k.k0 else k.k1)))
  let s := s.put (A.xps q) XP_SLOT_STATUS_GEN k.gen
  s.put (A.xps q) XP_SLOT_STATUS_NEXT_KEY (bit (on (if k.gen = 0 then k.k1 else k.k0)))

/-- The boot ROM waits for an image from the control port, or has the flash slot read. -/
def State.phase (s : State) (p : Nat) : State := s.put A.sy SY_BOOT_PHASE p

/-- Reset ends with `sel` on BOOT_SEL; `dimm` is the capacity of each DIMM that the carrier board holds (R440). The boot
ROM has read MRAM, installed the keys, and reads flash or waits. -/
def State.resetEnd (s : State) (sel dimm : Nat) : State :=
  if s.mode ≠ 0 ∨ !s.contacts.resetN ∨ s.contacts.held ∨ !s.on A.pw PW_STATUS_RAILS_GOOD ∨ !s.on A.pw PW_STATUS_VAUX_OK then s
  else
    let id := (s.mram.bootId + 1) % 2 ^ 32
    let s := { s with
      mram := { s.mram with bootId := if id = 0 then 1 else id }
      board := { s.board with dimmBytes := dimm }
      boot := { s.boot with endAt := s.time.clk, flash := sel % 4 != 1 } }
    let s := (List.range 8).foldl (fun s q => s.showKey q) (s.put A.sy SY_BOOT_BOOT_SEL sel)
    (s.toMode 1 1).phase (if sel % 4 = 1 then 2 else 3)

/-- RESET_END. -/
def execResetEnd (sel dimm : Nat) (s : State) : Host.Outcome State Fault Refusal := .next (s.resetEnd sel dimm)

/-! ## Verification (R369, R372) -/

/-- A verification has run: ATTEMPTS saturates, and LAST_FAIL keeps a failure until handover. -/
def State.verified (s : State) (r : Option ImageFail) : State :=
  let s := s.put A.sy SY_BOOT_ATTEMPTS (min 255 (s.get A.sy SY_BOOT_ATTEMPTS + 1))
  match r with
  | some f => if s.mode = 1 then s.put A.sy SY_BOOT_LAST_FAIL f.code else s
  | none => s

/-- Release numbers of the FIRMWARE sections of an image, by instance. -/
def releasesOf (b : Bytes) (c : Crypto) : List (Nat × Nat) :=
  (sectionTable b).zipIdx.filterMap (fun (x, i) =>
    if x.type = 0x10 then (c.releases.find? (fun r => r.1 == i)).map (fun r => (x.inst, r.2.1)) else none)

/-! ## Load (R371, R401) -/

/-- Enter Load with the FULL image `b`: the rails of the DDR5 PHYs, Caldera and the present slices come up (R401). -/
def State.beginLoad (s : State) (b : Bytes) (c : Crypto) (source : Nat) : State :=
  let im := parseImage b {}
  let l : Loading := ⟨im, rd b (imgSig b + 4) 1, releasesOf b c, c.keys⟩
  let s := { s with boot := { s.boot with flash := false, next := some l } }
  let s := (s.put A.sy SY_BOOT_SOURCE source).toMode 2 1
  let s := (s.phase 5).put A.pw PW_DOMAIN_DDR im.ddrCh
  let s := (s.put A.dm DM_POWER_SLICES 0).put A.dm DM_POWER_CALDERA_BANKS 0
  let s := (List.range 16).foldl (fun s k => s.setBank k true) (s.put A.pw PW_DOMAIN_SLICES im.slices)
  let s := (List.range 8).foldl (fun s n => s.setSlice n (if im.slices.testBit n then 3 else 6) 0) s
  s.power.agingDue.foldl (fun s d => s.applyAging d) s

/-- No image source is left for the flash attempt: the control port where BOOT_SEL allows it, else Halt (R372). -/
def State.flashFailed (s : State) : State :=
  if s.get A.sy SY_BOOT_SLOT = 0 then
    { (s.put A.sy SY_BOOT_SLOT 1).phase 3 with boot := { s.boot with flash := true } }
  else
    let s := { s with boot := { s.boot with flash := false } }
    if s.get A.sy SY_BOOT_BOOT_SEL = 0 then s.enterHalt 1 else s.phase 2

/-- The flash slot has been read: `b` are its bytes, `c` what the cryptographic units find in them. -/
def State.flashRead (s : State) (b : Bytes) (c : Crypto) : State :=
  if s.mode ≠ 1 ∨ !s.boot.flash then s
  else
    let r := s.verifyImage b c (imgKind b == 0)
    let t := s.verified r
    match r with
    | none => t.beginLoad b c 0
    | some _ => t.flashFailed

/-- FLASH_READ_COMPLETE. -/
def execFlashReadComplete (b : List Byte) (c : Crypto) (s : State) : Host.Outcome State Fault Refusal := .next (s.flashRead b c)

/-! ## The staging area (R370) -/

/-- The bytes of the staged image; its header alone where its length is out of range. -/
def State.staged (s : State) : Bytes :=
  let a := s.get A.im IM_STAGE_BASE_DA
  let n := imgLen (s.memBytes a 128)
  s.memBytes a (if n ≤ stageLen then max 128 n else 128)

/-- The staged image lies where it may, and its memory is served: control SRAM, and after Boot DDR5 too. -/
def State.stageOk (s : State) : Bool :=
  let a := s.get A.im IM_STAGE_BASE_DA
  let n := s.staged.length
  (regionOf a == .sram || (regionOf a == .ddr && s.mode != 1)) && regionOf (a + n - 1) == regionOf a && s.rangeServed a n

/-- A command of IM_CMD that is not carried out: BAD_VALUE; what runs goes on (R380). -/
def State.imRefuse (s : State) (tag : Nat) : State :=
  let s := ((s.put A.im IM_RESULT_TAG tag).inc A.im IM_RESULT_RESULT_SEQ 1).put A.im IM_RESULT_FAIL 0
  s.put A.im IM_RESULT_STATUS stBadValue

/-- A failed verification ends a command. -/
def State.imFail (s : State) (tag : Nat) (f : ImageFail) : State := s.imResult tag stBadValue f.code f.section_ f.offset

/-- VERIFY and LOAD are carried out: neither runs, the flash attempt does not run, and an image may lie where it is. -/
def State.imReady (s : State) : Bool := !s.on A.im IM_RESULT_BUSY && !s.boot.flash && s.stageOk

/-- VERIFY: checks 1–11, nothing applied. -/
def State.imVerify (s : State) (tag : Nat) (c : Crypto) : State :=
  if !s.imReady then s.imRefuse tag
  else
    let r := s.verifyImage s.staged c true
    let t := s.verified r
    match r with
    | some f => t.imFail tag f
    | none => t.imResult tag stOK 0 0xFF 0

/-- VERIFY. -/
def execVerify (tag : Nat) (c : Crypto) (s : State) : Host.Outcome State Fault Refusal := .next (s.imVerify tag c)

/-- The kind of image `b` may be loaded now: FULL in Boot, RESHAPE in Reshape onto a FENCED or FAULT slice that is powered,
FIRMWARE from Ready on (R370, R387, R391). -/
def State.loadAllowed (s : State) (b : Bytes) : Bool :=
  match imgKind b with
  | 0 => s.mode == 1
  | 1 =>
    let n := imgTarget b
    s.mode == 8 && s.isSlice n && (s.sliceState n == 2 || s.sliceState n == 5) && (s.get A.pw PW_DOMAIN_SLICES).testBit n
  | _ => decide (5 ≤ s.mode ∧ s.mode ≤ 10)

/-- The constants of a FIRMWARE image hold: complements, and every register reads as its READBACK constant says. -/
def State.constsHold (s : State) (cs : List ConstRec) : Bool :=
  cs.all (fun (c : ConstRec) => c.value + c.complement == 2 ^ 64 - 1 && c.kind == 1 && c.da % 8 == 0 && s.shown c.da == c.value)

/-- The sections of a FIRMWARE image are written into the STANDBY banks (R391, R392). -/
def State.stageFirmware (s : State) (b : Bytes) (c : Crypto) : State :=
  let new := ((ofType (sectionTable b) 0x10).map (·.inst))
  let old := if s.fwState = 1 then s.firmware.parts else []
  let s := (releasesOf b c).foldl (fun s r => s.put A.md (MD_FW_REL_STANDBY r.1) r.2) s
  let s := { s with firmware := { s.firmware with parts := (old ++ new).eraseDups, failed := false } }
  let s := ((s.put A.md MD_FW_STATUS_SLICES_NEW 0).put A.md MD_FW_STATUS_CORES_NEW 0).put A.md MD_FW_STATUS_FUMAROLE_NEW 0
  let s := s.put A.md MD_FW_STATUS_STATE 1
  if s.on A.md MD_FW_CTRL_AUTO then s.fwStart 2 false else s

/-- An image that passed checks 1–11 is loaded. -/
def State.loadVerified (s : State) (tag : Nat) (b : Bytes) (c : Crypto) : State :=
  let run := fun (s : State) => { s.put A.im IM_RESULT_BUSY 1 with boot := { s.boot with tag := tag } }
  match imgKind b with
  | 0 => (run s).beginLoad b c 1
  | 1 => (run s).startBuild (imgTarget b) (some (parseImage b s.image))
  | _ =>
    if s.constsHold ((ofType (sectionTable b) 3).flatMap (constsOf b)) then (s.imResult tag stOK 0 0xFF 0).stageFirmware b c
    else
      match sectionOf b 3 with
      | some (x, i) => s.imFail tag ⟨8, i, x.off⟩
      | none => s

/-- LOAD: checks 1–11, then the load that the image's kind asks for; no FIRMWARE image while a switch runs (R391). -/
def State.imLoad (s : State) (tag : Nat) (c : Crypto) : State :=
  if !s.imReady then s.imRefuse tag
  else
    let b := s.staged
    if imgKind b = 2 ∧ (s.fwState = 2 ∨ s.fwState = 4) then s.imRefuse tag
    else
      let r := s.verifyImage b c (s.loadAllowed b)
      let t := s.verified r
      match r with
      | some f => t.imFail tag f
      | none => t.loadVerified tag b c

/-- LOAD. -/
def execLoad (tag : Nat) (c : Crypto) (s : State) : Host.Outcome State Fault Refusal := .next (s.imLoad tag c)

/-- What the cryptographic units find in the staged image, where the command does not carry it: free values. -/
def State.freshCrypto (s : State) : Crypto × State :=
  let g := s.free
  let b := s.staged
  let x := fun (k : Nat) => (Config.freeWord (g + k)).toNat
  let idx := List.range (imgSections b)
  let records := ((ofType (sectionTable b) 5).map (·.records)).sum
  ({ image := (x 0).testBit 0
     bad := idx.filter (fun i => (x 1).testBit i)
     releases := idx.map (fun i => (i, x (3 + i), (x 2).testBit i))
     keys := (List.range records).map (fun k =>
       if (x (3 + 64 + k)).testBit 0 then some ((List.range 32).map (fun j => Config.freeByte (g + 67 + k) j)) else none) },
   { s with free := g + 67 + records })

/-- A write of IM_CMD. -/
def State.imCommand (s : State) (op tag : Nat) : State :=
  match op with
  | 1 => s.freshCrypto.2.imVerify tag s.freshCrypto.1
  | 2 => s.freshCrypto.2.imLoad tag s.freshCrypto.1
  | _ => s.imRefuse tag

/-! ## Security version and anchors (R366, R367) -/

/-- Store the result of a SECVER or ANCHOR pair. -/
def State.secStatus (s : State) (st : Nat) : State := s.put A.sy SY_SEC_STATUS_STATUS st

/-- SY_SECVER_RAISE is committed with version `v`. -/
def State.secverRaise (s : State) (v : Nat) : State :=
  if v % 2 ^ 32 < s.get A.sy SY_SECVER_MIN ∨ s.get A.im IM_HDR_SEC_VERSION < v % 2 ^ 32 then s.secStatus stBadValue
  else
    ((s.put A.sy SY_SECVER_RAISE_VERSION v).put A.sy SY_SECVER_MIN v).secStatus stOK

/-- SECVER_RAISE. -/
def execSecverRaise (v : Nat) (s : State) : Host.Outcome State Fault Refusal := .next (s.secverRaise v)

/-- SY_ANCHOR_REVOKE is committed with mask `m`. -/
def State.anchorRevoke (s : State) (m : Nat) : State :=
  let revoked := (s.get A.sy SY_ANCHOR_STATUS_REVOKED) ||| (m % 16)
  let left := (List.range 4).any (fun k => (s.get A.sy SY_ANCHOR_STATUS_PRESENT).testBit k && !revoked.testBit k)
  if !left then s.secStatus stBadValue
  else ((s.put A.sy SY_ANCHOR_REVOKE_MASK m).put A.sy SY_ANCHOR_STATUS_REVOKED revoked).secStatus stOK

/-- ANCHOR_REVOKE. -/
def execAnchorRevoke (m : Nat) (s : State) : Host.Outcome State Fault Refusal := .next (s.anchorRevoke m)

end Sys2Proof.Machine
end

