-- ==== Sys2Proof/Machine/Shadow.lean ====
section
/-!
DEFINITION. Snapshots of register words into shadow banks (spec/13_measurement.md R346, R347).
-/

namespace Sys2Proof.Machine

/-- Address of word `k` of shadow bank `b`. -/
def shadowWord (b k : Nat) : Nat := 0x3200000 + b * 0x20000 + k * 8

/-- The addresses that a snapshot with the present source and shape copies, in bank order. -/
def State.snapWords (s : State) : List Nat :=
  let da := s.get A.ms MS_SNAP_SRC_DA
  let stride := s.get A.ms MS_SNAP_SHAPE_STRIDE
  let n := s.get A.ms MS_SNAP_SHAPE_WORDS_PER
  (List.range (s.get A.ms MS_SNAP_SHAPE_INSTANCES)).flatMap (fun i => (List.range n).map (fun j => da + i * stride + j * 8))

/-- Source and shape are in range (R347). -/
def State.snapShapeOk (s : State) : Bool :=
  let stride := s.get A.ms MS_SNAP_SHAPE_STRIDE
  let n := s.get A.ms MS_SNAP_SHAPE_WORDS_PER
  let m := s.get A.ms MS_SNAP_SHAPE_INSTANCES
  s.get A.ms MS_SNAP_SRC_DA % 8 == 0 && stride % 8 == 0 && decide (1 ≤ n ∧ n ≤ 2048) && decide (1 ≤ m ∧ m ≤ 4096) &&
    decide (n * m ≤ 16384) && (m == 1 || decide (n * 8 ≤ stride))

/-- Requester `q` may read every word. -/
def State.mayReadAll (s : State) (q : Nat) (as : List Nat) : Bool × State :=
  as.foldl (fun x a => if x.1 then x.2.hasRight q .read a 8 else x) (true, s)

/-- The status of a SNAPSHOT of requester `q`, in the order of R347, and the state after the access checks. -/
def State.snapStatus (s : State) (q : Nat) : Nat × State :=
  let da := s.get A.ms MS_SNAP_SRC_DA
  let as := s.snapWords
  if !s.snapShapeOk || (spanOf da).isNone || !as.all (fun a => regionOf a == .register && spanOf a == spanOf da) then
    (stBadValue, s)
  else if (match sliceOfAddr da with | some n => s.sliceAnswer n false | none => stOK) ≠ stOK then (stNoTarget, s)
  else
    let r := s.mayReadAll q as
    (if r.1 then stOK else stAccessDenied, r.2)

/-- The status of a command of MS_SNAP_CMD on bank `b`. -/
def State.snapResult (s : State) (b st : Nat) : State :=
  (s.put A.ms MS_SNAP_CMD_STATUS st).put (A.msb b) MS_BANK_INFO_STATUS st

/-- SNAPSHOT into bank `b` by requester `q`: every word as it reads now, without a read's side effect (R346). -/
def State.snapshot (s : State) (b tag q : Nat) : State :=
  let r := s.snapStatus q
  let s := r.2.snapResult b r.1
  if r.1 ≠ stOK then s
  else
    let ws := s.snapWords.map s.shown
    let t := ws.zipIdx.foldl (fun t (w, k) => t.setWord (shadowWord b k) (BitVec.ofNat 64 w)) s
    let i := A.msb b
    let t := (t.put i MS_BANK_INFO_TAG tag).put i MS_BANK_INFO_WORDS ws.length
    let t := (t.put i MS_BANK_SRC_DA (s.get A.ms MS_SNAP_SRC_DA)).put i MS_BANK_SEC_SEC (secOf s.nowQ)
    (t.put i MS_BANK_NS_NS (nsOf s.nowQ)).put i MS_BANK_NS_FRAC (fracOf s.nowQ)

/-- SNAPSHOT. -/
def execSnapshot (b tag q : Nat) (s : State) : Host.Outcome State Fault Refusal :=
  .next (if b < 16 then s.snapshot b tag q else s)

/-- CLEAR_BANK: every word of bank `b` is 0. -/
def State.clearBank (s : State) (b : Nat) : State :=
  (s.clearWords (fun a => decide (shadowWord b 0 ≤ a ∧ a < shadowWord (b + 1) 0))).snapResult b stOK

/-- CLEAR_BANK. -/
def execClearBank (b : Nat) (s : State) : Host.Outcome State Fault Refusal := .next (if b < 16 then s.clearBank b else s)

/-- A write of MS_SNAP_CMD by requester `q`. -/
def State.snapCommand (s : State) (op b tag q : Nat) : State :=
  match op with
  | 1 => s.snapshot b tag q
  | 2 => s.clearBank b
  | _ => s.put A.ms MS_SNAP_CMD_STATUS stBadValue

end Sys2Proof.Machine
end

