-- ==== Sys2Proof/Machine/Writes.lean ====
section
/-!
DEFINITION. What a write does at each register that has a rule of its own, by block; every other register stores its rw
bits (spec/01_module.md R8, spec/11_control_rings.md R312, and the rules that each function names). Each answers the
status of the write and the state after it; a refused write changes nothing (R312). Offsets count from the block's base;
`w` is the word written, `new` the word that the register would hold.
-/

namespace Sys2Proof.Machine

/-! ## Access masks and ranges (R8, R312) -/

/-- The written field lies in its range. -/
def Rng.ok (r : Rng) (w : Nat) : Bool :=
  let v := bitsOf w r.hi r.lo
  let inside := if r.min ≤ r.max then decide (r.min ≤ v ∧ v ≤ r.max) else decide (r.min ≤ v ∨ v ≤ r.max)
  (r.zero && v == 0) || (inside && v % r.step == 0)

/-- Every written field of a register lies in its range. -/
def RegDef.inRange (r : RegDef) (w : Nat) : Bool := r.chk.all (fun x => x.ok w)

/-- Bits of a 64-bit word outside `m`. -/
def outside (m : Nat) : Nat := (2 ^ 64 - 1) ^^^ (m % 2 ^ 64)

/-- The word that a register holding `old` holds after a write of `w` under its access codes. -/
def RegDef.after (r : RegDef) (old w : Nat) : Nat :=
  ((old &&& outside r.rw) ||| (w &&& r.rw)) &&& outside (w &&& r.w1c)

/-- The write is refused. -/
def State.bad (s : State) : Nat × State := (stBadValue, s)

/-- The write stores `new` at `a`. -/
def State.store (s : State) (a new : Nat) : Nat × State := (stOK, s.setWord a (BitVec.ofNat 64 new))

/-! ## Time base, pins, scene clocks (R26, R37, R38, R41, R59, R70, R459) -/

/-- Port `l` serves a scene domain (R86). -/
def State.portInScene (s : State) (l : Nat) : Bool :=
  (List.range (s.get A.sc SC_INFO_CELLS)).any (fun c =>
    s.on (A.scc c) SC_CELL_CTRL_GPTP_EN && (s.scenePorts c).any (fun p => p.lane == l))

/-- A scene clock is grandmaster of domain `d`. -/
def State.gptpDomain (s : State) (d : Nat) : Bool :=
  (List.range (s.get A.sc SC_INFO_CELLS)).any (fun c =>
    s.on (A.scc c) SC_CELL_CTRL_GPTP_EN && s.get (A.scc c) SC_CELL_CTRL_DOMAIN == d)

/-- A write in TB. -/
def State.writeTb (s : State) (o a w new : Nat) : Nat × State :=
  let l := (o - 0x10000) / 0x40
  let t := (s.store a new).2
  if o = 0 then
    let d := bitsOf new 22 16
    if d ≠ s.get A.tb TB_CTRL_DOMAIN_PHYS ∧ s.gptpDomain d then s.bad
    else if new.testBit 4 then (stOK, t)
    else (stOK, { t with sync := { t.sync with phase := 0, integ := 0 } }.formAddend)
  else if o = 0x30 then (stOK, if w.testBit 0 then s.setGo else s)
  else if o = 0xB8 ∨ o = 0xC8 then (stOK, t.selectInput)
  else if o < 0x10000 then (stOK, t)
  else if o % 0x40 = 0 then
    if new.testBit 2 && (bitsOf new 1 0 != 0 || s.portInScene l) then s.bad else (stOK, t.showInput l)
  else if o % 0x40 = 0x28 then
    let s := if w.testBit 0 then s.clearFaulty l else s
    (stOK, if w.testBit 1 then s.flushPd l else s)
  else (stOK, t)

/-- A write in TP: DISARM acts before ARM; a refused ARM leaves the register as it was. -/
def State.writeTp (s : State) (o a w new : Nat) : Nat × State :=
  let p := o / 0x40
  let t := (s.store a new).2
  if o % 0x40 ≠ 0 then (stOK, t)
  else
    let t := if w.testBit 9 then t.tpDisarm p else t
    if w.testBit 8 then
      let r := t.tpArm p
      if r.1 = stOK then r else (r.1, s)
    else (stOK, t)

/-- A write in SC. -/
def State.writeSc (s : State) (o a new : Nat) : Nat × State :=
  let c := (o - 0x10000) / 0x800
  if o < 0x10000 then s.store a new
  else if o % 0x800 = 0 then if s.cellCtrlOk c new then (stOK, s.cellCtrl c new) else s.bad
  else if o % 0x800 = 8 then if s.on (A.scc c) SC_CELL_CTRL_EN || !s.horizonOk c new then s.bad else s.store a new
  else s.store a new

/-! ## Hold memory, launches (R112, R106, R139) -/

/-- A write in HM. -/
def State.writeHm (s : State) (o a w new : Nat) : Nat × State :=
  if o = 8 then
    if 100 < bitsOf new 7 0 ∨ bitsOf new 7 0 ≤ bitsOf new 15 8 then s.bad
    else (stOK, s.image.ports.foldl (fun s p => s.pressure p.lane) (s.store a new).2)
  else if o = 0x20 then
    (stOK, match w % 8 with
      | 1 => s.feedRead
      | 2 => s.feedWrite
      | 3 => s.feedClear
      | 4 => s.feedReset
      | _ => s.put A.hm HM_FEED_CMD_STATUS stBadValue)
  else s.store a new

/-- A write in LN of slice `n`; GROWTH in the profile window is read-only. -/
def State.writeLn (s : State) (n o a w new : Nat) : Nat × State :=
  if o = 0x10 then
    (stOK, match w % 4 with
      | 1 => s.rwRead n
      | 2 => s.rwWrite n
      | _ => s.put (A.ln n) LN_RW_CMD_STATUS stBadValue)
  else if o = 0x30 then s.store a (withBits new 7 0 ((s.word a).toNat % 256))
  else s.store a new

/-! ## Pre-emption, shaping (R160, R166–R169, R174, R176, R179, R182) -/

/-- A write in PE of port `l`, at offset `r` of its registers. -/
def State.writePe (s : State) (l r a w new : Nat) : Nat × State :=
  if r = 0 then
    let was := s.on (A.pep l) PE_PORT_CTRL_EN
    let t := (s.store a new).2
    let t := if was = new.testBit 2 then t else t.setMerge l { t.merge l with lldpDue := true }
    let t := if !was && new.testBit 2 then t.startVerify l else t
    (stOK, (t.refreshPe l).recredit l)
  else if r = 0x60 then (stOK, if w.testBit 0 then s.restartVerify l else s)
  else s.store a new

/-- No CBS class of port `l` has slope 0, and their slopes fit the port (R176). -/
def State.slopesOk (s : State) (l : Nat) : Bool :=
  let ks := (List.range 8).filter (fun k => s.get (A.shc l k) SH_CLASS_CTRL_ALGO == 1)
  let slope := fun k => s.get (A.shc l k) SH_CLASS_SLOPE_IDLE_SLOPE_MBPS
  ks.all (fun k => slope k != 0) && decide ((ks.map slope).sum ≤ s.portRate l * 1000)

/-- A written SH_CLASS_CTRL of class `k`: ALGO waits for an empty queue (R160). -/
def State.classCtrl (s : State) (l k a new : Nat) : Nat × State :=
  let was := s.algo l k
  let t := (s.recredit l).setCredit l k { (s.recredit l).credit l k with algo := was }
  let t := (t.store a new).2.put (A.shc l k) SH_CLASS_CTRL_ALGO_PENDING (bit (bitsOf new 1 0 != was))
  if t.slopesOk l then (stOK, (t.algoApply l k).recredit l) else s.bad

/-- Flow `f` of port `l` is disabled: its frames are dropped (R179). -/
def State.dropFlow (s : State) (l f : Nat) : State :=
  let q := s.flow l f
  let s := q.foldl (fun s (x : EgFrame) => (s.bump (A.shf l f) SH_FLOW_DROP_COUNT).freeRelay l x.cells) (s.setFlow l f [])
  (s.groupIdle l).recredit l

/-- A write in SH of port `l`, at offset `r` of its registers. -/
def State.writeSh (s : State) (l r a new : Nat) : Nat × State :=
  let t := (s.store a new).2
  if r = 0 then
    if 32000 < t.qsLoad (sliceOf l) ∧ s.qsLoad (sliceOf l) < t.qsLoad (sliceOf l) then s.bad else (stOK, t)
  else if r < 0x400 then
    let k := (r - 0x100) / 0x40
    if r % 0x40 = 0 then s.classCtrl l k a new
    else
      let t := ((s.recredit l).store a new).2
      if t.slopesOk l then (stOK, t.recredit l) else s.bad
  else
    let f := (r - 0x400) / 0x20
    let was := s.on (A.shf l f) SH_FLOW_CTRL_EN
    if !was && new.testBit 63 then (stOK, t.put (A.shf l f) SH_FLOW_FINISH_F (s.get (A.shp l) SH_VTIME_V))
    else if was && !new.testBit 63 then (stOK, t.dropFlow l f)
    else (stOK, t)

/-! ## Cells and the guardian (R184–R214, R389) -/

/-- A write of CL_CELL_CTRL, whose MASTER, MARGIN_NS and STAR_DELAY_NS change only while EN is 0. -/
def State.cellWrite (s : State) (c a new : Nat) : Nat × State :=
  let old := (s.word a).toNat
  if old.testBit 0 ∧ (bitsOf old 47 16 ≠ bitsOf new 47 16 ∨ bitsOf old 1 1 ≠ bitsOf new 1 1) then s.bad
  else
    let r := ((s.store a (withBits new 0 0 (bit (old.testBit 0)))).2).enableCell c (new.testBit 0)
    if r.1 = stOK then r else (r.1, s)

/-- A write in CL of slice `n`; while the slice does not serve, writes for a cell are ignored. -/
def State.writeCl (s : State) (n o a new : Nat) (idx : List Nat) : Nat × State :=
  if o = 8 ∨ o = 0x78 ∨ o = 0x90 then s.store a new
  else if !s.sliceServes n then (stOK, s)
  else if o = 0x80 then (stOK, s.markWrite n new)
  else if o = 0x98 then (stOK, s.nodeWrite n new)
  else
    let c := idx.getD 1 0
    let r := o % 0x100
    let on := s.on (A.clc n c) CL_CELL_CTRL_EN
    if o < 0x10000 then s.store a new
    else if r = 0 then s.cellWrite c a new
    else if r = 0x10 ∧ on ∧ (s.word a).toNat % 16 ≠ new % 16 then s.bad
    else if (r = 0x18 ∨ r = 0x20) ∧ on ∧ (s.word a).toNat ≠ new then s.bad
    else s.store a new

/-- A write in GD of slice `n`: CLEAR forgets the range and the warning of the selected node. -/
def State.writeGd (s : State) (n o a w new : Nat) : Nat × State :=
  if o = 0x20 then
    let d := s.get (A.gd n) GD_NODE_SEL_NODE
    let ch := s.get (A.gd n) GD_NODE_SEL_CHANNEL
    (stOK, if w.testBit 0 then s.setDrift d ch { s.drift d ch with low := none, high := none, warnSeen := false } else s)
  else s.store a new

/-! ## Classification, streams, FRER, injectors (R221, R231–R245, R249–R257, R324, R418) -/

/-- A write in PR of slice `n`: the slow path's ring takes its role, and its tokens so far are settled. -/
def State.writePr (s : State) (n o a new : Nat) : Nat × State :=
  if o = 8 then
    if new.testBit 0 && !s.roleOk (bitsOf new 15 8) 2 then s.bad
    else { s with slowBuckets := SMap.set (0, 0) n (s.slowTokens n, s.time.clk + 1) s.slowBuckets }.store a new
  else s.store a new

/-- A written CF_PORT_CTRL of port `l` names only tables and a port that exist, where it changes them. -/
def State.portCtrlOk (s : State) (l new : Nat) : Bool :=
  let b := A.cfp l
  let n := sliceOf l
  let t1 := bitsOf new 2 0
  let t2 := bitsOf new 6 4
  let p := bitsOf new 45 37
  (t1 == s.get b CF_PORT_CTRL_TABLE1 || s.on (A.cf n) (CF_TABLE_VALID t1)) &&
    (t2 == s.get b CF_PORT_CTRL_TABLE2 || s.on (A.cf n) (CF_TABLE_VALID t2)) &&
    (p == s.get b CF_PORT_CTRL_DEF_PORT || s.isPort p)

/-- A write in CF of slice `n`. -/
def State.writeCf (s : State) (n o a w new : Nat) (idx : List Nat) : Nat × State :=
  if o = 0x88 then (stOK, s.cfCommand n (w % 8))
  else if 0x10000 ≤ o ∧ o % 0x100 = 0 ∧ !s.portCtrlOk (laneIdx idx) new then s.bad
  else s.store a new

/-- A write in ST of slice `n`; BLOCKED in the entry window is read-only. -/
def State.writeSt (s : State) (n o a w new : Nat) (r : RegDef) : Nat × State :=
  if o = 0x30 then s.store a (withBits new 46 46 (bitsOf (s.word a).toNat 46 46))
  else if o = 0x38 then (stOK, s.stCommand n (w % 8) (bitsOf w 31 16))
  else if o = 0x108 then (stOK, s.groupCommand n (w % 4))
  else if o = 0x208 then
    let g := s.sgSel n
    let k := A.tsgate n g + 0x208
    (stOK, (s.setWord k (BitVec.ofNat 64 (r.after (s.word k).toNat w))).sgControl n g)
  else if o = 0x308 then (stOK, s.fmCommand n (w % 4))
  else s.store a new

/-- A write in FR of slice `n`. -/
def State.writeFr (s : State) (n o a w new : Nat) : Nat × State :=
  if o = 0x10 then (stOK, s.genCommand n (w % 4))
  else if o = 0x48 then (stOK, s.recCommand n (w % 8))
  else s.store a new

/-- A write in FI of port `l`, at offset `r` of its registers; ignored unless injection is permitted now. -/
def State.writeFi (s : State) (l r a new : Nat) : Nat × State :=
  if !s.injectionOn then (stOK, s)
  else if r = 0x100 then (stOK, s.tskew l new)
  else if r < 0x100 ∧ r % 0x40 = 0 then
    if injCtrlOk new then (stOK, s.injCtrl l (r / 0x40) new) else s.bad
  else s.store a new

/-! ## Measurement (R345–R355) -/

/-- A write in the MS block of slice `n`: 18 events can be counted. -/
def State.writeMss (s : State) (n o a new : Nat) (idx : List Nat) : Nat × State :=
  let l := laneIdx idx
  let old := (s.word a).toNat
  if 0x100 ≤ o ∧ o < 0x10000 then
    if 18 ≤ new % 256 then s.bad else (stOK, (s.store a new).2.evcWritten n (idx.getD 1 0))
  else if o < 0x10000 then s.store a new
  else if o % 0x2000 = 0x40 then
    if 18 ≤ bitsOf new 23 16 ∨ 18 ≤ bitsOf new 31 24 then s.bad else (stOK, (s.store a new).2.bwWritten l old)
  else if o % 0x2000 = 0x50 then (stOK, (s.store a new).2.lsWritten l old)
  else s.store a new

/-- A write in the module's MS block by requester `q`. -/
def State.writeMs (s : State) (o a w new q : Nat) : Nat × State :=
  let n := (o - 0x20000) / 0x80
  if o = 0x18 then (stOK, s.snapCommand (w % 4) (bitsOf w 7 4) (bitsOf w 31 16) q)
  else if 0x20000 ≤ o ∧ o % 0x80 = 0x18 then (stOK, s.drainRead n false (w % 2 ^ 32))
  else if 0x20000 ≤ o ∧ o % 0x80 = 0x38 then (stOK, s.drainRead n true (w % 2 ^ 32))
  else s.store a new

/-! ## Control blocks -/

/-- A write in JR: the ring is fixed while EN is 1; a source's tokens so far are settled (R290, R295, R324). -/
def State.writeJr (s : State) (o a new : Nat) : Nat × State :=
  if o = 0 then
    let ring := bitsOf new 15 8
    if (s.on A.jr JR_CTRL_EN && ring != s.jrRing) || (new.testBit 0 && !s.roleOk ring 3) then s.bad else s.store a new
  else if 0x10000 ≤ o ∧ o % 0x40 = 0 then (s.settleBucket ((o - 0x10000) / 0x40) 0).store a new
  else s.store a new

/-- A write in CP (R283, R285, R286, R324). -/
def State.writeCp (s : State) (o a new : Nat) : Nat × State :=
  if 0x10000 ≤ o ∧ o < 0x20000 then
    let p := (o - 0x10000) / 0x80
    if o % 0x80 ≠ 0 then s.store a new
    else if !s.profCtrlOk new || (new.testBit 63 && new.testBit 60 && !s.roleOk (bitsOf new 55 48) 1) then s.bad
    else
      let t := (s.store a new).2
      (stOK, if new.testBit 63 then t.restartExports p else t)
  else if 0x20000 ≤ o ∧ o < 0x30000 ∧ s.profileNames ((o - 0x20000) / 0x20) then s.bad
  else s.store a new

/-- A write in RG by requester `q`; `ok` says that the fields lie in their ranges (R317, R318). -/
def State.writeRg (s : State) (o a w new q : Nat) (ok : Bool) : Nat × State :=
  let r := (o - 0x10000) / 0x80
  let x := o % 0x80
  let idle := if ok && s.ringIdle r then stOK else stBadValue
  if x = 0 ∨ x = 0x40 then s.ringConfig r x new idle q
  else if x = 8 then s.ringConfig r x new (s.ringCfgStatus r new) q
  else if x = 0x10 then (stOK, s.prodWrite r (w % 2 ^ 32))
  else if x = 0x18 then (stOK, s.consWrite r (w % 2 ^ 32))
  else if x = 0x38 then (stOK, s.ringCommand r (w % 8))
  else s.store a new

/-- A write in DM by requester `q` (R332, R335, R338). -/
def State.writeDm (s : State) (o a w new q : Nat) : Nat × State :=
  let e := (o - 0x10000) / 0x10000
  let c := (o % 0x10000 - 0x1000) / 0x100
  let x := o % 0x100
  if o < 0x10000 then s.store a new
  else if o % 0x10000 < 0x1000 then
    if x = 0x20 then (stOK, if w.testBit 0 then s.engineClear e else s) else s.store a new
  else if 8 ≤ x ∧ x < 0x48 then (stOK, s.shadowWrite e c ((x - 8) / 8) w)
  else if x = 0x48 then (stOK, if w.testBit 0 then s.dmaGo e c q else s)
  else if x = 0x88 then (stOK, if w.testBit 0 then s.clearHalt e c else s)
  else s.store a new

/-- EN of UP_CTRL is written: a unit that waits for its partner, or leaves, no longer does; a unit that serves alone holds
authority (R267, R383). -/
def State.pairEnable (s : State) (was now : Bool) : State :=
  if was && !now then
    let t := s.finishLeaving
    if t.pair.waitFrom.isSome then { t with pair := { t.pair with waitFrom := none } }.serveAs 6 0 else t
  else if !was && now && s.serving then s.put A.up UP_STATUS_ROLE 1
  else s

/-- A write in UP. -/
def State.writeUp (s : State) (o a w new : Nat) : Nat × State :=
  if o = 0 then (stOK, (s.store a new).2.pairEnable (s.on A.up UP_CTRL_EN) (new.testBit 0))
  else if o = 0x160 then (stOK, if w.testBit 0 then s.resync else s)
  else s.store a new

/-- A write in BG: a mandatory task stays enabled, and no period goes below its default (R394). -/
def State.writeBg (s : State) (o a new : Nat) : Nat × State :=
  if 0x100 ≤ o ∧ o % 0x20 = 0 ∧
      ((mandatory ((o - 0x100) / 0x20) && !new.testBit 63) || decide (new % 2 ^ 32 < (resetWord a).toNat % 2 ^ 32)) then s.bad
  else s.store a new

/-- A write in PW (R404). -/
def State.writePw (s : State) (o a w new : Nat) : Nat × State :=
  if o = 0xA8 then
    (stOK, match w % 4 with
      | 1 => s.domainOff (bitsOf w 7 4)
      | 2 => s.domainRaise (bitsOf w 7 4)
      | _ => s.domainStatus stBadValue)
  else s.store a new

/-- A command of MD_CMD (R382). -/
def State.modeCommand (s : State) (op : Nat) : State :=
  match op with
  | 1 => s.goService
  | 2 => s.mdCommand s.mayLeave (·.depart 9 0)
  | 3 => s.mdCommand (s.mode == 9) (·.wake)
  | 4 => s.mdCommand s.mayLeave (·.depart 10 0)
  | 5 => s.mdCommand (s.mode == 10) (·.toMode 4 0)
  | 6 => s.mdCommand (s.mode != 0 && s.mode != 11) (·.depart 11 0)
  | 7 => s.enterReset 0
  | _ => s.mdStatus stBadValue

/-- A command of MD_TEST_CMD (R398). -/
def State.testCommand (s : State) (w : Nat) : State :=
  match bitsOf w 17 16 with
  | 1 => s.testRequest (w % 256) (bitsOf w 15 8) (bitsOf w 47 32)
  | 2 => s.testCancel (bitsOf w 63 48) (bitsOf w 47 32)
  | _ => s.testResult (bitsOf w 47 32) 0 stBadValue

/-- A write in MD. -/
def State.writeMd (s : State) (o a w new : Nat) : Nat × State :=
  if o = 8 then (stOK, s.modeCommand (w % 16))
  else if o = 0x10 then (stOK, s.fenceCommand (w % 8) (bitsOf w 7 7) (bitsOf w 6 3))
  else if o = 0x88 then
    (stOK, match w % 4 with
      | 1 => s.fwSwitch
      | 2 => s.fwRollback
      | _ => s.fwStatus stBadValue)
  else if o = 0xC0 then (stOK, s.testCommand w)
  else if o = 0xE8 then
    let t := (s.store a new).2
    (stOK, if w.testBit 4 then { t with testFails := 0 } else t)
  else s.store a new

/-- A write in IM. -/
def State.writeIm (s : State) (o a w new : Nat) : Nat × State :=
  if o = 8 then (stOK, s.imCommand (w % 4) (bitsOf w 31 16)) else s.store a new

/-! ## By block -/

/-- A write in a slice block. -/
def State.writeSlice (s : State) (n blk o a w new : Nat) (f : Found) : Nat × State :=
  let l := laneIdx f.idx
  match blk with
  | 1 => s.writePr n o a new
  | 2 => s.writeCf n o a w new f.idx
  | 3 => s.writeSt n o a w new f.reg
  | 4 => s.writeLn n o a w new
  | 6 => s.writePe l (o % 0x100) a w new
  | 7 => if o < 0x10000 then s.store a new else s.writeSh l (o % 0x1000) a new
  | 8 => s.writeCl n o a new f.idx
  | 9 => s.writeGd n o a w new
  | 10 => s.writeFr n o a w new
  | 12 => if o < 0x10000 then s.store a new else s.writeFi l (o % 0x200) a new
  | 13 => s.writeMss n o a new f.idx
  | _ => s.store a new

/-- A write in a module block, by its first page. -/
def State.writeModule (s : State) (page o a w new q : Nat) (ok : Bool) : Nat × State :=
  if page = 0x21 then s.writeRg o a w new q ok
  else if !ok then s.bad
  else if page = 0x01 then s.writeIm o a w new
  else if page = 0x02 then s.writeMd o a w new
  else if page = 0x03 then s.writePw o a w new
  else if page = 0x04 then s.writeBg o a new
  else if page = 0x10 then s.writeTb o a w new
  else if page = 0x11 then s.writeSc o a new
  else if page = 0x1F then s.writeTp o a w new
  else if page = 0x22 then s.writeDm o a w new q
  else if page = 0x23 then s.writeJr o a new
  else if page = 0x24 then s.writeCp o a new
  else if page = 0x30 then s.writeUp o a w new
  else if page = 0x31 then s.writeMs o a w new q
  else if page = 0x180 then s.writeHm o a w new
  else s.store a new

/-- A write of `w` by requester `q` to the register that `f` finds at `a`, which is no rwp register: ignored where the
instance does not exist. -/
def State.plainWrite (s : State) (q a w : Nat) (f : Found) : Nat × State :=
  if !s.exists? f then (stOK, s)
  else
    let new := f.reg.after (s.word a).toNat w
    let ok := f.reg.inRange w
    match sliceOfAddr a with
    | some n => if ok then s.writeSlice n (a / 0x100000 % 16) (a % 0x100000) a w new f else s.bad
    | none =>
      let page := (spanOf a).getD 0
      s.writeModule page (a - page * 0x100000) a w new q ok

end Sys2Proof.Machine
end

