-- ==== Sys2Proof/Machine/Bus.lean ====
section
/-!
DEFINITION. Reads and writes of registers and memory by a requester: complement pairs, single words, read-modify-write
(spec/00_scope.md R8–R11, spec/11_control_rings.md R311, R312, spec/14_image_boot.md R378, spec/19_register_map.md R450).
-/

namespace Sys2Proof.Machine

/-! ## Complement pairs (R9, R10) -/

/-- Longest time from a value to its complement: 1 ms. -/
def armTicks : Nat := 1000000

/-- Report source of the block that holds the rwp register at `a` (R288). -/
def pairSource (a : Nat) : Nat :=
  match sliceOfAddr a with
  | some n =>
    match a / 0x100000 % 16 with
    | 3 => srcSlice n 2
    | 5 => srcSlice n 5
    | _ => srcSlice n 7
  | none => if a < 0x100000 then 10 else if a < 0x1100000 then 0 else if a < 0x2000000 then 1 else 2

/-- The pair at value address `a`, written by requester `q`, is rejected: one INTEGRITY_WRITE entry, and SC_EVENT.INTEGRITY
of a scene clock's pair (R10, R92). -/
def State.rejectPair (s : State) (q a : Nat) : State :=
  let s := if A.sc ≤ a ∧ a < 0x1600000 then s.raise (A.scc ((a - A.scc 0) / 0x800)) SC_EVENT_FLAGS 5 else s
  s.report (pairSource a) 0x0010 objReg a q

/-- The value armed at `a`, if any. -/
def State.arm (s : State) (a : Nat) : Option Arm := SMap.get none s.arms a

/-- Set or clear the arm at `a`. -/
def State.setArm (s : State) (a : Nat) (x : Option Arm) : State := { s with arms := SMap.set none a x s.arms }

/-- A pair committed in a slice block: `a` the value address, `o` its offset in the block, `v` the value. -/
def State.commitSlice (s : State) (n a o v : Nat) (idx : List Nat) : Nat × State :=
  let t := (s.store a v).2
  let op := bitsOf v 1 0
  let tag := bitsOf v 31 16
  match a / 0x100000 % 16 with
  | 5 =>
    let l := laneIdx idx
    if o % 0x200 = 0x70 then (stOK, s.gateDataWrite l v)
    else if o % 0x200 = 0x80 then (stOK, t.gateCmd l op tag)
    else (stOK, t)
  | 8 =>
    if !s.sliceServes n then (stOK, s)
    else if o = 0x10 then
      if s.get (A.cl n) CL_MX_SEL_BANK = 0 ∧ s.isHome n (s.get (A.cl n) CL_MX_SEL_CELL) then (stOK, t) else (stOK, s)
    else if o = 0x20 then (stOK, s.mxWrite n v)
    else if o = 0x30 then (stOK, s.mxCycWrite n v)
    else if o = 0x40 then (stOK, s.mxHdrWrite n v)
    else if o = 0x50 then
      let c := bitsOf v 12 2
      if s.isHome n c then (stOK, t.matrixCmd c op tag) else (stOK, s)
    else (stOK, t)
  | _ =>
    let g := s.sgSel n
    if o = 0x260 then (stOK, s.sgDataWrite n v)
    else
      let t := (s.store (A.tsgate n g + o) v).2
      if o = 0x270 then (stOK, t.sgCmd n g op tag) else (stOK, t)

/-- The value `w` is committed to the rwp register that `f` finds at `a`: the status of the committing write, and the
state. -/
def State.commitPair (s : State) (a w : Nat) (f : Found) : Nat × State :=
  let v := w &&& f.reg.rwp
  if !f.reg.inRange w then s.bad
  else
    match sliceOfAddr a with
    | some n => s.commitSlice n a (a % 0x100000) v f.idx
    | none =>
      if a = A.tb + 0x40 then s.commitAddend v
      else if a = A.tb + 0x90 then s.stepAuth v
      else if f.kind = .scCell ∧ (a - A.scc 0) % 0x800 = 0xA0 then
        (stOK, (s.store a v).2.segCommand ((a - A.scc 0) / 0x800) v)
      else if a = A.sy + 0x40 then (stOK, s.secverRaise v)
      else if a = A.sy + 0x58 then (stOK, s.anchorRevoke v)
      else s.store a v

/-- A write of the value arms the register, or replaces the armed value and restarts the interval. -/
def State.armPair (s : State) (q a w : Nat) : State := s.setArm a (some ⟨w % 2 ^ 64, q, s.time.clk⟩)

/-- 1 ms has passed since the register at `a` was armed: it disarms, with one entry. -/
def State.expireArm (s : State) (a : Nat) : State :=
  match s.arm a with
  | none => s
  | some x => if s.since x.since < armTicks then s else (s.setArm a none).rejectPair x.requester a

/-- A write of `w` by requester `q` to the complement address of the register that `f` finds at `a`. -/
def State.complementPair (s : State) (q a w : Nat) (f : Found) : Nat × State :=
  let s := match s.arm a with
    | some x => if armTicks < s.since x.since then s.expireArm a else s
    | none => s
  match s.arm a with
  | none => (stIntegrityWrite, s.rejectPair q a)
  | some x =>
    let t := s.setArm a none
    if x.requester = q ∧ w % 2 ^ 64 + x.value = 2 ^ 64 - 1 then t.commitPair a x.value f
    else (stIntegrityWrite, t.rejectPair q a)

/-- The rwp register whose value address is `a`. -/
def pairAt (a : Nat) : Option Found :=
  match findReg a with
  | some f => if f.reg.rwp ≠ 0 then some f else none
  | none => none

/-- The rwp register whose complement address is `a`. -/
def pairBelow (a : Nat) : Option Found := if 8 ≤ a then pairAt (a - 8) else none

/-! ## One word -/

/-- A write of `w` by requester `q` to the register word at `a`: its status and the state after it. Words without a
register ignore it (R450). -/
def State.regWrite (s : State) (q a w : Nat) : Nat × State :=
  match pairAt a with
  | some f => (stOK, if s.exists? f then s.armPair q a w else s)
  | none =>
    match findReg a with
    | some f => s.plainWrite q a w f
    | none =>
      match pairBelow a with
      | some f => if s.exists? f then s.complementPair q (a - 8) w f else (stOK, s)
      | none => (stOK, s)

/-- The word at `a`, and the state after reading it. -/
def State.busGet (s : State) (a : Nat) : Nat × State :=
  if regionOf a = .register then s.readReg a else (s.memWord a, s)

/-- Store a word at `a`. -/
def State.busPut (s : State) (q a w : Nat) : Nat × State :=
  if regionOf a = .register then s.regWrite q a w else (stOK, s.setMemWord a w)

/-- Address and access check of `n` words from `a`, which is a multiple of 8 below 2^44 (R448, R311). -/
def State.busCheck (s : State) (q : Nat) (g : Right) (a n : Nat) : Nat × State :=
  if a % 8 ≠ 0 then (stBadValue, s) else if 2 ^ 44 ≤ a then (stNoTarget, s) else s.permit q g a (8 * n)

/-- READ: status, value, state. -/
def State.busRead (s : State) (q a : Nat) : Nat × Nat × State :=
  let (st, s) := s.busCheck q .read a 1
  if st ≠ stOK then (st, 0, s)
  else
    let (v, s) := s.busGet a
    (stOK, v, s)

/-- WRITE. -/
def State.busWrite (s : State) (q a w : Nat) : Nat × State :=
  let (st, s) := s.busCheck q .write a 1
  if st ≠ stOK then (st, s) else s.busPut q a w

/-- WRITE_PAIR: the value is armed and committed at once; an earlier arm is replaced (R311). -/
def State.busPair (s : State) (q a w : Nat) : Nat × State :=
  let (st, s) := s.busCheck q .write a 2
  if st ≠ stOK then (st, s)
  else
    match (if regionOf a = .register then pairAt a else none) with
    | none => s.bad
    | some f => if s.exists? f then (s.setArm a none).commitPair a w f else (stOK, s)

/-- New word of a read-modify-write: command and clear bits outside the mask are written 0 (R311). -/
def rmwWord (f : Option Found) (old mask value : Nat) : Nat :=
  let act := match f with
    | some f => f.reg.w1c ||| f.reg.w1s ||| f.reg.wo
    | none => 0
  ((old &&& outside mask) &&& outside act) ||| (value &&& mask)

/-- RMW: status, old value, state. -/
def State.busRmw (s : State) (q a mask value : Nat) : Nat × Nat × State :=
  let (st, s) := s.busCheck q .write a 1
  let reg := regionOf a == .register
  if st ≠ stOK then (st, 0, s)
  else if reg && ((pairAt a).isSome || (pairBelow a).isSome) then (stBadValue, 0, s)
  else
    let (old, s) := s.busGet a
    let (st, s) := s.busPut q a (rmwWord (if reg then findReg a else none) old (mask % 2 ^ 64) (value % 2 ^ 64))
    (st, if st = stOK then old else 0, s)

/-- The words from `a` up, and the state after reading each. -/
def State.busWords (s : State) (a : Nat) : Nat → List Nat × State
  | 0 => ([], s)
  | n + 1 =>
    let (v, s) := s.busGet a
    let (vs, s) := s.busWords (a + 8) n
    (v :: vs, s)

/-- Store words from `a` up, until one fails: how many were stored, and the failing status (R311). -/
def State.busStore (s : State) (q a : Nat) : List Nat → Nat × Nat × State
  | [] => (0, stOK, s)
  | w :: ws =>
    let (st, s) := s.busPut q a w
    if st ≠ stOK then (0, st, s)
    else
      let (n, st, s) := s.busStore q (a + 8) ws
      (n + 1, st, s)

/-! ## Commands -/

/-- The address leads to a register word of a module that has left Reset. -/
def State.registerTurn (s : State) (a : Nat) : Bool := s.mode != 0 && regionOf a == .register && a % 8 == 0

/-- REGISTER_WRITE: an admitted write by requester `q` of `w` to a register that is not rwp. -/
def execRegisterWrite (q a w : Nat) (s : State) : Host.Outcome State Fault Refusal :=
  .next (if s.registerTurn a && (pairAt a).isNone && (pairBelow a).isNone then (s.regWrite q a w).2 else s)

/-- RWP_VALUE_WRITE: an admitted write by requester `q` of `v` to the value address `a` of an rwp register. -/
def execRwpValueWrite (q a v : Nat) (s : State) : Host.Outcome State Fault Refusal :=
  .next (if s.registerTurn a && (pairAt a).isSome then (s.regWrite q a v).2 else s)

/-- RWP_COMPLEMENT_WRITE: an admitted write by requester `q` of `v` to the complement address `a` of an rwp register. -/
def execRwpComplementWrite (q a v : Nat) (s : State) : Host.Outcome State Fault Refusal :=
  .next (if s.registerTurn a && (pairBelow a).isSome then (s.regWrite q a v).2 else s)

/-- RWP_ARM_EXPIRY of the register with value address `a`. -/
def execRwpArmExpiry (a : Nat) (s : State) : Host.Outcome State Fault Refusal := .next (s.expireArm a)

end Sys2Proof.Machine
end

