-- ==== Sys2Proof/Machine/Handover.lean ====
section
/-!
DEFINITION. The end of Load, of Self-Test and of Calibrate, and of the build of a slice in service
(spec/14_image_boot.md R363, R364, R369, R371, R372, R374, R376; spec/15_modes_inservice.md R382, R384, R387;
spec/17_selftest_faults.md R415–R417; spec/18_contacts_electrical.md R440).
-/

namespace Sys2Proof.Machine

/-! ## Check 12 (R363, R364, R369) -/

/-- Every READBACK register of the list reads as its constant says. -/
def State.readbackOk (s : State) (cs : List ConstRec) : Bool :=
  cs.all (fun (c : ConstRec) => c.kind != 1 || s.shown c.da == c.value)

/-- Commit the INITIAL constants of the list as pairs of the firmware; none where one is rejected. -/
def State.commitInitial (s : State) : List ConstRec → Option State
  | [] => some s
  | c :: cs =>
    if c.kind = 1 then s.commitInitial cs
    else
      match pairAt c.da with
      | none => none
      | some f =>
        let (st, t) := s.commitPair c.da c.value f
        if st = stOK then t.commitInitial cs else none

/-- READBACK constants that the running image holds. -/
def State.showHeld (s : State) : State :=
  s.put A.im IM_CONST_HELD (s.image.consts.filter (fun (c : ConstRec) => c.kind == 1)).length

/-! ## Load (R371, R372, R374) -/

/-- Install the keys of the PROVISION records: a record for a keyed slot is ignored, one that does not unwrap is journalled
once (R374). -/
def State.provision (s : State) (ps : List ProvRec) (keys : List (Option Bytes)) : State :=
  (ps.zip keys).foldl (fun s e =>
    let q := e.1.slot
    let x := s.keySlot q
    if !x.k0.key.isEmpty || !x.k1.key.isEmpty then s
    else match e.2 with
      | none => s.reportOther 10 objNone 0 q
      | some k =>
        let y : KeySlot := { gen := 0, boot := e.1.flags.testBit 0, k0 := { key := k } }
        { s with mram := { s.mram with keys := SMap.set {} q y s.mram.keys } }.showKey q) s

/-- The pages of the blocks that a refused load leaves as they are: SY, IM, MD, PW and XP. -/
def bootPages : List Nat := [0, 1, 2, 3, 0x20]

/-- Every other block returns to its Reset state, and what the image powered is powered off again (R372). -/
def State.unbuild (s : State) : State :=
  let t : State :=
    { words := s.words.filter (fun e => bootPages.contains (e.1 / 0x100000)), mem := s.forgetDdr.mem, undef := s.forgetDdr.undef, time := s.time,
      xp := s.xp, mram := s.mram, board := s.board, boot := { s.boot with next := none, builds := [] }, power := s.power,
      contacts := s.contacts, out := s.out, free := s.free, pending := s.pending }
  let t := t.clearWords (fun a => decide (A.md + 0x40 ≤ a ∧ a < A.md + 0x80))
  let t := (List.range 16).foldl (fun t k => t.setBank k false) t
  (t.put A.pw PW_DOMAIN_SLICES 0).put A.pw PW_DOMAIN_DDR 0

/-- Check 12 fails: back to Boot, to the next flash slot or to the control port (R372). -/
def State.loadRefused (s : State) : State :=
  let at_ : ImageFail := match sectionOf s.staged 3 with
    | some (x, i) => ⟨8, i, x.off⟩
    | none => ⟨8, 0xFF, 0⟩
  let t := (s.unbuild.toMode 1 1).put A.sy SY_BOOT_LAST_FAIL 8
  if s.get A.sy SY_BOOT_SOURCE = 0 then t.flashFailed else (t.phase 2).imFail s.boot.tag at_

/-- The structure of a load is built, in the registers of the module and of every slice. -/
def State.buildAll (s : State) (l : Loading) : State :=
  let s := s.buildModule l.image l.anchor
  let s := (List.range 8).foldl (fun s n => if l.image.slices.testBit n then s.buildSlice l.image n else s) s
  l.releases.foldl (fun s r => s.put A.md (MD_FW_REL_ACTIVE r.1) r.2) s

/-- Load ends: check 12, PROVISION keys, Self-Test. -/
def State.loadDone (s : State) : State :=
  match s.boot.next with
  | none => s
  | some l =>
    if s.mode ≠ 2 then s
    else
      let t := s.buildAll l
      match (if constsOk l.image none && t.readbackOk l.image.consts then t.commitInitial l.image.consts else none) with
      | none => s.loadRefused
      | some t =>
        let t := (t.showHeld.provision l.image.provs l.keys)
        let t := { t with boot := { t.boot with next := none } }
        let t := if t.get A.sy SY_BOOT_SOURCE = 1 then t.imResult t.boot.tag stOK 0 0xFF 0 else t
        (t.toMode 3 1).phase 6

/-- LOAD_COMPLETE. -/
def execLoadComplete (s : State) : Host.Outcome State Fault Refusal := .next s.loadDone

/-! ## Self-Test (R382, R415–R417) -/

/-- The items of Self-Test and their targets. -/
def State.bootItems (s : State) : List (Nat × Nat) :=
  let slices := (List.range 8).filter s.isSlice
  slices.map (fun n => (16, n)) ++ (List.range 16).map (fun b => (18, b)) ++ slices.map (fun n => (19, n)) ++
    [(32, 0), (33, 0), (34, 0)]

/-- What a boot item that fails without repair does; whether the module must halt is asked apart. -/
def State.bootFail (s : State) (f : Finding) : State :=
  match f.item with
  | 16 => f.faulty.foldl (fun s j => s.badLane j) s
  | 19 =>
    { s with tests := { s.tests with locked := s.tests.locked ++ [f.target] } }.fenceSlice f.target 5 4 4
  | _ => s

/-- A boot item ends: its record, and what it does on failure. -/
def State.bootItem (s : State) (f : Finding) : State :=
  let out := s.outcome f
  let us := f.us * 1000
  let x : TestItem := { ticket := 0, item := f.item, target := f.target, origin := 1, at_ := moveQ s.nowQ (-(nsQ us : Int)),
                        clk := s.time.clk - us }
  (if out = 2 then s.bootFail f else s).recordItem x f out

/-- The finding of an item and target. -/
def findingOf (fs : List Finding) (e : Nat × Nat) : Option Finding := fs.find? (fun f => f.item == e.1 && f.target == e.2)

/-- Self-Test ends with the findings of every boot item on every present target; the tests overwrite the memories that they
test. -/
def State.selftestDone (s : State) (fs : List Finding) : State :=
  let items := s.bootItems
  if s.mode ≠ 3 ∨ items.any (fun e => (findingOf fs e).isNone) then s
  else
    let found := items.filterMap (findingOf fs)
    let halt := found.any (fun f => (f.item == 18 || decide (32 ≤ f.item)) && s.outcome f == 2)
    let s := (List.range 16).foldl (fun s b => s.loseMemory (16 + b)) (s.loseMemory 32)
    let s := found.foldl (fun s f => s.bootItem f) s
    if halt then s.enterHalt 4 else (s.toMode 4 1).phase 7

/-- SELFTEST_COMPLETE: what each boot item found. -/
def execSelftestComplete (fs : List Finding) (s : State) : Host.Outcome State Fault Refusal := .next (s.selftestDone fs)

/-! ## Calibrate (R371, R376, R440) -/

/-- A DDR5 channel is trained: its data is lost, its item is recorded, and it stays out where training fails. -/
def State.trainDdr (s : State) (f : Finding) : State :=
  let s := s.loseMemory f.target
  let out := s.outcome f
  let us := f.us * 1000
  let x : TestItem := { ticket := 0, item := 17, target := f.target, origin := 1, at_ := moveQ s.nowQ (-(nsQ us : Int)),
                        clk := s.time.clk - us }
  (if out = 2 then s.ddrOut f.target else s).recordItem x f out

/-- A channel whose DIMM differs from the others stays out of service; the number of its cause MISMATCH is not given: a free
value. -/
def State.ddrDiffers (s : State) (c : Nat) : State :=
  let (v, s) := s.fresh
  (s.ddrOut c).report (16 + c) 0x0070 objDdr c (v.toNat % 2 ^ 32)

/-- A slice that was built in Load or at WAKE serves, comes back fenced as it was, or is in FAULT where a die link is down. -/
def State.sliceReady (s : State) (n : Nat) : State :=
  if !s.isSlice n || s.sliceState n != 3 || (s.boot.builds.any (fun e => e.1 == n)) then s
  else
    match s.saved.fenced.find? (fun e => e.1 == n) with
    | some e => s.setSlice n e.2.1 e.2.2
    | none =>
      if s.on (A.sd n) SD_LINK_HD_UP && s.on (A.sd n) SD_LINK_CT_UP then s.setSlice n 0 0 else s.fenceSlice n 5 2 4

/-- The DDR5 channels are trained in the Calibrate that follows Self-Test: the findings of item 17 on the others, the
channels whose DIMM does not answer, and those whose DIMM differs. -/
def State.calibrateDdr (s : State) (fs : List Finding) (lost differ : List Nat) : State :=
  s.ddrChannels.foldl (fun s c =>
    if lost.contains c then s.ddrRailLost c []
    else if differ.contains c then s.ddrDiffers c
    else match findingOf fs (17, c) with
      | some f => s.trainDdr f
      | none => s) s

/-- Handover: the access map is locked, and the firmware starts (R376). -/
def State.lockMap (s : State) : State :=
  let s := (s.put A.sy SY_AMAP_LOCK_LOCKED 1).put A.sy SY_BOOT_TIME_US (s.since s.boot.endAt / 1000)
  s.phase 8

/-- Calibrate ends in Ready. -/
def State.calibrateDone (s : State) (fs : List Finding) (lost differ : List Nat) : State :=
  let boot := s.get A.md MD_STATUS_PREV_MODE == 3
  let missing := s.ddrChannels.any (fun c => !lost.contains c && !differ.contains c && (findingOf fs (17, c)).isNone)
  if s.mode ≠ 4 ∨ (boot && missing) then s
  else
    let s := if boot then s.calibrateDdr fs lost differ else s
    if s.mode = 11 then s
    else
      let s := if boot then s.lockMap else s
      let s := (List.range 8).foldl (fun s n => s.sliceReady n) s
      { s with saved := {} }.toMode 5 1

/-- CALIBRATE_COMPLETE: after Self-Test, what the training of each DDR5 channel found (item 17), the channels whose DIMM does
not answer, and those whose DIMM differs; from Park or Diagnostic these are empty. -/
def execCalibrateComplete (fs : List Finding) (lost differ : List Nat) (s : State) : Host.Outcome State Fault Refusal :=
  .next (s.calibrateDone fs lost differ)

/-! ## A slice built in service (R387) -/

/-- The build of slice `n` ends; `ok` says that its self-test, its calibration and its links came out well. -/
def State.buildDone (s : State) (n : Nat) (ok : Bool) : State :=
  match s.boot.builds.find? (fun e => e.1 == n) with
  | none => s
  | some (_, im) =>
    let old := s.image
    let t := s.rebuildSlice (im.getD s.image) n im.isNone
    let cs := t.image.consts.filter (fun (c : ConstRec) => constSlice c.da == some n)
    let checked := constsOk t.image (some n) && t.readbackOk cs
    let t := { t with boot := { t.boot with builds := t.boot.builds.filter (fun e => e.1 != n) } }
    if checked && ok then
      let t := (t.showHeld).setSlice n 4 (t.get A.md (MD_SLICE_STATE_CAUSE n))
      if im.isSome then t.imResult t.boot.tag stOK 0 0xFF 0 else t
    else
      { t with image := old }.setSlice n 5 6 |>.buildFailed im (if checked then none else some 8)

/-- BUILD_COMPLETE of slice `n`. -/
def execBuildComplete (n : Nat) (ok : Bool) (s : State) : Host.Outcome State Fault Refusal := .next (s.buildDone n ok)

end Sys2Proof.Machine
end

