-- ==== Sys2Proof/Machine/TableLoad.lean ====
section
/-!
DEFINITION. The start of transfers, and the records that a TABLE_LOAD writes (spec/12_dma.md R329, R332, R335).
-/

namespace Sys2Proof.Machine

/-- One record of a TABLE_LOAD of engine `e`, made with the rights of requester `q`: the status of its write (R329, R332). -/
def State.tableRecord (s : State) (e q w0 v : Nat) : Nat × State :=
  let a := w0 % 2 ^ 44
  if bitsOf w0 62 44 ≠ 0 ∨ a % 8 ≠ 0 then s.bad
  else
    let (st, s) := s.busCheck q .write a (if w0.testBit 63 then 2 else 1)
    if st ≠ stOK then (st, s)
    else if w0.testBit 63 then s.busPair (reqEngine e) a v
    else s.busWrite (reqEngine e) a v

/-- Up to `n` records in list order, as long as the channel runs; the first that fails ends the transfer with its status
(R329). -/
def State.tableRecords (e c : Nat) : Nat → State → State
  | 0, s => s
  | n + 1, s =>
    let x := s.chan e c
    if s.chanState e c ≠ 2 then s
    else
      let a := dmaSrc x.words + 16 * x.frames
      let (st, s) := s.tableRecord e x.by_ (s.memWord a) (s.memWord (a + 8))
      if s.chanState e c ≠ 2 then s
      else if st ≠ stOK then s.endTransfer e c st (16 * x.frames) x.frames
      else
        let s := (s.setChan e c { s.chan e c with frames := x.frames + 1 }).put (A.dmc e c) DM_CH_COUNT_BYTES (16 * (x.frames + 1))
        State.tableRecords e c n s

/-- Engine `e` may start a transfer: it is enabled and not faulted, and a mover is free. -/
def State.moverFree (s : State) (e : Nat) : Bool :=
  s.on (A.dme e) DM_ENG_CTRL_EN && !s.on (A.dme e) DM_ENG_STATUS_FAULT && decide ((s.chansIn e 2).length < s.movers)

/-- Engine `e` starts the next of its LOADED transfers (R335). -/
def State.transferStart (s : State) (e : Nat) : State :=
  if !s.moverFree e then s
  else
    match s.nextChan e with
    | none => s
    | some c =>
      let s := { s with lastStart := SMap.set 0 e (c + 1) s.lastStart }.put (A.dmc e c) DM_CH_STATUS_STATE 2
      let ws := (s.chan e c).words
      if dmaOp ws = 4 then State.tableRecords e c (dmaLen ws) s else s

/-- TRANSFER_START on engine `e`. -/
def execTransferStart (e : Nat) (s : State) : Host.Outcome State Fault Refusal :=
  .next (if e < 4 then s.transferStart e else s)

end Sys2Proof.Machine
end

