-- ==== Sys2Proof/Machine/Transport.lean ====
section
/-!
DEFINITION. The operations of the control port, its datagrams, key slots, channels and events
(spec/11_control_rings.md R296–R315; spec/10_capture_journal.md R290, R291).
-/

namespace Sys2Proof.Machine

/-! ## Operations (R299, R310, R311) -/

/-- What an operation answers: STATUS, COUNT, PARTIAL, and the 64-bit words of its data. -/
structure Answer where
  status : Nat
  count : Nat := 0
  part : Bool := false
  data : List Nat := []
  deriving DecidableEq, Repr

/-- Operation codes (R311). -/
def opRead : Nat := 0x01
def opWrite : Nat := 0x02
def opWritePair : Nat := 0x03
def opRmw : Nat := 0x04
def opBlockRead : Nat := 0x05
def opBlockWrite : Nat := 0x06
def opRingPush : Nat := 0x07
def opHead : Nat := 0x08
def opHello : Nat := 0x20
def opKey : Nat := 0x30

/-- One operation: its code, OPFLAGS, COUNT, ADDR, and the words of its data. -/
structure Operation where
  op : Nat
  flags : Nat := 0
  count : Nat := 1
  addr : Nat := 0
  words : List Nat := []
  deriving DecidableEq, Repr

/-- The transport answers: the boot code has installed the keys, and Armature is powered (R299). -/
def State.xpServes (s : State) : Bool := s.mode != 0 && s.on A.pw PW_STATUS_RAILS_GOOD

/-- In Halt only READ, BLOCK_READ, HEAD, HELLO and the WRITE of MD_CMD with OP = RESET execute (R299). -/
def haltAllows (o : Operation) : Bool :=
  [opRead, opBlockRead, opHead, opHello].contains o.op ||
    (o.op == opWrite && o.addr == A.md + 8 && o.words.getD 0 0 % 16 == 7)

/-- A word operation succeeded or failed. -/
def wordAnswer (st : Nat) (data : List Nat) : Answer :=
  if st = stOK then { status := st, count := 1, data := data } else { status := st }

/-- BLOCK_READ by slot `q`. -/
def State.blockRead (s : State) (q a n : Nat) : Answer × State :=
  let (st, s) := s.busCheck q .read a n
  if st ≠ stOK then ({ status := st }, s)
  else
    let (ws, s) := s.busWords a n
    ({ status := stOK, count := n, data := ws }, s)

/-- BLOCK_WRITE by slot `q`. -/
def State.blockWrite (s : State) (q a : Nat) (ws : List Nat) : Answer × State :=
  let (st, s) := s.busCheck q .write a ws.length
  if st ≠ stOK then ({ status := st }, s)
  else
    let (n, st, s) := s.busStore q a ws
    ({ status := st, count := n, part := st != stOK }, s)

/-- A list in groups of `n`. -/
def groupsOf (n : Nat) : Nat → List Nat → List (List Nat)
  | 0, _ => []
  | k + 1, ws => ws.take n :: groupsOf n k (ws.drop n)

/-- RING_PUSH of `k` descriptors to ring `r` by slot `q`; PUSH_SEQ is a free value where none is accepted. -/
def State.pushOp (s : State) (q r k : Nat) (ws : List Nat) : Answer × State :=
  let (st, s) := s.permit q .write (A.rgr r + 0x10) 8
  if st ≠ stOK then ({ status := st }, s)
  else
    let (st, n, seq, s) := s.ringPush r (groupsOf 8 k ws)
    if st = stBadValue then ({ status := st }, s)
    else if n = 0 then
      let (v, s) := s.fresh
      ({ status := st, data := [v.toNat / 2 ^ 32 * 2 ^ 32] }, s)
    else ({ status := st, count := n, data := [seq * 2 ^ 32] }, s)

/-- The READ right of slot `q` on RG_PROD of rings `r` up, in order: the first refusal decides. -/
def State.headCheck (s : State) (q r : Nat) : Nat → Nat × State
  | 0 => (stOK, s)
  | n + 1 =>
    let (st, s) := s.permit q .read (A.rgr r + 0x10) 8
    if st ≠ stOK then (st, s) else s.headCheck q (r + 1) n

/-- HEAD of `n` rings from `r`. -/
def State.headOp (s : State) (q r n : Nat) : Answer × State :=
  let (st, s) := s.headCheck q r n
  if st ≠ stOK then ({ status := st }, s)
  else ({ status := stOK, count := n, data := (List.range n).flatMap (fun k => s.headRecord (r + k)) }, s)

/-! ## HELLO and KEY (R313, R315) -/

/-- State of channel `c` of slot `q`. -/
def State.xpChan (s : State) (q c : Nat) : XpChan := SMap.get {} s.xp.chans (q * 8 + c)

/-- Store it. -/
def State.setXpChan (s : State) (q c : Nat) (x : XpChan) : State :=
  { s with xp := { s.xp with chans := SMap.set {} (q * 8 + c) x s.xp.chans } }

/-- NEXT of channel `c` of slot `q`. -/
def State.xpNext (s : State) (q c : Nat) : Nat := s.get (A.xps q) (XP_CH_SEQ_NEXT c)

/-- RESET_CHANNELS: NEXT of every channel is START_SEQ, buffered requests and cached responses go, and the window is as
XP_CTRL says. -/
def State.resetChannels (s : State) (q start : Nat) : State :=
  (List.range 8).foldl (fun s c =>
    (s.setXpChan q c { window := s.get A.xp XP_CTRL_WINDOW }).put (A.xps q) (XP_CH_SEQ_NEXT c) start) s

/-- HELLO of slot `q`: no answer beyond 16 within one second. -/
def State.helloOp (s : State) (q flags start : Nat) : Option Answer × State :=
  let recent := (SMap.get [] s.xp.hellos q).filter (fun t => decide (s.since t < 1000000000))
  if 16 ≤ recent.length then (none, s)
  else
    let s := { s with xp := { s.xp with hellos := SMap.set [] q (recent ++ [s.time.clk]) s.xp.hellos } }
    let s := if flags.testBit 0 then s.resetChannels q start else s
    let nexts := (List.range 4).map (fun k => s.xpNext q (2 * k) * 2 ^ 32 + s.xpNext q (2 * k + 1))
    let w0 := s.mram.bootId * 2 ^ 32 + q * 2 ^ 24 + s.get A.up UP_STATUS_ROLE * 2 ^ 16 + s.get A.xp XP_CTRL_WINDOW * 2 ^ 8
    (some { status := stOK, data := [w0, s.image.clockId] ++ nexts }, s)

/-- The keys of a slot with generation `g` replaced. -/
def KeySlot.setGen (x : KeySlot) (g : Nat) (k : KeyGen) : KeySlot := if g = 0 then { x with k0 := k } else { x with k1 := k }

/-- The key of generation `g`. -/
def KeySlot.genOf (x : KeySlot) (g : Nat) : KeyGen := if g = 0 then x.k0 else x.k1

/-- Store a key slot in MRAM. -/
def State.setKeySlot (s : State) (q : Nat) (x : KeySlot) : State :=
  { s with mram := { s.mram with keys := SMap.set {} q x s.mram.keys } }

/-- Replay state of generation `g` of slot `q` starts empty. -/
def State.clearReplay (s : State) (q g : Nat) : State :=
  { s with xp := { s.xp with replays := SMap.set {} (q * 2 + g) {} s.xp.replays } }

/-- KEY of slot `q`: the new key waits as the other generation. -/
def State.keyOp (s : State) (q : Nat) (k : Bytes) : Answer × State :=
  let (ok, s) := s.hasRight q .key 0 1
  if !ok then ({ status := stAccessDenied }, s)
  else
    let x := s.keySlot q
    let g := 1 - x.gen
    ({ status := stOK }, ((s.setKeySlot q (x.setGen g { key := k })).clearReplay q g).showKey q)

/-! ## Execution -/

/-- Execute an operation of slot `q`; none: no answer is sent. -/
def State.operate (s : State) (q : Nat) (o : Operation) : Option Answer × State :=
  let bad : Option Answer × State := (some { status := stBadValue }, s)
  let one := fun (x : Nat × State) => (some (wordAnswer x.1 []), x.2)
  let val := fun (x : Nat × Nat × State) => (some (wordAnswer x.1 [x.2.1]), x.2.2)
  let wrap := fun (x : Answer × State) => (some x.1, x.2)
  let a := o.addr
  let n := o.words.length
  let w := o.words.getD 0 0
  if s.mode = 11 ∧ !haltAllows o then (some { status := stAccessDenied }, s)
  else if o.op ≠ opHello ∧ o.flags ≠ 0 then bad
  else if o.op = opRead then if o.count = 1 ∧ n = 0 then val (s.busRead q a) else bad
  else if o.op = opWrite then if o.count = 1 ∧ n = 1 then one (s.busWrite q a w) else bad
  else if o.op = opWritePair then if o.count = 1 ∧ n = 1 then one (s.busPair q a w) else bad
  else if o.op = opRmw then if o.count = 1 ∧ n = 2 then val (s.busRmw q a w (o.words.getD 1 0)) else bad
  else if o.op = opBlockRead then if 1 ≤ o.count ∧ o.count ≤ 1024 ∧ n = 0 then wrap (s.blockRead q a o.count) else bad
  else if o.op = opBlockWrite then if 1 ≤ o.count ∧ o.count ≤ 1024 ∧ n = o.count then wrap (s.blockWrite q a o.words) else bad
  else if o.op = opRingPush then
    if 1 ≤ o.count ∧ o.count ≤ 4 ∧ n = 8 * o.count ∧ a < 256 then wrap (s.pushOp q a o.count o.words) else bad
  else if o.op = opHead then
    if 1 ≤ o.count ∧ o.count ≤ 16 ∧ n = 0 ∧ a + o.count ≤ 256 then wrap (s.headOp q a o.count) else bad
  else if o.op = opHello then if o.count = 0 ∧ n = 1 ∧ o.flags ≤ 1 then s.helloOp q o.flags (w / 2 ^ 32) else bad
  else if o.op = opKey then if o.count = 0 ∧ n = 4 then wrap (s.keyOp q (o.words.flatMap (be 8))) else bad
  else bad

/-- Execute an operation and count a refused one (R311). -/
def State.perform (s : State) (q : Nat) (o : Operation) : Option Answer × State :=
  let r := s.operate q o
  match r.1 with
  | some a => (r.1, if r.2.mode = 0 then r.2 else r.2.countDenied a.status)
  | none => r

/-- FLAGS of a response: PRIMARY and PARTIAL. -/
def State.answerFlags (s : State) (a : Answer) : Nat := bit s.authority + 2 * bit a.part

/-- An operation that slot `q` asks for outside a datagram, and its answer; Reset answers nothing. -/
def State.ask (s : State) (q : Nat) (o : Operation) : State :=
  if !s.xpServes ∨ 8 ≤ q then s
  else
    let r := s.perform q o
    match r.1 with
    | none => r.2
    | some a => if r.2.mode = 0 then r.2 else r.2.emit (.response q o.op a.status a.count (r.2.answerFlags a) a.data)

/-- READ. -/
def execReadWord (q a : Nat) (s : State) : Host.Outcome State Fault Refusal := .next (s.ask q { op := opRead, addr := a })

/-- WRITE. -/
def execWriteWord (q a v : Nat) (s : State) : Host.Outcome State Fault Refusal :=
  .next (s.ask q { op := opWrite, addr := a, words := [v % 2 ^ 64] })

/-- WRITE_PAIR. -/
def execWritePair (q a v : Nat) (s : State) : Host.Outcome State Fault Refusal :=
  .next (s.ask q { op := opWritePair, addr := a, words := [v % 2 ^ 64] })

/-- RMW. -/
def execRmw (q a mask v : Nat) (s : State) : Host.Outcome State Fault Refusal :=
  .next (s.ask q { op := opRmw, addr := a, words := [mask % 2 ^ 64, v % 2 ^ 64] })

/-- BLOCK_READ of `n` words. -/
def execBlockRead (q a n : Nat) (s : State) : Host.Outcome State Fault Refusal :=
  .next (s.ask q { op := opBlockRead, count := n, addr := a })

/-- BLOCK_WRITE. -/
def execBlockWrite (q a : Nat) (ws : List Nat) (s : State) : Host.Outcome State Fault Refusal :=
  .next (s.ask q { op := opBlockWrite, count := ws.length, addr := a, words := ws.map (· % 2 ^ 64) })

/-- RING_PUSH of the descriptors in `ws`, eight words each. -/
def execRingPush (q r : Nat) (ws : List Nat) (s : State) : Host.Outcome State Fault Refusal :=
  .next (s.ask q { op := opRingPush, count := ws.length / 8, addr := r, words := ws.map (· % 2 ^ 64) })

/-- HEAD of `n` rings from ring `r`. -/
def execHead (q r n : Nat) (s : State) : Host.Outcome State Fault Refusal :=
  .next (s.ask q { op := opHead, count := n, addr := r })

/-- HELLO. -/
def execHello (q flags start : Nat) (s : State) : Host.Outcome State Fault Refusal :=
  .next (s.ask q { op := opHello, flags := flags, count := 0, words := [start % 2 ^ 32 * 2 ^ 32] })

/-- KEY. -/
def execKey (q : Nat) (k : List Byte) (s : State) : Host.Outcome State Fault Refusal :=
  .next (s.ask q { op := opKey, count := 0, words := (groupsOf 8 (k.length / 8) (k.map (·.toNat))).map (fun g => g.foldl (fun a x => a * 256 + x) 0) })

/-! ## Datagrams sent (R300, R303) -/

/-- Send a datagram of slot `q`; the body is given in plain text. -/
def State.sendDatagram (s : State) (lane addr port kind q chan seq : Nat) (body : Bytes) : State :=
  let s := s.emit (.control lane addr port kind q (s.keySlot q).gen chan (2 ^ 63 + s.xp.sent) seq body)
  { s with xp := { s.xp with sent := s.xp.sent + 1 } }

/-- The body of a response (R310). -/
def State.answerBody (s : State) (op : Nat) (a : Answer) : Bytes :=
  be 1 op ++ be 1 a.status ++ be 2 a.count ++ be 1 (s.answerFlags a) ++ be 1 s.mode ++ be 2 0 ++ be 4 0 ++
    be 4 (shortOf s.nowQ) ++ a.data.flatMap (be 8)

/-! ## Requests on a channel (R306) -/

/-- The operation that a request body holds; none where it breaks the layout of R310. -/
def operationOf (b : Bytes) : Option Operation :=
  if b.length < 16 ∨ (b.length - 16) % 8 ≠ 0 ∨ rd b 4 4 ≠ 0 then none
  else
    some { op := rd b 0 1, flags := rd b 1 1, count := rd b 2 2, addr := rd b 8 8,
           words := (List.range ((b.length - 16) / 8)).map (fun k => rd b (16 + 8 * k) 8) }

/-- Execute the operation of a request body, and the body of its response; none: nothing is sent. -/
def State.runBody (s : State) (q : Nat) (b : Bytes) : Option Bytes × State :=
  match operationOf b with
  | none => (some (s.answerBody (rd b 0 1) { status := stBadValue }), s)
  | some o =>
    let r := s.perform q o
    match r.1 with
    | none => (none, r.2)
    | some a => if r.2.mode = 0 then (none, r.2) else (some (r.2.answerBody o.op a), r.2)

/-- Answer a request on the lane, to the address and port, that it came from (R297). -/
def State.reply (s : State) (q c : Nat) (r : XpRequest) (b : Bytes) : State := s.sendDatagram r.lane r.addr r.port 2 q c r.seq b

/-- Execute the request that is next on its channel: NEXT moves on, and the response is kept. -/
def State.runRequest (s : State) (q c : Nat) (r : XpRequest) : State :=
  let x := s.runBody q r.body
  match x.1 with
  | none => x.2
  | some b =>
    let t := x.2.put (A.xps q) (XP_CH_SEQ_NEXT c) (r.seq + 1)
    let ch := t.xpChan q c
    (t.setXpChan q c { ch with cache := ((r.seq, b) :: ch.cache).take ch.window }).reply q c r b

/-- Execute up to `n` buffered requests that have become next. -/
def State.runBuffered (q c : Nat) : Nat → State → State
  | 0, s => s
  | n + 1, s =>
    let ch := s.xpChan q c
    match ch.buffered.find? (fun r => r.seq == s.xpNext q c) with
    | none => s
    | some r =>
      let s := s.setXpChan q c { ch with buffered := ch.buffered.filter (· != r) }
      State.runBuffered q c n (s.runRequest q c r)

/-- An authenticated request other than HELLO, by its distance from NEXT (R306). -/
def State.request (s : State) (q c : Nat) (r : XpRequest) : State :=
  let d := sext 32 ((r.seq + 2 ^ 32 - s.xpNext q c) % 2 ^ 32)
  let ch := s.xpChan q c
  let w : Int := ch.window
  if d = 0 then State.runBuffered q c 16 (s.runRequest q c r)
  else if 1 ≤ d ∧ d ≤ w - 1 then
    if ch.buffered.any (fun x => x.seq == r.seq) then s else s.setXpChan q c { ch with buffered := ch.buffered ++ [r] }
  else
    match (if -w ≤ d ∧ d ≤ -1 then ch.cache.find? (fun e => e.1 == r.seq) else none) with
    | some (_, b) => (s.bump A.xp XP_CNT_RETX_RESP_COUNT).reply q c r b
    | none => s.bump A.xp XP_CNT_SEQ_DROP_COUNT

/-! ## Events and acknowledgements (R298, R308) -/

/-- Slot `q` has sent an authenticated datagram, so that it has an event lane and an address. -/
def State.slotKnown (s : State) (q : Nat) : Bool :=
  s.get (A.xps q) XP_SLOT_DPORT_PORT != 0 || s.get (A.xps q) XP_SLOT_DEST_LO_ADDR != 0 || s.get (A.xps q) XP_SLOT_DEST_HI_ADDR != 0

/-- The event lane of slot `q` is up. -/
def State.eventLaneUp (s : State) (q : Nat) : Bool :=
  s.slotKnown q && s.on (A.xpl (s.get (A.xps q) XP_SLOT_STATUS_EV_LANE)) XP_LANE_CFG_LINK_UP

/-- Send an event on its slot and channel. -/
def State.sendEvent (s : State) (e : SentEvent) : State :=
  let b := A.xps e.slot
  s.sendDatagram (s.get b XP_SLOT_STATUS_EV_LANE) (s.get b XP_SLOT_DEST_HI_ADDR * 2 ^ 64 + s.get b XP_SLOT_DEST_LO_ADDR)
    (s.get b XP_SLOT_DPORT_PORT) 3 e.slot e.chan e.dseq (eventBytes e.event)

/-- The oldest waiting event is sent with the next event sequence, while fewer than 64 are unacknowledged. -/
def State.eventSend (s : State) : State :=
  let q := s.get A.xp XP_CTRL_EV_SLOT
  let c := s.get A.jr JR_CTRL_EV_CHANNEL
  match s.journal.events with
  | [] => s
  | e :: rest =>
    if !s.xpServes || !s.eventLaneUp q || decide (64 ≤ s.journal.unacked.length) then s
    else
      let n := s.get (A.xps q) (XP_CH_SEQ_EV_NEXT c)
      let x : SentEvent := ⟨q, c, n, s.time.clk, e⟩
      let s := { s with journal := { s.journal with events := rest, unacked := s.journal.unacked ++ [x] } }
      (s.put (A.xps q) (XP_CH_SEQ_EV_NEXT c) (n + 1)).sendEvent x

/-- EVENT_SEND. -/
def execEventSend (s : State) : Host.Outcome State Fault Refusal := .next s.eventSend

/-- EVENT_RESEND: unacknowledged events whose interval has passed since they were sent are sent again, in order. -/
def State.eventResend (s : State) : State :=
  if !s.xpServes then s
  else
    let due := fun (s : State) (e : SentEvent) =>
      decide (s.get A.xp XP_CTRL_EV_RETX_US * 1000 ≤ s.since e.sentAt) && s.eventLaneUp e.slot
    let all := s.journal.unacked
    let s1 := { s with journal := { s.journal with
      unacked := all.map (fun (e : SentEvent) => if due s e then { e with sentAt := s.time.clk } else e) } }
    (all.filter (due s)).foldl (fun s e => (s.bump A.xp XP_CNT_EV_RETX_COUNT).sendEvent e) s1

/-- EVENT_RESEND. -/
def execEventResend (s : State) : Host.Outcome State Fault Refusal := .next s.eventResend

/-- ACK of slot `q` and channel `c`: events up to `seq` are acknowledged. -/
def State.ackEvents (s : State) (q c seq : Nat) : State :=
  let hit := fun (e : SentEvent) => e.slot == q && e.chan == c && decide ((seq + 2 ^ 32 - e.dseq) % 2 ^ 32 < 2 ^ 31)
  match (s.journal.unacked.filter hit).getLast? with
  | none => s
  | some e =>
    { s with journal := { s.journal with unacked := s.journal.unacked.filter (fun x => !hit x) } }.put (A.xps q)
      (XP_CH_ACK_EV_ACKED c) e.dseq

/-- ACK. -/
def execAck (q c seq : Nat) (s : State) : Host.Outcome State Fault Refusal :=
  .next (if s.xpServes ∧ q < 8 ∧ c < 8 then s.ackEvents q c (seq % 2 ^ 32) else s)

/-- Control lane `k` gains link: events whose lane is down move to it. -/
def State.laneUp (s : State) (k : Nat) : State :=
  let s := s.put (A.xpl k) XP_LANE_CFG_LINK_UP 1
  (List.range 8).foldl (fun s q => if s.slotKnown q && !s.eventLaneUp q then s.put (A.xps q) XP_SLOT_STATUS_EV_LANE k else s) s

/-- CONTROL_LANE_UP. -/
def execControlLaneUp (k : Nat) (s : State) : Host.Outcome State Fault Refusal :=
  .next (if s.mode ≠ 0 ∧ k < 2 then s.laneUp k else s)

/-- Control lane `k` loses link: its slots' events move to the other lane, if that is up. -/
def State.laneDown (s : State) (k : Nat) : State :=
  let s := ((s.put (A.xpl k) XP_LANE_CFG_LINK_UP 0).bump (A.xpl k) XP_LANE_DOWN_COUNT).raise A.xp XP_EVENT_FLAGS 1
  if s.on (A.xpl (1 - k)) XP_LANE_CFG_LINK_UP then
    (List.range 8).foldl (fun s q =>
      if s.slotKnown q && s.get (A.xps q) XP_SLOT_STATUS_EV_LANE == k then s.put (A.xps q) XP_SLOT_STATUS_EV_LANE (1 - k) else s) s
  else s

/-- CONTROL_LANE_LOSS. -/
def execControlLaneLoss (k : Nat) (s : State) : Host.Outcome State Fault Refusal :=
  .next (if k < 2 ∧ s.on (A.xpl k) XP_LANE_CFG_LINK_UP then s.laneDown k else s)

/-! ## Datagrams received (R296, R300–R302, R315) -/

/-- COUNTER `n` passes the replay check (R302). -/
def Replay.fresh (r : Replay) (n : Nat) : Bool :=
  decide (r.high ≤ n) || (decide (r.high - 1 - n ≤ 64) && !r.seen.testBit (r.high - 1 - n))

/-- COUNTER `n` has been accepted. -/
def Replay.accept (r : Replay) (n : Nat) : Replay :=
  if r.high ≤ n then
    let k := n + 1 - r.high
    { high := n + 1, seen := if r.high = 0 ∨ 65 ≤ k then 1 else (r.seen * 2 ^ k + 1) % 2 ^ 65 }
  else { r with seen := r.seen ||| 2 ^ (r.high - 1 - n) }

/-- Replay state of generation `g` of slot `q`. -/
def State.replay (s : State) (q g : Nat) : Replay := SMap.get {} s.xp.replays (q * 2 + g)

/-- The header and the length of a datagram are as R300 defines, and its slot is keyed. -/
def State.wellFormed (s : State) (d : Datagram) : Bool :=
  let h := d.header
  let q := rd h 2 1 / 32
  let x := s.keySlot q
  h.length == 24 && rd h 0 1 == 1 && (rd h 1 1 == 1 || rd h 1 1 == 4) && rd h 2 1 % 16 == 0 && decide (rd h 3 1 < 8) &&
    rd h 22 2 == 0 && decide (rd h 20 2 ≤ min 8272 d.body.length) && (!x.k0.key.isEmpty || !x.k1.key.isEmpty)

/-- The tag does not verify: counted, and journalled at most once per second (R301). -/
def State.authFail (s : State) : State :=
  ((s.bump A.xp XP_CNT_AUTH_FAIL_COUNT).raise A.xp XP_EVENT_FLAGS 0).limited (limitKey 9 0) 1
    (fun _ s => s.reportOther 3 objNone 0 0)

/-- The first datagram under the other generation makes it current and erases the old key (R315). -/
def State.turnKey (s : State) (q g : Nat) : State :=
  let x := s.keySlot q
  if x.gen = g then s
  else
    let s := (s.setKeySlot q { x.setGen x.gen {} with gen := g }).clearReplay q x.gen
    (s.showKey q).raise A.xp XP_EVENT_FLAGS 2

/-- An authenticated datagram of slot `q`: where it came from, and its highest COUNTER. -/
def State.noteSource (s : State) (q g : Nat) (d : Datagram) : State :=
  let b := A.xps q
  let s := (s.put b XP_SLOT_DEST_HI_ADDR (d.addr / 2 ^ 64)).put b XP_SLOT_DEST_LO_ADDR d.addr
  let s := (s.put b XP_SLOT_DPORT_PORT d.port).put b XP_SLOT_STATUS_EV_LANE d.lane
  s.put b XP_SLOT_CTR_COUNTER ((s.replay q g).high - 1)

/-- An accepted datagram is carried out: an acknowledgement, HELLO, or a request of a channel. -/
def State.accepted (s : State) (q c : Nat) (d : Datagram) (body : Bytes) : State :=
  let r : XpRequest := ⟨rd d.header 16 4, d.lane, d.addr, d.port, body⟩
  if rd d.header 1 1 = 4 then s.ackEvents q c r.seq
  else if rd body 0 1 = opHello then
    let x := s.runBody q body
    match x.1 with
    | some b => x.2.reply q c r b
    | none => x.2
  else s.request q c r

/-- A transport datagram arrives on a control lane (R301, R302). -/
def State.datagram (s : State) (d : Datagram) : State :=
  let s := s.bump (A.xpl d.lane) XP_LANE_RX_COUNT
  if !s.wellFormed d then s.bump A.xp XP_CNT_MALFORMED_COUNT
  else
    let h := d.header
    let q := rd h 2 1 / 32
    let g := rd h 2 1 / 16 % 2
    let boot := rd h 4 4
    let n := rd h 8 8
    let body := d.body.take (rd h 20 2)
    let x := s.keySlot q
    let hello := rd h 1 1 == 1 && rd body 0 1 == opHello
    if !d.tag || (x.genOf g).key.isEmpty then s.authFail
    else if boot ≠ s.mram.bootId ∧ (boot ≠ 0 ∨ !hello) then s.bump A.xp XP_CNT_BOOT_MISMATCH_COUNT
    else if n.testBit 63 || !(if boot = 0 then decide ((x.genOf g).hello ≤ n) else (s.replay q g).fresh n) then
      s.bump A.xp XP_CNT_REPLAY_COUNT
    else
      let s := if boot = 0 then s.setKeySlot q (x.setGen g { x.genOf g with hello := n + 1 })
        else { s with xp := { s.xp with replays := SMap.set {} (q * 2 + g) ((s.replay q g).accept n) s.xp.replays } }
      ((s.turnKey q g).noteSource q g d).accepted q (rd h 3 1) d body

/-- DATAGRAM_RECEIVE: a frame on a control lane that is up; one that is no transport datagram for the lane is dropped and
counted. -/
def execDatagramReceive (d : Datagram) (s : State) : Host.Outcome State Fault Refusal :=
  .next (if !s.xpServes ∨ 2 ≤ d.lane ∨ !s.on (A.xpl d.lane) XP_LANE_CFG_LINK_UP then s
    else if d.transport then s.datagram d else s.bump (A.xpl d.lane) XP_LANE_RX_DROP_COUNT)

/-! ## The journal (R290, R291) -/

/-- JOURNAL_REPORT: source `src` makes a report. -/
def execJournalReport (src code kind object detail : Nat) (s : State) : Host.Outcome State Fault Refusal :=
  .next (if s.mode ≠ 0 ∧ src < 1024 then s.report src code kind object detail else s)

/-- COALESCER_FLUSH: the pass that follows a full ring, or the coalescer of source `src` alone. -/
def execCoalescerFlush (src : Nat) (s : State) : Host.Outcome State Fault Refusal :=
  .next (if s.mode = 0 then s else if s.journal.wasFull then s.jrPass else s.jrFlush src 0)

end Sys2Proof.Machine
end

