-- ==== Sys2Proof/Machine/Dispatch.lean ====
section
/-!
DEFINITION. What each command does: one arm per constructor, each one call of its meaning.
-/

namespace Sys2Proof.Machine

/-- The effect of a command on everything but the queue. -/
def exec (i : Instr) (s : State) : Host.Outcome State Fault Refusal :=
  match i with
  | .registerWrite q a w => Sys2Proof.Machine.execRegisterWrite q a w s
  | .rwpValueWrite q a v => Sys2Proof.Machine.execRwpValueWrite q a v s
  | .rwpComplementWrite q a v => Sys2Proof.Machine.execRwpComplementWrite q a v s
  | .rwpArmExpiry a => Sys2Proof.Machine.execRwpArmExpiry a s
  | .dieLinkFlitReceive n k failed bad => Sys2Proof.Machine.execDieLinkFlitReceive n k failed bad s
  | .rootPllLoss => Sys2Proof.Machine.execRootPllLoss s
  | .timeBaseTick n => Sys2Proof.Machine.execTimeBaseTick n s
  | .sliceTimeCompare n d => Sys2Proof.Machine.execSliceTimeCompare n d s
  | .sliceTimeReload n => Sys2Proof.Machine.execSliceTimeReload n s
  | .tbAddendCommit v => Sys2Proof.Machine.execTbAddendCommit v s
  | .tbRoleWrite role => Sys2Proof.Machine.execTbRoleWrite role s
  | .syncReceive i0 domain seq origin corr rx tick log => Sys2Proof.Machine.execSyncReceive i0 domain seq origin corr rx tick log s
  | .ppsInEdge falling => Sys2Proof.Machine.execPpsInEdge falling s
  | .holdoverTimeout => Sys2Proof.Machine.execHoldoverTimeout s
  | .stepAuth seq => Sys2Proof.Machine.execStepAuth seq s
  | .stepApply => Sys2Proof.Machine.execStepApply s
  | .ppsOutPulse => Sys2Proof.Machine.execPpsOutPulse s
  | .pdelayMeasurement l seq t2 t3 t4 nrr => Sys2Proof.Machine.execPdelayMeasurement l seq t2 t3 t4 nrr s
  | .suspectEnd i0 => Sys2Proof.Machine.execSuspectEnd i0 s
  | .delayReqSend i0 => Sys2Proof.Machine.execDelayReqSend i0 s
  | .delayRespReceive i0 seq t4 corr log => Sys2Proof.Machine.execDelayRespReceive i0 seq t4 corr log s
  | .tpArm p => Sys2Proof.Machine.execTpArm p s
  | .tpDisarm p => Sys2Proof.Machine.execTpDisarm p s
  | .tpOutputCompare p => Sys2Proof.Machine.execTpOutputCompare p s
  | .tpCaptureEdge p rising => Sys2Proof.Machine.execTpCaptureEdge p rising s
  | .tpCapSecRead p => Sys2Proof.Machine.execTpCapSecRead p s
  | .tbNowSecRead => Sys2Proof.Machine.execTbNowSecRead s
  | .scNowSecRead c => Sys2Proof.Machine.execScNowSecRead c s
  | .tbSetGo => Sys2Proof.Machine.execTbSetGo s
  | .flushPd i0 => Sys2Proof.Machine.execFlushPd i0 s
  | .clearFaulty i0 => Sys2Proof.Machine.execClearFaulty i0 s
  | .physSyncSend l => Sys2Proof.Machine.execPhysSyncSend l s
  | .announceReceive i0 domain prio1 quality prio2 gm steps source => Sys2Proof.Machine.execAnnounceReceive i0 domain prio1 quality prio2 gm steps source s
  | .push c kind tag => Sys2Proof.Machine.execPush c kind tag s
  | .flush c tag => Sys2Proof.Machine.execFlush c tag s
  | .segNop c tag => Sys2Proof.Machine.execSegNop c tag s
  | .segmentSwitch c => Sys2Proof.Machine.execSegmentSwitch c s
  | .scCellEnable c en => Sys2Proof.Machine.execScCellEnable c en s
  | .frameConversion x q => Sys2Proof.Machine.execFrameConversion x q s
  | .sceneSyncSend c l => Sys2Proof.Machine.execSceneSyncSend c l s
  | .sceneAnnounceSend c l => Sys2Proof.Machine.execSceneAnnounceSend c l s
  | .envelopeFrame l b => Sys2Proof.Machine.execEnvelopeFrame l b s
  | .envelopeHeartbeat l b => Sys2Proof.Machine.execEnvelopeHeartbeat l b s
  | .envelopeEndOfStream l b => Sys2Proof.Machine.execEnvelopeEndOfStream l b s
  | .envelopeGrantRequest l b => Sys2Proof.Machine.execEnvelopeGrantRequest l b s
  | .grantAnswerSend x => Sys2Proof.Machine.execGrantAnswerSend x s
  | .sourceTimeout n i0 => Sys2Proof.Machine.execSourceTimeout n i0 s
  | .grantPeriod n i0 => Sys2Proof.Machine.execGrantPeriod n i0 s
  | .grantEventSend n i0 => Sys2Proof.Machine.execGrantEventSend n i0 s
  | .lateTest x => Sys2Proof.Machine.execLateTest x s
  | .holdLimitExpiry x => Sys2Proof.Machine.execHoldLimitExpiry x s
  | .hmFeedRead => Sys2Proof.Machine.execHmFeedRead s
  | .hmFeedWrite => Sys2Proof.Machine.execHmFeedWrite s
  | .clearCounts => Sys2Proof.Machine.execClearCounts s
  | .resetHold => Sys2Proof.Machine.execResetHold s
  | .launchStage l => Sys2Proof.Machine.execLaunchStage l s
  | .shadowOpen l => Sys2Proof.Machine.execShadowOpen l s
  | .launch l => Sys2Proof.Machine.execLaunch l s
  | .transmitComplete l => Sys2Proof.Machine.execTransmitComplete l s
  | .lnRwRead n => Sys2Proof.Machine.execLnRwRead n s
  | .lnRwWrite n => Sys2Proof.Machine.execLnRwWrite n s
  | .configChange l tag => Sys2Proof.Machine.execConfigChange l tag s
  | .cancel l tag => Sys2Proof.Machine.execCancel l tag s
  | .gcCmdNop l tag => Sys2Proof.Machine.execGcCmdNop l tag s
  | .configChangeTime l => Sys2Proof.Machine.execConfigChangeTime l s
  | .gateEntryStart l intact => Sys2Proof.Machine.execGateEntryStart l intact s
  | .gateEnWrite l en => Sys2Proof.Machine.execGateEnWrite l en s
  | .gcListDataRead l => Sys2Proof.Machine.execGcListDataRead l s
  | .egressEnqueue n => Sys2Proof.Machine.execEgressEnqueue n s
  | .transmitSelect l => Sys2Proof.Machine.execTransmitSelect l s
  | .preempt l => Sys2Proof.Machine.execPreempt l s
  | .algoApply l k => Sys2Proof.Machine.execAlgoApply l k s
  | .verifySend l => Sys2Proof.Machine.execVerifySend l s
  | .verifyFrameReceive l response => Sys2Proof.Machine.execVerifyFrameReceive l response s
  | .restartVerify l => Sys2Proof.Machine.execRestartVerify l s
  | .lldpSend l => Sys2Proof.Machine.execLldpSend l s
  | .lldpReceive l f => Sys2Proof.Machine.execLldpReceive l f s
  | .lldpTtlExpiry l => Sys2Proof.Machine.execLldpTtlExpiry l s
  | .fragmentReceive l smd count frag b => Sys2Proof.Machine.execFragmentReceive l smd count frag b s
  | .queueSample l => Sys2Proof.Machine.execQueueSample l s
  | .commit c tag => Sys2Proof.Machine.execCommit c tag s
  | .clMxCancel c tag => Sys2Proof.Machine.execClMxCancel c tag s
  | .clMxNop c tag => Sys2Proof.Machine.execClMxNop c tag s
  | .matrixChangeEffective c => Sys2Proof.Machine.execMatrixChangeEffective c s
  | .clCellEnable c en => Sys2Proof.Machine.execClCellEnable c en s
  | .matrixCycleStart c => Sys2Proof.Machine.execMatrixCycleStart c s
  | .coldstartForward c => Sys2Proof.Machine.execColdstartForward c s
  | .substitution c ch cyc win => Sys2Proof.Machine.execSubstitution c ch cyc win s
  | .cycleMark c m => Sys2Proof.Machine.execCycleMark c m s
  | .clMarkCfgWrite n w => Sys2Proof.Machine.execClMarkCfgWrite n w s
  | .clNodeCfgWrite n w => Sys2Proof.Machine.execClNodeCfgWrite n w s
  | .clMxW1Read n => Sys2Proof.Machine.execClMxW1Read n s
  | .ingressFrame l b intact full => Sys2Proof.Machine.execIngressFrame l b intact full s
  | .recircPass n p => Sys2Proof.Machine.execRecircPass n p s
  | .slowPathRecord => Sys2Proof.Machine.execSlowPathRecord s
  | .cfRead n => Sys2Proof.Machine.execCfRead n s
  | .add n => Sys2Proof.Machine.execAdd n s
  | .remove n => Sys2Proof.Machine.execRemove n s
  | .commitEpoch n => Sys2Proof.Machine.execCommitEpoch n s
  | .clearHits n => Sys2Proof.Machine.execClearHits n s
  | .epochRetire n => Sys2Proof.Machine.execEpochRetire n s
  | .stNop n tag => Sys2Proof.Machine.execStNop n tag s
  | .stRead n tag => Sys2Proof.Machine.execStRead n tag s
  | .stage n tag => Sys2Proof.Machine.execStage n tag s
  | .stCommit n tag => Sys2Proof.Machine.execStCommit n tag s
  | .stAbort n tag => Sys2Proof.Machine.execStAbort n tag s
  | .readCounts n tag => Sys2Proof.Machine.execReadCounts n tag s
  | .unblock n tag => Sys2Proof.Machine.execUnblock n tag s
  | .batchApply n => Sys2Proof.Machine.execBatchApply n s
  | .lateApply n => Sys2Proof.Machine.execLateApply n s
  | .stGrpRead n => Sys2Proof.Machine.execStGrpRead n s
  | .stGrpStage n => Sys2Proof.Machine.execStGrpStage n s
  | .sgConfigChange n g tag => Sys2Proof.Machine.execSgConfigChange n g tag s
  | .sgCancel n g tag => Sys2Proof.Machine.execSgCancel n g tag s
  | .sgClear n g tag => Sys2Proof.Machine.execSgClear n g tag s
  | .sgNop n g tag => Sys2Proof.Machine.execSgNop n g tag s
  | .sgConfigChangeTime n g => Sys2Proof.Machine.execSgConfigChangeTime n g s
  | .sgEntryStart n g => Sys2Proof.Machine.execSgEntryStart n g s
  | .sgDataRead n => Sys2Proof.Machine.execSgDataRead n s
  | .fmRead n => Sys2Proof.Machine.execFmRead n s
  | .fmWrite n => Sys2Proof.Machine.execFmWrite n s
  | .clearRed n => Sys2Proof.Machine.execClearRed n s
  | .frGenRead n => Sys2Proof.Machine.execFrGenRead n s
  | .frGenWrite n => Sys2Proof.Machine.execFrGenWrite n s
  | .frGenReset n => Sys2Proof.Machine.execFrGenReset n s
  | .frRecRead n => Sys2Proof.Machine.execFrRecRead n s
  | .frRecWrite n => Sys2Proof.Machine.execFrRecWrite n s
  | .frRecReset n => Sys2Proof.Machine.execFrRecReset n s
  | .frRecClearCounts n => Sys2Proof.Machine.execFrRecClearCounts n s
  | .recoveryResetTimer n i0 => Sys2Proof.Machine.execRecoveryResetTimer n i0 s
  | .latentErrorTest n i0 => Sys2Proof.Machine.execLatentErrorTest n i0 s
  | .latentBaseReset n i0 => Sys2Proof.Machine.execLatentBaseReset n i0 s
  | .heartbeatSend => Sys2Proof.Machine.execHeartbeatSend s
  | .heartbeatReceive k b => Sys2Proof.Machine.execHeartbeatReceive k b s
  | .pairLinkTimeout k => Sys2Proof.Machine.execPairLinkTimeout k s
  | .pairWaitExpiry => Sys2Proof.Machine.execPairWaitExpiry s
  | .handover => Sys2Proof.Machine.execHandover s
  | .stateMessageSend type x => Sys2Proof.Machine.execStateMessageSend type x s
  | .stateMessageResend => Sys2Proof.Machine.execStateMessageResend s
  | .stateMessageReceive k b => Sys2Proof.Machine.execStateMessageReceive k b s
  | .resync => Sys2Proof.Machine.execResync s
  | .digestClose => Sys2Proof.Machine.execDigestClose s
  | .captureRecordWrite limit => Sys2Proof.Machine.execCaptureRecordWrite limit s
  | .captureExport => Sys2Proof.Machine.execCaptureExport s
  | .journalReport src code kind object detail => Sys2Proof.Machine.execJournalReport src code kind object detail s
  | .coalescerFlush src => Sys2Proof.Machine.execCoalescerFlush src s
  | .eventSend => Sys2Proof.Machine.execEventSend s
  | .eventResend => Sys2Proof.Machine.execEventResend s
  | .ack q c seq => Sys2Proof.Machine.execAck q c seq s
  | .datagramReceive d => Sys2Proof.Machine.execDatagramReceive d s
  | .controlLaneLoss k => Sys2Proof.Machine.execControlLaneLoss k s
  | .readWord q a => Sys2Proof.Machine.execReadWord q a s
  | .writeWord q a v => Sys2Proof.Machine.execWriteWord q a v s
  | .writePair q a v => Sys2Proof.Machine.execWritePair q a v s
  | .rmw q a mask v => Sys2Proof.Machine.execRmw q a mask v s
  | .blockRead q a n => Sys2Proof.Machine.execBlockRead q a n s
  | .blockWrite q a ws => Sys2Proof.Machine.execBlockWrite q a ws s
  | .ringPush q r ws => Sys2Proof.Machine.execRingPush q r ws s
  | .head q r n => Sys2Proof.Machine.execHead q r n s
  | .hello q flags start => Sys2Proof.Machine.execHello q flags start s
  | .key q k => Sys2Proof.Machine.execKey q k s
  | .start r => Sys2Proof.Machine.execStart r s
  | .stop r => Sys2Proof.Machine.execStop r s
  | .resume r => Sys2Proof.Machine.execResume r s
  | .skip r => Sys2Proof.Machine.execSkip r s
  | .ringReset r => Sys2Proof.Machine.execRingReset r s
  | .rgProdWrite r v => Sys2Proof.Machine.execRgProdWrite r v s
  | .rgConsWrite r v => Sys2Proof.Machine.execRgConsWrite r v s
  | .descriptorExecute r => Sys2Proof.Machine.execDescriptorExecute r s
  | .txFrame r => Sys2Proof.Machine.execTxFrame r s
  | .entryComplete r => Sys2Proof.Machine.execEntryComplete r s
  | .stallRelease rr => Sys2Proof.Machine.execStallRelease rr s
  | .ringEvent r => Sys2Proof.Machine.execRingEvent r s
  | .dmGo e c q => Sys2Proof.Machine.execDmGo e c q s
  | .transferLoad e c => Sys2Proof.Machine.execTransferLoad e c s
  | .transferStart e => Sys2Proof.Machine.execTransferStart e s
  | .transferComplete e c => Sys2Proof.Machine.execTransferComplete e c s
  | .frameOut e c => Sys2Proof.Machine.execFrameOut e c s
  | .busError e c units => Sys2Proof.Machine.execBusError e c units s
  | .engineFault e addr units => Sys2Proof.Machine.execEngineFault e addr units s
  | .dmEngClear e => Sys2Proof.Machine.execDmEngClear e s
  | .clearHalt e c => Sys2Proof.Machine.execClearHalt e c s
  | .powerDownRequest kind i0 => Sys2Proof.Machine.execPowerDownRequest kind i0 s
  | .drainLimitExpiry kind i0 units => Sys2Proof.Machine.execDrainLimitExpiry kind i0 units s
  | .snapshot b tag q => Sys2Proof.Machine.execSnapshot b tag q s
  | .clearBank b => Sys2Proof.Machine.execClearBank b s
  | .evcApply n k => Sys2Proof.Machine.execEvcApply n k s
  | .bwWindowEnd l => Sys2Proof.Machine.execBwWindowEnd l s
  | .sampleDrain n queue => Sys2Proof.Machine.execSampleDrain n queue s
  | .resetEnd sel dimm => Sys2Proof.Machine.execResetEnd sel dimm s
  | .flashReadComplete b c => Sys2Proof.Machine.execFlashReadComplete b c s
  | .verify tag c => Sys2Proof.Machine.execVerify tag c s
  | .load tag c => Sys2Proof.Machine.execLoad tag c s
  | .loadComplete => Sys2Proof.Machine.execLoadComplete s
  | .selftestComplete fs => Sys2Proof.Machine.execSelftestComplete fs s
  | .calibrateComplete fs lost differ => Sys2Proof.Machine.execCalibrateComplete fs lost differ s
  | .secverRaise v => Sys2Proof.Machine.execSecverRaise v s
  | .anchorRevoke m => Sys2Proof.Machine.execAnchorRevoke m s
  | .goService => Sys2Proof.Machine.execGoService s
  | .park => Sys2Proof.Machine.execPark s
  | .wake => Sys2Proof.Machine.execWake s
  | .diag => Sys2Proof.Machine.execDiag s
  | .exitDiag => Sys2Proof.Machine.execExitDiag s
  | .halt => Sys2Proof.Machine.execHalt s
  | .resetModule => Sys2Proof.Machine.execResetModule s
  | .fence kind n => Sys2Proof.Machine.execFence kind n s
  | .fenceDrainComplete n => Sys2Proof.Machine.execFenceDrainComplete n s
  | .unfence kind n => Sys2Proof.Machine.execUnfence kind n s
  | .unfenceEffective n => Sys2Proof.Machine.execUnfenceEffective n s
  | .rebuild n => Sys2Proof.Machine.execRebuild n s
  | .buildComplete n ok => Sys2Proof.Machine.execBuildComplete n ok s
  | .switch => Sys2Proof.Machine.execSwitch s
  | .rollback => Sys2Proof.Machine.execRollback s
  | .fwCoreStartTimeout => Sys2Proof.Machine.execFwCoreStartTimeout s
  | .watchdog => Sys2Proof.Machine.execWatchdog s
  | .tcamScrub found us => Sys2Proof.Machine.execTcamScrub found us s
  | .gateScrub found us => Sys2Proof.Machine.execGateScrub found us s
  | .streamCompare found us => Sys2Proof.Machine.execStreamCompare found us s
  | .holdPatrol fixed bad hit us => Sys2Proof.Machine.execHoldPatrol fixed bad hit us s
  | .complementCheck found us => Sys2Proof.Machine.execComplementCheck found us s
  | .amapCheck us => Sys2Proof.Machine.execAmapCheck us s
  | .constCheck bad us => Sys2Proof.Machine.execConstCheck bad us s
  | .serdesAdapt l us => Sys2Proof.Machine.execSerdesAdapt l us s
  | .oscComp x us => Sys2Proof.Machine.execOscComp x us s
  | .telemetry vin iin power vaux us => Sys2Proof.Machine.execTelemetry vin iin power vaux us s
  | .ddrScrub fixed bad us => Sys2Proof.Machine.execDdrScrub fixed bad us s
  | .aging slow us => Sys2Proof.Machine.execAging slow us s
  | .selftestRotation f hit => Sys2Proof.Machine.execSelftestRotation f hit s
  | .request i0 t tag => Sys2Proof.Machine.execRequest i0 t tag s
  | .testCancel ticket tag => Sys2Proof.Machine.execTestCancel ticket tag s
  | .testItemComplete ticket f hit => Sys2Proof.Machine.execTestItemComplete ticket f hit s
  | .supplyInRange addr => Sys2Proof.Machine.execSupplyInRange addr s
  | .vinLow below9 => Sys2Proof.Machine.execVinLow below9 s
  | .railFault kind i0 units => Sys2Proof.Machine.execRailFault kind i0 units s
  | .vauxOutOfRange => Sys2Proof.Machine.execVauxOutOfRange s
  | .domainOff b => Sys2Proof.Machine.execDomainOff b s
  | .domainOn b => Sys2Proof.Machine.execDomainOn b s
  | .capEvaluate w => Sys2Proof.Machine.execCapEvaluate w s
  | .temperatureRead ts => Sys2Proof.Machine.execTemperatureRead ts s
  | .clearFaults => Sys2Proof.Machine.execClearFaults s
  | .statusWord => Sys2Proof.Machine.execStatusWord s
  | .statusTemperature => Sys2Proof.Machine.execStatusTemperature s
  | .readVin => Sys2Proof.Machine.execReadVin s
  | .readIin => Sys2Proof.Machine.execReadIin s
  | .readTemperature1 => Sys2Proof.Machine.execReadTemperature1 s
  | .readPin => Sys2Proof.Machine.execReadPin s
  | .pmbusRevision => Sys2Proof.Machine.execPmbusRevision s
  | .mfrId => Sys2Proof.Machine.execMfrId s
  | .mfrModel => Sys2Proof.Machine.execMfrModel s
  | .pmbusUnsupported => Sys2Proof.Machine.execPmbusUnsupported s
  | .injectorArm l k w => Sys2Proof.Machine.execInjectorArm l k w s
  | .injectorStart l k => Sys2Proof.Machine.execInjectorStart l k s
  | .injectorRelease l k => Sys2Proof.Machine.execInjectorRelease l k s
  | .fiTskewWrite l w => Sys2Proof.Machine.execFiTskewWrite l w s
  | .resetNAssert => Sys2Proof.Machine.execResetNAssert s
  | .resetNRelease => Sys2Proof.Machine.execResetNRelease s
  | .bypass => Sys2Proof.Machine.execBypass s
  | .idcode => Sys2Proof.Machine.execIdcode s
  | .samplePreload => Sys2Proof.Machine.execSamplePreload s
  | .extest => Sys2Proof.Machine.execExtest s
  | .clamp => Sys2Proof.Machine.execClamp s
  | .highz => Sys2Proof.Machine.execHighz s
  | .extestPulse => Sys2Proof.Machine.execExtestPulse s
  | .extestTrain => Sys2Proof.Machine.execExtestTrain s
  | .portLinkLoss l => Sys2Proof.Machine.execPortLinkLoss l s
  | .portLinkUp l rate => Sys2Proof.Machine.execPortLinkUp l rate s
  | .controlLaneUp k => Sys2Proof.Machine.execControlLaneUp k s
  | .pdelayReqSend l => Sys2Proof.Machine.execPdelayReqSend l s
  | .physAnnounceSend l => Sys2Proof.Machine.execPhysAnnounceSend l s
  | .bootPllLockTimeout => Sys2Proof.Machine.execBootPllLockTimeout s
  | .tapTestLogicReset => Sys2Proof.Machine.execTapTestLogicReset s
  | .ddrUnfenceComplete c => Sys2Proof.Machine.execDdrUnfenceComplete c s

end Sys2Proof.Machine
end

