-- ==== Sys2Proof/Safety.lean ====
section
/-!
DEFINITION. The terms that claims are stated in: the canonical form of the state, what a command leaves as it was, and a
command that completes.
-/

namespace Sys2Proof.Machine

/-- The canonical form: register words at rising keys, none equal to its Reset column, and memory bytes at rising addresses,
none equal to what an unlisted address reads as. Equal contents are then equal data. -/
def State.wf (s : State) : Prop := SMap.wf resetWord s.words = true ∧ Memory.wf s.undefAt s.mem = true

/-- Command `c` run on `s` completes in a state of which `p` holds. -/
def completes (c : Instr) (s : State) (p : State → Prop) : Prop := ∃ t, exec c s = .next t ∧ p t

/-- Every register word at a key outside `p` reads as before. -/
def wordsKept (p : Nat → Prop) (s t : State) : Prop := ∀ a, ¬ p a → t.word a = s.word a

/-- Every register word reads as before. -/
def allWordsKept (s t : State) : Prop := ∀ a, t.word a = s.word a

/-- Every byte of memory reads as before. -/
def memoryKept (s t : State) : Prop := ∀ a, t.readByte a = s.readByte a

/-- Nothing but register words has changed. -/
def regsOnly (s t : State) : Prop := t = { s with words := t.words }

/-- Field `f` of the register group at base `b` is as before outside its own bits: no other register word, and no other bit of
its word, has changed. -/
def onlyField (b : Nat) (f : Fld) (s t : State) : Prop :=
  wordsKept (· = b + f.off) s t ∧
    ∀ i, i < 64 → (i < f.lo ∨ f.hi < i) → (t.word (b + f.off)).getLsbD i = (s.word (b + f.off)).getLsbD i

end Sys2Proof.Machine
end

