-- ==== Sys2Proof/Certificates/Slice0/Obligations.lean ====
section
/-!
DEFINITION. The statements about the block.
-/

open Sys2Proof Sys2Proof.Machine

/-- A step runs the command at the front of the queue. For every command and state, a step of the state with the command
at the front of its queue is exec of the command on the state with the queue's rest. (00_scope.md, INDEX.md) -/
def Obligations.StepRunsFrontCommand : Prop :=
  ∀ (c : Instr) (rest : List Instr) (s : State), step { s with pending := c :: rest } = exec c { s with pending := rest }

/-- With no command waiting the block idles (the model's choice, log entry 2). A step of a state with an empty queue
answers that state. (00_scope.md) -/
def Obligations.EmptyQueueIdles : Prop :=
  ∀ s : State, s.pending = [] → step s = .next s

/-- Reset leaves registers at their Reset columns, the mode Reset, and no pair armed. After reset every register word
but SY_ANCHOR_STATUS holds the word of its Reset column, SY_ANCHOR_STATUS shows anchor 0, MD_STATUS.MODE is 0, no
complement pair is armed, no byte of memory is listed and no command waits. (00_scope.md, 15_modes_inservice.md) -/
def Obligations.ResetLeavesResetColumns : Prop :=
  (∀ a, a ≠ A.sy + 0x50 → State.reset.word a = resetWord a) ∧ State.reset.word (A.sy + 0x50) = 1 ∧ State.reset.mode = 0 ∧ State.reset.arms = [] ∧ State.reset.mem = [] ∧
    State.reset.pending = []

/-- The state after reset is in canonical form. Register words and memory of the state after reset are in their
canonical form. (00_scope.md) -/
def Obligations.ResetIsCanonical : Prop :=
  State.reset.wf

/-- Every step keeps the canonical form of registers and memory. From every state whose register words stand at rising
keys, none equal to its Reset column, and whose memory bytes stand at rising addresses, none equal to what an
unlisted address reads as, a step that answers a next state answers one of which the same holds. (00_scope.md,
19_register_map.md) -/
def Obligations.EveryStepKeepsCanonicalForm : Prop :=
  ∀ s t : State, s.wf → step s = .next t → t.wf

/-- A write stores rw bits, clears w1c bits and leaves the others. An admitted write, in its turn, to a register of a
feed block or of the control port's own block that has no complement pair, within the ranges of its fields: bit i of
the register becomes 0 where the register clears by ones and the word has a one there, else the word's bit where the
register is rw there, else it stays; every other register, and all else, is unchanged. (The spec's access codes; a
set-by-ones bit belongs to registers with rules of their own.) (00_scope.md, 19_register_map.md) -/
def Obligations.RegisterWriteFollowsAccessCodes : Prop :=
  ∀ (s : State) (q a w : Nat) (f : Found),
    s.registerTurn a = true → findReg a = some f → f.reg.rwp = 0 → pairBelow a = none → s.exists? f = true →
    f.reg.inRange w = true →
    ((∃ n, sliceOfAddr a = some n ∧ a / 0x100000 % 16 = 11) ∨ (sliceOfAddr a = none ∧ spanOf a = some 0x20)) →
    ∃ t, exec (.registerWrite q a w) s = .next t ∧ regsOnly s t ∧ wordsKept (· = a) s t ∧
      ∀ i, i < 64 → (t.word a).getLsbD i =
        if f.reg.w1c.testBit i && w.testBit i then false
        else if f.reg.rw.testBit i then w.testBit i else (s.word a).getLsbD i

/-- A complement pair: the value arms the register, its complement commits it. A write of the value of a pair arms the
register with the value, the requester and the instant, replacing any armed value, and changes nothing else. Within
1 ms the complement from the same requester disarms it and, for a register of a module block that only stores its
value, puts the armed value's rwp bits in force; nothing else changes. (00_scope.md, 19_register_map.md) -/
def Obligations.PairIsArmedAndCommitted : Prop :=
  (∀ (s : State) (q a v : Nat) (f : Found),
    s.registerTurn a = true → pairAt a = some f → s.exists? f = true →
    ∃ t, exec (.rwpValueWrite q a v) s = .next t ∧ t = { s with arms := t.arms } ∧
      t.arm a = some ⟨v % 2 ^ 64, q, s.time.clk⟩ ∧ ∀ b, b ≠ a → t.arm b = s.arm b) ∧
  (∀ (s : State) (q a w : Nat) (f : Found) (x : Arm),
    s.registerTurn (a + 8) = true → findReg (a + 8) = none → pairAt a = some f →
    s.exists? f = true → s.arm a = some x → s.since x.since ≤ armTicks → x.requester = q →
    w % 2 ^ 64 + x.value = 2 ^ 64 - 1 → f.reg.inRange x.value = true → sliceOfAddr a = none →
    (f.kind = .scCell → (a - A.scc 0) % 0x800 ≠ 0xA0) →
    a ∉ [A.tb + 0x40, A.tb + 0x90, A.sy + 0x40, A.sy + 0x58] →
    ∃ t, exec (.rwpComplementWrite q (a + 8) w) s = .next t ∧ t = { s with arms := t.arms, words := t.words } ∧
      t.arm a = none ∧ wordsKept (· = a) s t ∧ (t.word a).toNat = x.value &&& f.reg.rwp)

/-- A pair that does not match is rejected with one INTEGRITY_WRITE entry. A complement written while the register is
not armed, from another requester or not the ones' complement of the armed value, and 1 ms without a complement: the
register disarms, keeps its value, and one INTEGRITY_WRITE entry (code 0x0010) is reported with the register's
address and the requester. (00_scope.md, 10_capture_journal.md) -/
def Obligations.PairIsRejected : Prop :=
  (∀ (s : State) (q a w : Nat) (f : Found),
    s.registerTurn (a + 8) = true → findReg (a + 8) = none → pairAt a = some f → s.exists? f = true →
    s.arm a = none ∨ (∃ x, s.arm a = some x ∧ s.since x.since ≤ armTicks ∧
      (x.requester ≠ q ∨ w % 2 ^ 64 + x.value ≠ 2 ^ 64 - 1)) →
    ∃ t, exec (.rwpComplementWrite q (a + 8) w) s = .next t ∧
      ∃ u : State, u = { s with arms := u.arms } ∧ u.arm a = none ∧ t = u.rejectPair q a) ∧
  (∀ (s : State) (a : Nat) (x : Arm), s.arm a = some x → armTicks ≤ s.since x.since →
    exec (.rwpArmExpiry a) s = .next ((s.setArm a none).rejectPair x.requester a))

/-- Flits, the root PLL and the slices' copies of the time base. On a die link that is up, up to seven failed attempts
are added to the link's retry counter and nothing else changes; the eighth failure counts the seven and takes the
link down. A loss of lock of the root PLL outside Reset and Halt enters Halt and writes one journal entry. A slice
whose copy of the time base is more than 1 ns away stops its launches; within 1 ns nothing changes; the reload lets
them go on and writes one entry. (01_module.md, 02_physical_time.md) -/
def Obligations.ClockAndLinkEvents : Prop :=
  (∀ (s : State) (n k failed : Nat), s.isSlice n = true → k < 2 →
    s.on (A.sd n) (if k = 0 then SD_LINK_HD_UP else SD_LINK_CT_UP) = true →
    let u := s.add (A.mss n) (if k = 0 then MSS_LINK_RETRY_HD_COUNT else MSS_LINK_RETRY_CT_COUNT) (min failed 7)
    exec (.dieLinkFlitReceive n k failed none) s = .next (if failed < 8 then u else u.linkFence n k)) ∧
  (∀ s : State, s.mode ≠ 0 → s.mode ≠ 11 →
    exec .rootPllLoss s = .next ((s.enterHalt 5).report 14 0x0003 objNone 0 0)) ∧
  (∀ (s : State) (n d : Nat), s.isSlice n = true → n ∉ s.sync.reloading →
    ∃ t, exec (.sliceTimeCompare n d) s = .next t ∧ t = { s with sync := { s.sync with reloading := t.sync.reloading } } ∧
      (n ∈ t.sync.reloading ↔ nsQ 1 < d)) ∧
  (∀ (s : State) (n : Nat), n ∈ s.sync.reloading →
    ∃ u : State, exec (.sliceTimeReload n) s = .next (u.reportOther 0 objSlice n 0) ∧ n ∉ u.sync.reloading ∧
      (∀ m, m ≠ n → (m ∈ u.sync.reloading ↔ m ∈ s.sync.reloading)) ∧
      u = { s with sync := { s.sync with reloading := u.sync.reloading } })

/-- Each tick adds the effective addend to the time base. Outside Reset and Halt, with no time waiting to be loaded, no
firmware switch under way and the written role and gate enables already in force, n ticks add n times the effective
addend to the time base, which wraps at 2^48 seconds; no register and no byte of memory changes. (00_scope.md,
02_physical_time.md, 15_modes_inservice.md) -/
def Obligations.TimeBaseAdvances : Prop :=
  ∀ (s : State) (n : Nat), s.mode ≠ 0 → s.mode ≠ 11 → s.sync.setPending = none → s.fwState ≠ 2 → s.fwState ≠ 4 →
    s.get A.tb TB_CTRL_ROLE = s.sync.role →
    (∀ p ∈ s.image.ports, (s.gateLists p.lane).enabled = s.on (A.gcp p.lane) GC_PORT_CTRL_GATE_EN) →
    ∃ t, exec (.timeBaseTick n) s = .next t ∧ t.time.clk = s.time.clk + n ∧
      t.time.now = (if n = 0 then s.time.now else (s.time.now + n * s.get A.tb TB_ADDEND_EFF_ADDEND_EFF) % timeSpan) ∧
      t = { s with time := t.time, pair := { s.pair with cleanAt := t.pair.cleanAt } }

/-- A committed addend within range is in force; one out of range leaves the old one. A committed TB_ADDEND in the range
0xFFDF3B64 to 0x10020C49C is the register's value; in FREE_RUN it is also the effective addend. Any other value
changes nothing. A role up to 2 is held in TB_CTRL.ROLE, and no other bit changes. (02_physical_time.md) -/
def Obligations.AddendAndRole : Prop :=
  (∀ (s : State) (v : Nat), 0x00FFDF3B64 ≤ v → v ≤ 0x10020C49C →
    ∃ t, exec (.tbAddendCommit v) s = .next t ∧ regsOnly s t ∧ t.get A.tb TB_ADDEND_ADDEND = v ∧
      (s.servoState = 0 → t.get A.tb TB_ADDEND_EFF_ADDEND_EFF = v) ∧
      wordsKept (fun a => a = A.tb + TB_ADDEND_ADDEND.off ∨ a = A.tb + TB_ADDEND_EFF_ADDEND_EFF.off ∨
        a = A.tb + TB_SERVO_INTEG_INTEG.off) s t) ∧
  (∀ (s : State) (v : Nat), v < 0x00FFDF3B64 ∨ 0x10020C49C < v → exec (.tbAddendCommit v) s = .next s) ∧
  (∀ (s : State) (r : Nat), r ≤ 2 →
    ∃ t, exec (.tbRoleWrite r) s = .next t ∧ regsOnly s t ∧ t.get A.tb TB_CTRL_ROLE = r ∧ onlyField A.tb TB_CTRL_ROLE s t)

/-- A Sync, a PPS edge and the end of the holdover interval. A Sync of the physical domain that an input without ingress
skew takes gives it the offset ingress stamp less origin less correction and ends its staleness; where the input is
then in use and the role is 2, the offset less the path delay and the asymmetry is a sample. A PPS edge of the
selected polarity, while the seconds are unknown, holds its stamp, truncated to 0.25 ns, as valid in TB_PPS_IN_NS
and is no usable offset; an edge of the other polarity changes nothing. Where the input in use has given no offset
for HOLDOVER_SYNCS intervals it is stale, and with no usable input left the servo enters HOLDOVER and reports it.
(02_physical_time.md) -/
def Obligations.SyncGivesOffset : Prop :=
  (∀ (s : State) (i seq origin rx tick : Nat) (corr log : Int), s.takesSync i = true → s.sync.stepClk = none →
    (0x200 ≤ i ∨ s.rxSkew i false = 0) →
    let u := (s.setInput i { s.input i with
      logSync := log, stale := false, msOff := some ((rx : Int) - origin - corr) }).selectInput
    let pd := median (u.input i).history + u.getI (A.tbp i) TB_PORT_ASYM_ASYM
    exec (.syncReceive i (s.get A.tb TB_CTRL_DOMAIN_PHYS) seq origin corr rx tick log) s = .next (
      if u.activeInput = i ∧ u.sync.role = 2 then
        State.offsetSample { u with sync := { u.sync with upstream := some (origin, corr + pd, rx) } } i
          ((rx : Int) - origin - corr - pd) seq
      else u)) ∧
  (∀ s : State, s.on A.tb TB_PPS_CTRL_IN_EN = true → s.sync.secondsKnown = false →
    ∃ t, exec (.ppsInEdge (s.on A.tb TB_PPS_CTRL_IN_FALLING)) s = .next t ∧
      t = { s with words := t.words, sync := { s.sync with inputs := t.sync.inputs } } ∧
      t.get A.tb TB_PPS_IN_NS_NS = nsOf (s.nowQ / 16384 * 16384) ∧
      t.get A.tb TB_PPS_IN_NS_FRAC = fracOf (s.nowQ / 16384 * 16384) ∧ t.get A.tb TB_PPS_IN_NS_VALID = 1 ∧
      t.get A.tb TB_STATUS_PPS_IN_VALID = 0 ∧ (t.input inPps).stale = false) ∧
  (∀ s : State, exec (.ppsInEdge (!s.on A.tb TB_PPS_CTRL_IN_FALLING)) s = .next s) ∧
  (∀ s : State, s.servoState = 1 ∨ s.servoState = 2 →
    let i := s.get A.tb TB_LAST_SEQ_INPUT
    let u := (s.setInput i { s.input i with stale := true }).selectInput
    s.get A.tb TB_CTRL_HOLDOVER_SYNCS * s.inputNs i ≤ s.since s.sync.lastGood → u.activeInput = inNone →
    exec .holdoverTimeout s = .next (u.enterHoldover.report 0 0x0031 objNone 0 i))

/-- A step is authorised by its SEQ and applied at a whole second. TB_STEP_AUTH with the SEQ of the pending step arms it
and holds the instant; any other SEQ arms nothing and raises bit 7 of TB_EVENT. An armed step is not applied before
the first whole second 10 ms after its commit; then it is applied while the offset still exceeds 1 ms and an input
is in use, and is withdrawn otherwise. TB_SET_GO outside service stages the written time for the next tick, and in
service raises bit 6 of TB_EVENT and changes nothing else. (02_physical_time.md) -/
def Obligations.TimeSteps : Prop :=
  (∀ s : State, s.stepPending = true → s.sync.autoStep = false →
    let u := (s.put A.tb TB_STEP_AUTH_SEQ (s.get A.tb TB_STEP_STATUS_SEQ)).showStep true true
    exec (.stepAuth (s.get A.tb TB_STEP_STATUS_SEQ)) s = .next { u with sync := { u.sync with stepAt := u.nowQ } }) ∧
  (∀ (s : State) (q : Nat), q ≠ s.get A.tb TB_STEP_STATUS_SEQ →
    exec (.stepAuth q) s = .next (s.raise A.tb TB_EVENT_FLAGS 7)) ∧
  (∀ s : State, s.sync.autoStep = false → s.on A.tb TB_STEP_STATUS_ARMED = true →
    exec .stepApply s = .next (
      if s.nowQ < secondAfter s.sync.stepAt 10000000 then s
      else if (s.getI A.tb TB_LAST_OFFSET_OFFSET).natAbs ≤ nsQ 1000000 ∨ s.activeInput = inNone then s.withdrawStep
      else s.doStep)) ∧
  (∀ s : State, s.serving = true → exec .tbSetGo s = .next (s.raise A.tb TB_EVENT_FLAGS 6)) ∧
  (∀ s : State, s.serving = false →
    exec .tbSetGo s = .next { s with sync := { s.sync with
      setPending := some (s.stamp A.tb TB_SET_SEC_SEC TB_SET_NS_NS TB_SET_NS_FRAC * 65536) } })

/-- Time pins: arming, pulses, captures and the stamps read. A one-shot output whose start is less than 1 µs ahead is
missed; one further ahead is armed for its start. DISARM cancels a pending output. At its target a one-shot pin
pulses and disarms, unless the module is in Reset or Halt. A selected edge queues its stamp, truncated to 0.25 ns,
up to sixteen; a seventeenth sets CAP_OVERFLOW and is lost. A read of TP_CAP_SEC takes the oldest stamp. With output
enabled a pulse of PPS_OUT starts each second. A read of TB_NOW_SEC latches seconds, nanoseconds and fraction of one
stamp. (02_physical_time.md) -/
def Obligations.TimePins : Prop :=
  (∀ (s : State) (p : Nat), p < 16 → s.get (A.tp p) TP_CTRL_MODE = 1 → 8 ≤ s.get (A.tp p) TP_WIDTH_WIDTH →
    100 ≤ s.get (A.tp p) TP_PERIOD_PERIOD →
    let start := ofStamp (s.get (A.tp p) TP_START_SEC_SEC) (s.get (A.tp p) TP_START_NS_NS)
      (s.get (A.tp p) TP_START_NS_FRAC / 4096 * 4096)
    exec (.tpArm p) s = .next (
      if start < s.nowQ + nsQ 1000 then s.put (A.tp p) TP_STATUS_MISSED 1
      else ((s.setPin p { s.pin p with target := some start }).showArmed p true).put (A.tp p) TP_STATUS_PULSES 0)) ∧
  (∀ (s : State) (p : Nat), p < 16 →
    ∃ t, exec (.tpDisarm p) s = .next t ∧ (t.pin p).target = none ∧ (t.pin p).caps = (s.pin p).caps ∧
      t.get (A.tp p) TP_STATUS_ARMED = 0 ∧ t.get (A.tp p) TP_CTRL_ARM = 0 ∧ t.out = s.out) ∧
  (∀ (s : State) (p q : Nat), p < 16 → (s.pin p).target = some q → q ≤ s.nowQ → s.pinsDrive = true →
    s.get (A.tp p) TP_CTRL_MODE ≠ 2 →
    ∃ t, exec (.tpOutputCompare p) s = .next t ∧ (t.pin p).target = none ∧
      t.out = s.out ++ [.pulse p (!s.on (A.tp p) TP_CTRL_POLARITY) q (s.get (A.tp p) TP_WIDTH_WIDTH)] ∧
      t.get (A.tp p) TP_STATUS_ARMED = 0) ∧
  (∀ (s : State) (p : Nat) (rising : Bool), p < 16 → s.get (A.tp p) TP_CTRL_MODE = 3 →
    capSelects (s.get (A.tp p) TP_CTRL_CAP_EDGE) rising = true → (s.pin p).caps.length < 16 →
    ∃ t, exec (.tpCaptureEdge p rising) s = .next t ∧ (t.pin p).caps = (s.pin p).caps ++ [s.nowQ / 16384 * 16384] ∧
      t.get (A.tp p) TP_STATUS_CAP_COUNT = (s.pin p).caps.length + 1) ∧
  (∀ (s : State) (p : Nat) (rising : Bool), p < 16 → s.get (A.tp p) TP_CTRL_MODE = 3 →
    capSelects (s.get (A.tp p) TP_CTRL_CAP_EDGE) rising = true → 16 ≤ (s.pin p).caps.length →
    exec (.tpCaptureEdge p rising) s = .next (s.put (A.tp p) TP_STATUS_CAP_OVERFLOW 1)) ∧
  (∀ (s : State) (p q : Nat) (r : List Nat), p < 16 → (s.pin p).caps = q :: r →
    ∃ t, exec (.tpCapSecRead p) s = .next t ∧ (t.pin p).caps = r ∧ t.get (A.tp p) TP_CAP_SEC_SEC = secOf q ∧
      t.get (A.tp p) TP_CAP_NS_NS = nsOf q ∧ t.get (A.tp p) TP_CAP_NS_FRAC = fracOf q ∧
      t.get (A.tp p) TP_CAP_NS_VALID = 1) ∧
  (∀ s : State, s.on A.tb TB_PPS_CTRL_OUT_EN = true → s.pinsDrive = true → s.sync.ppsSec ≠ some (secOf s.nowQ) →
    s.sync.ppsSec ≠ none → (∀ c, s.sync.ppsAt = some c → 500000000 ≤ s.since c) →
    ∃ t, exec .ppsOutPulse s = .next t ∧ t.sync.ppsSec = some (secOf s.nowQ) ∧ t.words = s.words ∧
      t.out = s.out ++ [.pulse 16 true (secOf s.nowQ * secQ) (s.get A.tb TB_PPS_CTRL_OUT_WIDTH)]) ∧
  (∀ s : State, ∃ t, exec .tbNowSecRead s = .next t ∧ regsOnly s t ∧ t.get A.tb TB_NOW_SEC_SEC = secOf s.nowQ ∧
    t.get A.tb TB_NOW_NS_NS = nsOf s.nowQ ∧ t.get A.tb TB_NOW_NS_FRAC = fracOf s.nowQ)

/-- Path delay exchanges and the states of an input. The response that completes a port's outstanding request gives half
of the turnaround, corrected for the rate ratio, less the responder's residence, as a path-delay measurement; on a
1588 slave input the answer to its Delay_Req gives half of the sum of both differences. A request goes out at the
port's interval with the next sequence number. After 16 intervals without agreement a SUSPECT input starts another
interval, and after the fourth extension it is FAULTY. FLUSH_PD empties the input's path-delay history. CLEAR_FAULTY
returns a FAULTY input to IDLE and leaves any other as it was. (02_physical_time.md) -/
def Obligations.PathDelayAndInputs : Prop :=
  (∀ (s : State) (l seq t1 t2 t3 t4 : Nat) (r : Int), s.gptpPort l = true → (s.input l).reqAt = some t1 →
    (s.input l).reqSeq = seq → s.rxSkew l true = 0 →
    let u := ((s.setInput l { s.input l with reqAt := none }).putI (A.tbp l) TB_PORT_NRR_NRR_DEV r).put (A.tbp l)
      TB_PORT_STATUS_NRR_VALID 1
    exec (.pdelayMeasurement l seq t2 t3 t4 (some r)) s = .next (u.measurePd l
      (((t4 : Int) - t1 + ((t4 : Int) - t1) * r / 2 ^ 32 - ((t3 : Int) - t2)) / 2))) ∧
  (∀ (s : State) (i seq t3 t4 : Nat) (ms corr log : Int), s.isInput i = true →
    s.on (A.tbp i) TB_PORT_CTRL_PTP1588_EN = true → (s.input i).reqSeq = seq → (s.input i).reqAt = some t3 →
    (s.input i).msOff = some ms →
    exec (.delayRespReceive i seq t4 corr log) s = .next
      ((s.setInput i { s.input i with reqAt := none, logDelay := max (-7) (min 5 log) }).measurePd i
        ((ms + ((t4 : Int) - corr - t3)) / 2))) ∧
  (∀ (s : State) (l : Nat), s.gptpPort l = true →
    s.dueAfter (s.input l).delayAt (logNs (logOf (s.get (A.tbp l) TB_PORT_CTRL_LOG_PDELAY))) = true →
    let q := ((s.input l).reqSeq + 1) % 65536
    let u := s.setInput l { s.input l with reqSeq := q, reqAt := none, delayAt := some s.time.clk }
    exec (.pdelayReqSend l) s = .next (u.sendOwn l (u.gptpFrame l (pdelayReqMsg s.image.clockId (l + 1) q
      (toTwos 8 (logOf (s.get (A.tbp l) TB_PORT_CTRL_LOG_PDELAY))))) (.request l))) ∧
  (∀ (s : State) (k : Nat), k < 2 → s.on (A.tbp (0x200 + k)) TB_PORT_CTRL_PTP1588_EN = true →
    s.dueAfter (s.input (0x200 + k)).delayAt (logNs (s.input (0x200 + k)).logDelay) = true →
    ∃ t, exec (.delayReqSend (0x200 + k)) s = .next t ∧
      (t.input (0x200 + k)).reqSeq = ((s.input (0x200 + k)).reqSeq + 1) % 65536 ∧
      (t.input (0x200 + k)).reqAt = some s.nowQ ∧ t.words = s.words ∧ t.out.length = s.out.length + 1) ∧
  (∀ (s : State) (i : Nat), s.isInput i = true → s.get (A.tbp i) TB_PORT_STATUS_INPUT_STATE = 2 →
    16 * s.inputNs i ≤ s.since (s.input i).suspectAt → (s.input i).history.length < 8 →
    ∃ t, exec (.suspectEnd i) s = .next t ∧ t.get (A.tbp i) TB_PORT_STATUS_SUSPECT_REMAIN =
        (if s.get (A.tbp i) TB_PORT_STATUS_EXTENSIONS = 4 then 0 else 16) ∧
      t.get (A.tbp i) TB_PORT_STATUS_INPUT_STATE =
        (if s.get (A.tbp i) TB_PORT_STATUS_EXTENSIONS = 4 then 3 else 2)) ∧
  (∀ (s : State) (i : Nat), s.isInput i = true →
    exec (.flushPd i) s = .next ((s.setInput i { s.input i with history := [] }).showInput i)) ∧
  (∀ (s : State) (i : Nat), s.isInput i = true →
    ∃ t, exec (.clearFaulty i) s = .next t ∧ regsOnly s t ∧ t.get (A.tbp i) TB_PORT_STATUS_INPUT_STATE =
      (if s.get (A.tbp i) TB_PORT_STATUS_INPUT_STATE = 3 then 0 else s.get (A.tbp i) TB_PORT_STATUS_INPUT_STATE))

/-- Sync and Announce messages of the physical domain. At the port's Sync interval a master port that is grandmaster or
follows an upstream master sends a Sync with the next sequence number; at the announce interval of 1 s it sends an
Announce with the next sequence number. An Announce of the physical domain is counted and ignored where BMCA does
not run; where it runs, it is held as the input's announcement before the best master is chosen.
(02_physical_time.md) -/
def Obligations.PhysicalTimeMessages : Prop :=
  (∀ (s : State) (l : Nat), s.masterPort l = true → (s.sync.role ≠ 2 ∨ s.sync.upstream.isSome = true) →
    s.dueAfter (s.input l).syncAt (logNs (logOf (s.get (A.tbp l) TB_PORT_CTRL_LOG_SYNC))) = true →
    let u := s.setInput l { s.input l with
      syncSeq := ((s.input l).syncSeq + 1) % 65536, syncAt := some s.time.clk }
    exec (.physSyncSend l) s = .next (u.sendOwn l (u.gptpFrame l (syncMsg (s.get A.tb TB_CTRL_DOMAIN_PHYS)
      s.image.clockId (l + 1) (s.input l).syncSeq (toTwos 8 (logOf (s.get (A.tbp l) TB_PORT_CTRL_LOG_SYNC)))))
      (.syncPhys (s.input l).syncSeq))) ∧
  (∀ (s : State) (l : Nat), s.masterPort l = true → s.dueAfter (s.input l).announceAt 1000000000 = true →
    let u := s.setInput l { s.input l with
      announceSeq := ((s.input l).announceSeq + 1) % 65536, announceAt := some s.time.clk }
    ∃ v : AnnounceVec, exec (.physAnnounceSend l) s = .next (u.fresh.2.sendOwn l (u.fresh.2.gptpFrame l
      (announceMsg (s.get A.tb TB_CTRL_DOMAIN_PHYS) s.image.clockId (l + 1) (s.input l).announceSeq 0 v.prio1 v.quality
        v.prio2 v.gm v.steps v.source 0)) .none)) ∧
  (∀ (s : State) (i prio1 quality prio2 gm steps source : Nat), s.isInput i = true →
    (s.sync.role ≠ 2 ∨ s.sync.extPortCfg = true) →
    exec (.announceReceive i (s.get A.tb TB_CTRL_DOMAIN_PHYS) prio1 quality prio2 gm steps source) s =
      .next { s with sync := { s.sync with announces := s.sync.announces + 1 } }) ∧
  (∀ (s : State) (i prio1 quality prio2 gm steps source : Nat), s.isInput i = true → s.sync.role = 2 →
    s.sync.extPortCfg = false →
    let u := s.setInput i { s.input i with announce := some ⟨prio1, quality, prio2, gm, steps, source⟩ }
    exec (.announceReceive i (s.get A.tb TB_CTRL_DOMAIN_PHYS) prio1 quality prio2 gm steps source) s =
      .next (match u.bestPort with
        | some l => (u.put A.tb TB_INPUT_SEL_PRIMARY l).selectInput
        | none => u))

/-- A segment command ends with its result, and a rejected one does nothing else. A PUSH that fails a check, a FLUSH
with nothing to remove or on the Mirror unit, and a command word whose OP is none leave the queue as it was:
SC_SEG_RESULT takes the identifier, the status (that of the failed check, BAD_VALUE, or NOP) and the next
RESULT_SEQ. An accepted PUSH puts one segment at the end of the queue, with its identifier, and shows status OK, its
queue index and its effective instant. A FLUSH on a unit that is not the Mirror keeps the queued segments up to now
plus H and removes the others; frames of epochs that go with them are discarded and counted; the result shows OK and
how many segments went. (03_scene_clocks.md) -/
def Obligations.SegmentCommandsReport : Prop :=
  (∀ (s : State) (c kind tag : Nat), s.isScene c = true → s.pushStatus c kind ≠ stOK →
    ∃ t, exec (.push c kind tag) s = .next t ∧ regsOnly s t ∧
      wordsKept (· = A.scc c + SC_SEG_RESULT_TAG.off) s t ∧
      t.get (A.scc c) SC_SEG_RESULT_TAG = tag % 2 ^ 16 ∧ t.get (A.scc c) SC_SEG_RESULT_STATUS = s.pushStatus c kind ∧
      t.get (A.scc c) SC_SEG_RESULT_RESULT_SEQ = (s.get (A.scc c) SC_SEG_RESULT_RESULT_SEQ + 1) %
        2 ^ (SC_SEG_RESULT_RESULT_SEQ.hi + 1 - SC_SEG_RESULT_RESULT_SEQ.lo)) ∧
  (∀ (s : State) (c kind tag : Nat), s.isScene c = true → s.pushStatus c kind = stOK →
    ∃ t, exec (.push c kind tag) s = .next t ∧
      t.get (A.scc c) SC_STATUS_QUEUE_COUNT = s.get (A.scc c) SC_STATUS_QUEUE_COUNT + 1 ∧
      t.get (A.scq c (s.get (A.scc c) SC_STATUS_QUEUE_COUNT)) SC_QUEUE_TAG_TAG = tag % 2 ^ 16 ∧
      t.get (A.scq c (s.get (A.scc c) SC_STATUS_QUEUE_COUNT)) SC_QUEUE_PHYS_SEC_KIND = kind ∧
      t.get (A.scc c) SC_SEG_RESULT_STATUS = stOK ∧
      t.get (A.scc c) SC_SEG_RESULT_QUEUE_INDEX = s.get (A.scc c) SC_STATUS_QUEUE_COUNT ∧
      t.get (A.scc c) SC_SEG_EFF_SEC_SEC = secOf (s.effectiveInstant c)) ∧
  (∀ (s : State) (c tag : Nat), s.isScene c = true →
    (s.mirrorRole = true ∨ ∀ g ∈ s.queueSegs c, g.pa ≤ s.nowQ + s.horizonQ c) →
    ∃ t, exec (.flush c tag) s = .next t ∧ regsOnly s t ∧ wordsKept (· = A.scc c + SC_SEG_RESULT_TAG.off) s t ∧
      t.get (A.scc c) SC_SEG_RESULT_STATUS = if s.mirrorRole then stBadValue else stNOP) ∧
  (∀ (s : State) (c tag : Nat), s.isScene c = true →
    ∃ t, exec (.segNop c tag) s = .next t ∧ regsOnly s t ∧ wordsKept (· = A.scc c + SC_SEG_RESULT_TAG.off) s t ∧
      t.get (A.scc c) SC_SEG_RESULT_STATUS = stNOP ∧ t.get (A.scc c) SC_SEG_RESULT_TAG = tag % 2 ^ 16) ∧
  (∀ (s : State) (c tag : Nat), s.isScene c = true → s.mirrorRole = false →
    let keep := (s.queueSegs c).filter (fun g => decide (g.pa ≤ s.nowQ + s.horizonQ c))
    keep.length < (s.queueSegs c).length →
    exec (.flush c tag) s = .next ((((s.setQueueSegs c keep).discardHeld c SC_CNT_EPOCH_DISCARD_COUNT
      (fun h => h.clock == c && !(s.setQueueSegs c keep).epochKnown c h.epoch)).sceneChanged c).segResult c tag stOK 0
      ((s.queueSegs c).length - keep.length) false))

/-- Segments switch at their instants, and the clock serves its time. The first queued segment is in force from its
switch instant and not before: on a clock that is IDLE the frames due before are converted, the epoch begins, and
the segment leaves the queue; SC_EVENT shows the switch and, where the queue is then empty, that too. SC_CELL_CTRL
is stored where its word passes its checks and changes nothing otherwise. A Sync and an Announce of the scene clock
go out with the next sequence numbers on a port that the clock serves. A read of SC_NOW_SEC latches epoch, seconds,
nanoseconds and fraction of one scene time. (03_scene_clocks.md) -/
def Obligations.SceneClockRuns : Prop :=
  (∀ (s : State) (c : Nat) (g : Segment) (rest : List Segment), s.queueSegs c = g :: rest → g.pa ≤ s.nowQ →
    (s.convertDue c).curSeg c = none →
    let u := ((((s.convertDue c).put (A.scc c) SC_STATUS_EPOCH g.epoch).newEpoch c).raise (A.scc c) SC_EVENT_FLAGS 1)
    let v := ((u.putCurSeg c g).setQueueSegs c rest).raise (A.scc c) SC_EVENT_FLAGS 0
    exec (.segmentSwitch c) s = .next (if rest.isEmpty then v.raise (A.scc c) SC_EVENT_FLAGS 4 else v)) ∧
  (∀ (s : State) (c : Nat), (∀ g ∈ (s.queueSegs c).head?, s.nowQ < g.pa) → exec (.segmentSwitch c) s = .next s) ∧
  (∀ (s : State) (c : Nat) (en : Bool), s.isScene c = true →
    let w := withBits (s.word (A.scc c + SC_CELL_CTRL_EN.off)).toNat 0 0 (bit en)
    exec (.scCellEnable c en) s = .next (if s.cellCtrlOk c w then s.cellCtrl c w else s)) ∧
  (∀ (s : State) (c l : Nat), s.servesScene c l = true →
    let u := (s.setScene c { s.scene c with syncSeq := ((s.scene c).syncSeq + 1) % 65536 }).inc (A.scc c)
      SC_GM_STATUS_SYNC_SENT 1
    exec (.sceneSyncSend c l) s = .next (u.sendOwn l (u.gptpFrame l (syncMsg (s.get (A.scc c) SC_CELL_CTRL_DOMAIN)
      s.image.clockId (l + 1) (s.scene c).syncSeq (logOctet 4 (s.get (A.scc c) SC_CELL_CTRL_LOG_SYNC))))
      (.syncScene c (s.scene c).syncSeq))) ∧
  (∀ (s : State) (c l : Nat), s.servesScene c l = true →
    ∃ (u : State) (b : Bytes), exec (.sceneAnnounceSend c l) s = .next (u.sendOwn l b .none) ∧
      (u.scene c).announceSeq = ((s.scene c).announceSeq + 1) % 65536 ∧
      u.get (A.scc c) SC_GM_STATUS_PRIORITY2 = (255 - s.effClaim / 256) % 256 ∧ u.queues = s.queues) ∧
  (∀ (s : State) (c : Nat), s.isScene c = true →
    ∃ t, exec (.scNowSecRead c) s = .next t ∧ regsOnly s t ∧
      t.get (A.scc c) SC_NOW_SEC_SEC = secOf (s.sceneStamp c s.nowQ).2 ∧
      t.get (A.scc c) SC_NOW_NS_NS = nsOf (s.sceneStamp c s.nowQ).2 ∧
      t.get (A.scc c) SC_NOW_NS_FRAC = fracOf (s.sceneStamp c s.nowQ).2)

/-- A held frame is converted once its launch instant lies within the horizon. A held frame of a clock that runs is not
converted before its launch instant lies within the conversion horizon. From then on, with no SEQ below it
outstanding, every copy of it leaves the hold memory for the calendar with that instant as its launch instant, and
its SEQ is resolved. (03_scene_clocks.md, 04_feeds_hold.md) -/
def Obligations.FramesConvertWithinHorizon : Prop :=
  (∀ (s : State) (x q p : Nat) (h : Held), s.heldSeq x q = some h → s.launchAt h = some p →
    s.nowQ + s.horizonQ h.clock < p → exec (.frameConversion x q) s = .next s) ∧
  (∀ (s : State) (x q p : Nat) (h : Held), s.heldSeq x q = some h → (s.scene h.clock).stopped = false →
    s.launchAt h = some p → p ≤ s.nowQ + s.horizonQ h.clock → q ≤ s.nextSeq x →
    exec (.frameConversion x q) s = .next (State.resolve { s with
      held := s.held.filter (fun g => !(g.stream == x && g.seq == q)),
      launches := (s.held.filter (fun g => g.stream == x && g.seq == q)).foldl
        (fun ls g => insertLaunch { held := g, t0 := p } ls) s.launches } x q h.epoch h.scene))

/-- An envelope that fails a check is counted in that check's counter; the others take effect. A recognised envelope is
counted as received. The first of the checks up to the profile check that it fails is counted in its FD counter. An
accepted frame envelope is counted and filed by the stream's checks; a heartbeat, an end of stream and a grant
request that pass take their own effects. A frame of another kind, or none of an envelope at all, is not this event.
(04_feeds_hold.md) -/
def Obligations.EnvelopesAreCheckedAndCounted : Prop :=
  ∀ (s : State) (l : Nat) (b : List Byte),
    (∀ (c : Instr) (k : Nat), (c, k) ∈ [(.envelopeFrame l b, 0x00), (.envelopeHeartbeat l b, 0x01),
        (.envelopeEndOfStream l b, 0x02), (.envelopeGrantRequest l b, 0x11)] →
      (s.envelopeOf l b k = none → exec c s = .next s) ∧
      (∀ (e : Envelope) (f : Fld), s.envelopeOf l b k = some e → (s.countRx l b.length).admission l e = .inl f →
        exec c s = .next ((s.countRx l b.length).bump (A.fd (sliceOf l)) f))) ∧
    (∀ (e : Envelope) (x : Nat), (s.countRx l b.length).admission l e = .inr x →
      let u := s.countRx l b.length
      (s.envelopeOf l b 0x00 = some e → exec (.envelopeFrame l b) s =
        .next ((u.bump (A.fd (sliceOf l)) FD_CNT_ACCEPTED_COUNT).acceptFrame x e)) ∧
      (s.envelopeOf l b 0x01 = some e → exec (.envelopeHeartbeat l b) s = .next (u.acceptHeartbeat x (sliceOf l) e)) ∧
      (s.envelopeOf l b 0x02 = some e → exec (.envelopeEndOfStream l b) s = .next (u.acceptEnd x (sliceOf l) e)) ∧
      (s.envelopeOf l b 0x11 = some e → exec (.envelopeGrantRequest l b) s = .next (u.acceptRequest x (sliceOf l))))

/-- Sources time out, and grants go out when they are due. A source that is UP, is enabled and has sent nothing accepted
for TIMEOUT_US goes DOWN with one entry; before that nothing happens. A due answer to a grant request is one
unmerged record, and its request is answered then. On a serving slice the records due by an event, and at each
interval those of all streams that have not ended, are formed and sent; before the interval ends nothing is.
(04_feeds_hold.md) -/
def Obligations.GrantsAndSources : Prop :=
  (∀ (s : State) (n i : Nat), s.on (A.fds n i) FD_SRC_STATUS_UP = true → s.on (A.fds n i) FD_SRC_CTRL_EN = true →
    let t := s.get (A.fds n i) FD_SRC_CTRL_TIMEOUT_US
    let r := SMap.get (0, 0) s.sources (n * 512 + i)
    exec (.sourceTimeout n i) s = .next (
      if t * 1000 ≤ s.since (r.1 - 1) then
        (State.put { s with sources := SMap.set (0, 0) (n * 512 + i) (r.1, s.time.clk) s.sources } (A.fds n i)
          FD_SRC_STATUS_UP 0).report (srcSlice n 3) 0x0025 objSource (n * 512 + i) t
      else s)) ∧
  (∀ (s u : State) (x : Nat) (g : Grant), (s.feed x).reqDue = true → s.feedOn x = true →
    (s.setFeed x { s.feed x with reqDue := false }).formGrant x = some (g, u) →
    exec (.grantAnswerSend x) s = .next (u.sendGrants
      ((s.setFeed x { s.feed x with reqDue := false }).feedSlice x)
      ((s.setFeed x { s.feed x with reqDue := false }).feedSource x) [g])) ∧
  (∀ (s : State) (n i : Nat), s.grantsRun n i = true →
    let xs := (s.sourceFeeds n i).filter (fun x => (s.feed x).eventDue || s.epochNews x)
    let u := xs.foldl (fun s x => s.setFeed x { s.feed x with eventDue := false }) s
    exec (.grantEventSend n i) s = .next ((u.formGrants xs).2.sendGrants n i (u.formGrants xs).1)) ∧
  (∀ (s : State) (n i : Nat), s.grantsRun n i = true → s.on (A.fds n i) FD_SRC_CTRL_RANGE_OK = false →
    let r := SMap.get (0, 0) s.sources (n * 512 + i)
    s.grantInterval n i ≤ s.since r.2 →
    let u : State := { s with sources := SMap.set (0, 0) (n * 512 + i) (r.1, s.time.clk) s.sources }
    let xs := (u.sourceFeeds n i).filter (fun x => u.feedMode x != 3)
    exec (.grantPeriod n i) s = .next ((u.formGrants xs).2.sendGrants n i (u.formGrants xs).1)) ∧
  (∀ (s : State) (n i : Nat), s.since (SMap.get (0, 0) s.sources (n * 512 + i)).2 < s.grantInterval n i →
    exec (.grantPeriod n i) s = .next s)

/-- The late test of the next SEQ, and the limit of a hold. The next SEQ of an ACTIVE stream that is not held fails its
late test at its slot's instant, with D added, less the horizon, and not before. A stream that waits for a missing
SEQ passes it over once HOLD_LIMIT_NS have passed since its late test, counting it again, and not before.
(04_feeds_hold.md) -/
def Obligations.LateTestsAndHolds : Prop :=
  (∀ (s : State) (x e y p : Nat), s.feedOn x = true → s.feedMode x = 1 → s.heldSeq x (s.nextSeq x) = none →
    s.slotOf x = some (e, y) → s.physOf (s.feedClock x) e y = some p →
    exec (.lateTest x) s = .next (if p + s.feedD x ≤ s.nowQ + s.horizonQ (s.feedClock x) then s.lateFail x (some (e, y))
      else s)) ∧
  (∀ (s : State) (x y : Nat), (s.feed x).holdingAt = some y → s.feedMode x = 2 →
    exec (.holdLimitExpiry x) s = .next (
      if s.get (A.tfeed x) HM_FEED_W1_HOLD_LIMIT_NS ≤ s.since y then
        ((s.countLate x 1).noteLate x [s.nextSeq x]).advanceTo x (s.nextSeq x + 1) (s.slotOf x)
      else s))

/-- The commands of the feed table. READ shows the entry's sixteen words in the window. WRITE of a window that fails its
checks answers BAD_VALUE and changes nothing else; one that passes puts the window's first three words in the entry.
CLEAR_COUNTS zeroes the entry's eight counters. RESET_HOLD returns the stream's offset D to 0. Each answers OK.
(04_feeds_hold.md) -/
def Obligations.FeedTableCommands : Prop :=
  (∀ s : State, ∃ t, exec .hmFeedRead s = .next t ∧ regsOnly s t ∧ t.get A.hm HM_FEED_CMD_STATUS = stOK ∧
    ∀ k, k < 16 → t.word (A.hm + 0x40 + 8 * k) = t.word (A.tfeed s.feedIdx + 0x40 + 8 * k)) ∧
  (∀ s : State, s.feedWindowOk = false →
    exec .hmFeedWrite s = .next (s.put A.hm HM_FEED_CMD_STATUS stBadValue)) ∧
  (∀ s : State, s.feedWindowOk = true →
    let u := s.copyWords (A.tfeed s.feedIdx) A.hm 0x40 3
    s.feedOn s.feedIdx = u.feedOn s.feedIdx →
    exec .hmFeedWrite s = .next (u.put A.hm HM_FEED_CMD_STATUS stOK)) ∧
  (∀ s : State, ∃ t, exec .clearCounts s = .next t ∧ regsOnly s t ∧ t.get A.hm HM_FEED_CMD_STATUS = stOK ∧
    ∀ f ∈ [HM_FEED_W8_ACCEPTED, HM_FEED_W9_LATE_FEED, HM_FEED_W10_REPEATED, HM_FEED_W11_LATE_ARRIVAL,
      HM_FEED_W12_STALE_SEQ, HM_FEED_W13_DUP_SEQ, HM_FEED_W14_AHEAD_OF_GRANT, HM_FEED_W15_HOLD_FULL],
      t.get (A.tfeed s.feedIdx) f = 0) ∧
  (∀ s : State, ∃ t, exec .resetHold s = .next t ∧ (t.feed s.feedIdx).d = 0 ∧ t.get A.hm HM_FEED_CMD_STATUS = stOK)

/-- A conversion horizon is written only while its cell is disabled. A WRITE to SC_HORIZON of a defined cell whose EN is
1 answers BAD_VALUE and stores nothing. With EN 0, a WRITE of a value in range that the image's ports allow stores
it and answers OK. (R70) -/
def Obligations.HorizonIsWrittenOnlyWhileDisabled : Prop :=
  ∀ (s : State) (q c w : Nat) (f : Found), s.xpServes = true → s.mode ≠ 11 → q < 8 → c < 2048 → s.isScene c = true →
    findReg (A.scc c + SC_HORIZON_NS.off) = some f → f.kind = .scCell → f.idx = [c] → f.reg.rwp = 0 →
    s.busCheck q .write (A.scc c + SC_HORIZON_NS.off) 1 = (stOK, s) →
    let refused : Answer := { status := stBadValue }
    (s.on (A.scc c) SC_CELL_CTRL_EN = true →
      exec (.writeWord q (A.scc c + SC_HORIZON_NS.off) w) s =
        .next (s.emit (.response q opWrite stBadValue refused.count (s.answerFlags refused) refused.data))) ∧
    (s.on (A.scc c) SC_CELL_CTRL_EN = false → 2000 ≤ w → w ≤ 32000 → f.reg.inRange w = true → s.horizonOk c w = true →
      f.reg.after (s.word (A.scc c + SC_HORIZON_NS.off)).toNat w = w →
      ∃ t, exec (.writeWord q (A.scc c + SC_HORIZON_NS.off) w) s = .next t ∧ t.get (A.scc c) SC_HORIZON_NS = w)

/-- The Mirror unit refuses PUSH and FLUSH. On the Mirror unit of a pair, PUSH and FLUSH of a defined cell only give
their result: BAD_VALUE with their identifier. (R272) -/
def Obligations.MirrorRefusesSegmentCommands : Prop :=
  ∀ (s : State) (c kind tag : Nat), s.isScene c = true → s.mirrorRole = true →
    exec (.push c kind tag) s = .next (s.segResult c tag stBadValue 0 0 false) ∧
    exec (.flush c tag) s = .next (s.segResult c tag stBadValue 0 0 false) ∧
    (s.segResult c tag stBadValue 0 0 false).get (A.scc c) SC_SEG_RESULT_STATUS = stBadValue

/-- A launch frame is staged, waits for its instant and starts on a free wire. The first unstaged launch of a port is
rewritten and waits as bytes; one whose rewrite profile is gone, or that is longer than the port's limit, is marked
as missed. No launch starts before its instant. At or after it a launch with a cause to be missed is missed; a
staged one that the wire and its lateness tolerance let go passes the injectors and starts at the latest of its
instant, the end of the wire's last frame, its staging and its release. (05_launch_gates.md) -/
def Obligations.LaunchesStageAndStart : Prop :=
  (∀ (s : State) (l : Nat) (x : Launch), s.datapath = true → s.launches.find? (Launch.unstaged l) = some x →
    s.profValid (sliceOf l) x.held.rewrite = true →
    s.get (A.lnp l) LN_PORT_MAXFRAME_BYTES < (s.rewrite l x.held).length →
    exec (.launchStage l) s = .next { s with
      launches := replaceFirst (Launch.unstaged l) (fun _ => { x with fail := some 5 }) s.launches }) ∧
  (∀ (s : State) (l : Nat) (x : Launch), s.datapath = true → s.launches.find? (Launch.unstaged l) = some x →
    s.profValid (sliceOf l) x.held.rewrite = false →
    exec (.launchStage l) s = .next { s with
      launches := replaceFirst (Launch.unstaged l) (fun _ => { x with fail := some 6 }) s.launches }) ∧
  (∀ (s : State) (l : Nat) (x : Launch), s.datapath = true → s.launches.find? (Launch.unstaged l) = some x →
    s.profValid (sliceOf l) x.held.rewrite = true →
    (s.rewrite l x.held).length ≤ s.get (A.lnp l) LN_PORT_MAXFRAME_BYTES →
    ∃ t, exec (.launchStage l) s = .next t ∧ t = { s with words := t.words, launches := t.launches } ∧
      t.launches = replaceFirst (Launch.unstaged l)
        (fun _ => { x with staged := some (s.rewrite l x.held), stagedAt := s.nowQ }) s.launches) ∧
  (∀ (s : State) (l : Nat) (x : Launch), (s.portLaunches l).head? = some x → s.nowQ < x.t0 →
    exec (.launch l) s = .next s) ∧
  (∀ (s : State) (l c : Nat) (x : Launch), s.datapath = true → (s.portLaunches l).head? = some x → x.t0 ≤ s.nowQ →
    s.missCause l x = some c → exec (.launch l) s = .next (s.miss l x c)) ∧
  (∀ (s u : State) (l : Nat) (x : Launch) (b d : Bytes), s.datapath = true → (s.portLaunches l).head? = some x →
    s.missCause l x = none → x.staged = some b → (s.wire l).tx = none →
    let start := max (max x.t0 (s.wire l).freeAt) (max x.stagedAt x.released)
    start ≤ s.nowQ →
    (x.held.dropLate = false ∨ start ≤ x.t0 + nsQ (s.get (A.lnp l) LN_PORT_CTRL_LATE_TOL_NS)) →
    s.inject l 0 x.inj { bytes := b, stream := some x.held.stream, cls := x.held.tc } = (u, .pass d) →
    exec (.launch l) s = .next (u.startLaunch l x d start false))

/-- A frame is complete at its last bit, and shadows defer what waits. A frame on a wire ends at its stop instant and
not before: the wire is free, the frame has been sent and is counted for its port and class, and its relay cells are
freed or, for a launch, its launch is done. While a port is inside a launch shadow the frames the shadow defers are
counted and credits go on; outside one nothing happens. (05_launch_gates.md, 06_preemption_shaping.md,
13_measurement.md) -/
def Obligations.FramesLeaveTheWire : Prop :=
  (∀ (s : State) (l : Nat) (x : Tx), (s.wire l).tx = some x → s.nowQ < x.stop →
    exec (.transmitComplete l) s = .next s) ∧
  (∀ (s : State) (l : Nat) (x : Tx), s.isPort l = true → (s.wire l).tx = some x → x.stop ≤ s.nowQ →
    x.dropped = false → s.ownSkew l x.frame.own = 0 →
    let a := ((s.setWire l { s.wire l with tx := none }).emit (x.output l 0)).countTx l x.frame.bytes.length (some x.cls)
      x.launch.isSome
    let b := match x.launch with
      | some y => a.launchDone l x y
      | none => a.freeRelay l x.frame.cells
    exec (.transmitComplete l) s = .next
      ((((b.ownSent l x.frame.own (x.start + 64 * 65536 / max 1 (b.portRate l))).refreshPe l).groupIdle l).recredit l)) ∧
  (∀ (s : State) (l : Nat), s.isPort l = true →
    exec (.shadowOpen l) s = .next (if s.inShadow l s.nowQ then (s.noteDeferred l).recredit l else s))

/-- A rewrite profile is read and written whole through its window. READ puts the four words of the selected profile in
the window and answers OK. WRITE of words that pass their checks stores the first two, the third with the growth
that follows from the first, and zero as the fourth, and answers OK; other words and a bad index answer BAD_VALUE
and change nothing else. (05_launch_gates.md) -/
def Obligations.RewriteProfiles : Prop :=
  (∀ (s : State) (n i : Nat), s.isSlice n = true → s.rwIndex n = some i →
    ∃ t, exec (.lnRwRead n) s = .next t ∧ regsOnly s t ∧ t.get (A.ln n) LN_RW_W0_W0 = s.profWord n i 0 ∧
      t.get (A.ln n) LN_RW_W1_W1 = s.profWord n i 1 ∧ t.get (A.ln n) LN_RW_W2_W2 = s.profWord n i 2 ∧
      t.get (A.ln n) LN_RW_W3_W3 = s.profWord n i 3 ∧ t.get (A.ln n) LN_RW_CMD_STATUS = stOK) ∧
  (∀ (s : State) (n : Nat), s.isSlice n = true → s.rwIndex n = none →
    exec (.lnRwRead n) s = .next (s.put (A.ln n) LN_RW_CMD_STATUS stBadValue) ∧
    exec (.lnRwWrite n) s = .next (s.put (A.ln n) LN_RW_CMD_STATUS stBadValue)) ∧
  (∀ (s : State) (n i : Nat), s.isSlice n = true → s.rwIndex n = some i →
    profOk (s.get (A.ln n) LN_RW_W0_W0) (s.get (A.ln n) LN_RW_W2_W2) (s.get (A.ln n) LN_RW_W3_W3) = false →
    exec (.lnRwWrite n) s = .next (s.put (A.ln n) LN_RW_CMD_STATUS stBadValue)) ∧
  (∀ (s : State) (n i : Nat), s.isSlice n = true → n < 8 → s.rwIndex n = some i →
    profOk (s.get (A.ln n) LN_RW_W0_W0) (s.get (A.ln n) LN_RW_W2_W2) (s.get (A.ln n) LN_RW_W3_W3) = true →
    ∃ t, exec (.lnRwWrite n) s = .next t ∧ regsOnly s t ∧
      t.get (A.trwprof n i) LN_RW_W0_W0 = s.get (A.ln n) LN_RW_W0_W0 ∧
      t.get (A.trwprof n i) LN_RW_W1_W1 = s.get (A.ln n) LN_RW_W1_W1 ∧ t.get (A.trwprof n i) LN_RW_W3_W3 = 0 ∧
      t.get (A.ln n) LN_RW_CMD_STATUS = stOK)

/-- A gate list command ends with its result. A CONFIG_CHANGE whose admin list fails a check, a CANCEL with nothing
pending or too late, and a command word whose OP is none change only GC_CMD_RESULT: the identifier, the status and
the next RESULT_SEQ. A CONFIG_CHANGE that passes makes the admin list pending for the first of its cycle starts at
least 2 µs ahead, and replaces a pending one. A CANCEL at least 2 µs before the change removes it.
(05_launch_gates.md) -/
def Obligations.GateCommands : Prop :=
  (∀ (s : State) (l tag : Nat), s.isPort l = true →
    commitStatus (s.gateAdmin l) 4096 (fun e => decide (geOp e ≤ 2)) (s.gateLists l).pending s.nowQ ≠ stOK →
    exec (.configChange l tag) s = .next (s.gateResult l tag
      (commitStatus (s.gateAdmin l) 4096 (fun e => decide (geOp e ≤ 2)) (s.gateLists l).pending s.nowQ) false false)) ∧
  (∀ (s : State) (l tag : Nat), s.isPort l = true →
    commitStatus (s.gateAdmin l) 4096 (fun e => decide (geOp e ≤ 2)) (s.gateLists l).pending s.nowQ = stOK →
    let g := s.gateAdmin l
    let k := changeN g.base g.cycle (s.nowQ + nsQ 2000)
    ∃ t, exec (.configChange l tag) s = .next t ∧
      (t.gateLists l).pending = some (g, g.base + k * nsQ g.cycle) ∧ (t.gateLists l).oper = (s.gateLists l).oper ∧
      t.get (A.gcp l) GC_STATUS_CONFIG_PENDING = 1 ∧ t.get (A.gcp l) GC_CMD_RESULT_STATUS = stOK ∧
      t.get (A.gcp l) GC_CMD_RESULT_TAG = tag % 2 ^ 16 ∧
      t.get (A.gcp l) GC_CMD_RESULT_REPLACED = bit (s.gateLists l).pending.isSome) ∧
  (∀ (s : State) (l tag : Nat), s.isPort l = true → (s.gateLists l).pending = none →
    exec (.cancel l tag) s = .next (s.gateResult l tag stNOP false false)) ∧
  (∀ (s : State) (l tag cct : Nat) (g : GateSet), s.isPort l = true → (s.gateLists l).pending = some (g, cct) →
    cct < s.nowQ + nsQ 2000 →
    exec (.cancel l tag) s = .next (s.gateResult l tag stChangeLocked false false)) ∧
  (∀ (s : State) (l tag cct : Nat) (g : GateSet), s.isPort l = true → (s.gateLists l).pending = some (g, cct) →
    s.nowQ + nsQ 2000 ≤ cct →
    ∃ t, exec (.cancel l tag) s = .next t ∧ (t.gateLists l).pending = none ∧
      (t.gateLists l).oper = (s.gateLists l).oper ∧ t.get (A.gcp l) GC_STATUS_CONFIG_PENDING = 0 ∧
      t.get (A.gcp l) GC_CMD_RESULT_STATUS = stOK) ∧
  (∀ (s : State) (l tag : Nat), s.isPort l = true →
    ∃ t, exec (.gcCmdNop l tag) s = .next t ∧ regsOnly s t ∧
      wordsKept (· = A.gcp l + GC_CMD_RESULT_TAG.off) s t ∧ t.get (A.gcp l) GC_CMD_RESULT_STATUS = stNOP ∧
      t.get (A.gcp l) GC_CMD_RESULT_TAG = tag % 2 ^ 16)

/-- The pending gate list takes over at its instant, and entries set the gates. A pending gate list does not take over
before its change instant. Then it is the list in operation, shown in the oper registers and counted, and its first
entry begins. An entry that is due sets the gates as its operation says; one that fails its complement check is not
put in force, raises the event and is reported. A write of GATE_EN is held in the register and brings nothing else
about by itself. A read of GC_LIST_DATA shows the entry at GC_LIST_PTR, and with AUTO_INC the index advances.
(05_launch_gates.md) -/
def Obligations.GateListsRun : Prop :=
  (∀ (s : State) (l cct : Nat) (g : GateSet), (s.gateLists l).pending = some (g, cct) → s.nowQ < cct →
    exec (.configChangeTime l) s = .next s) ∧
  (∀ (s : State) (l cct : Nat) (g : GateSet), s.isPort l = true → (s.gateLists l).pending = some (g, cct) →
    cct ≤ s.nowQ → (s.gateLists l).oper = none →
    let u := (((((((s.setGateLists l { s.gateLists l with
      pending := none, oper := some g, entryAt := none, lastCct := cct }).put (A.gcp l) GC_OPER_BASE_SEC_SEC
      (secOf g.base)).put (A.gcp l) GC_OPER_BASE_NS_NS (nsOf g.base)).put (A.gcp l) GC_OPER_CYCLE_NS g.cycle).put
      (A.gcp l) GC_OPER_EXT_NS g.ext).put (A.gcp l) GC_OPER_LEN_LEN g.entries.length).put (A.gcp l)
      GC_STATUS_CONFIG_PENDING 0)
    exec (.configChangeTime l) s = .next
      (((((u.raise (A.gcp l) GC_EVENT_FLAGS 0).bump (A.gcp l) GC_CNT_CHANGES_COUNT).classOpen l g)).gateEntry l true)) ∧
  (∀ (s : State) (l i e t : Nat) (intact : Bool), s.isPort l = true → s.operEntry l = some (i, e, t) →
    (s.gateLists l).enabled = true → (s.gateLists l).entryAt ≠ some t →
    let u := s.setGateLists l { s.gateLists l with entryAt := some t }
    exec (.gateEntryStart l intact) s = .next (
      if intact then u.enterGate l i e
      else (u.raise (A.gcp l) GC_EVENT_FLAGS 3).report (srcSlice (sliceOf l) 5) 0x0011 objPort l 0)) ∧
  (∀ (s : State) (l : Nat) (en : Bool), s.isPort l = true →
    ∃ t, exec (.gateEnWrite l en) s = .next t ∧ regsOnly s t ∧ t.get (A.gcp l) GC_PORT_CTRL_GATE_EN = bit en ∧
      onlyField (A.gcp l) GC_PORT_CTRL_GATE_EN s t) ∧
  (∀ (s : State) (l : Nat), s.isPort l = true →
    ∃ t, exec (.gcListDataRead l) s = .next t ∧ regsOnly s t ∧
      t.get (A.gcp l) GC_LIST_DATA_ENTRY = s.gateData l % 2 ^ 64 ∧
      t.get (A.gcp l) GC_LIST_PTR_INDEX = (if s.on (A.gcp l) GC_LIST_PTR_AUTO_INC = true then
        (s.get (A.gcp l) GC_LIST_PTR_INDEX + 1) % 2 ^ (GC_LIST_PTR_INDEX.hi + 1 - GC_LIST_PTR_INDEX.lo)
        else s.get (A.gcp l) GC_LIST_PTR_INDEX))

/-- A free wire serves the express class, then a pre-empted frame, then the others. No frame is selected while the wire
is busy or its link is down. Otherwise, after the heads that cannot be sent have been dropped and deferrals noted,
the choice among express classes is served first; with none, a pre-empted frame goes on; with none of these, the
choice among the other classes is served. The frame bound for a slice whose instant has come first moves on towards
its queues, and the later ones wait their turn. (06_preemption_shaping.md) -/
def Obligations.TransmissionIsSelected : Prop :=
  (∀ (s : State) (l : Nat), (s.wire l).tx.isSome = true ∨ s.nowQ < (s.wire l).freeAt ∨ s.linkUp l = false →
    exec (.transmitSelect l) s = .next s) ∧
  (∀ (s : State) (l : Nat), s.isPort l = true → (s.wire l).tx = none → (s.wire l).freeAt ≤ s.nowQ → s.linkUp l = true →
    let u := (s.dropHeads l).noteDeferred l
    let v := match u.pick l (u.macClasses l true), (s.wire l).preempted, u.pick l (u.macClasses l false) with
      | some p, _, _ => u.serve l p
      | none, some x, _ => u.continuation l x
      | none, none, some p => u.serve l p
      | none, none, none => u
    exec (.transmitSelect l) s = .next ((v.groupIdle l).recredit l)) ∧
  (∀ (s : State) (n : Nat), (∀ x ∈ SMap.get [] s.crossing n, s.nowQ < (if x.left then x.due else s.halfQ x)) →
    exec (.egressEnqueue n) s = .next s) ∧
  (∀ (s : State) (n : Nat) (x : Crossing) (r : List Crossing), s.isSlice n = true →
    SMap.get [] s.crossing n = x :: r → (if x.left then x.due else s.halfQ x) ≤ s.nowQ →
    let y := if x.left then s.offer x else s.split n x
    exec (.egressEnqueue n) s = .next { y.2 with crossing := SMap.set [] n (y.1 ++ r) y.2.crossing })

/-- A fragment ends where an express frame, a shadow, a gate or a hold asks for it. A frame that is express, or of which
fewer than 64 bytes would remain, is not pre-empted, nor is any frame while pre-emption is not active or nothing
asks for it. Otherwise the fragment on the wire ends at its next legal boundary, is sent, and the rest of the frame
waits; the fragment is counted. An algorithm written to a class queue takes effect when the queue is empty, with
credit 0. (06_preemption_shaping.md) -/
def Obligations.FramesArePreempted : Prop :=
  (∀ (s : State) (l : Nat) (x : Tx), (s.wire l).tx = some x →
    (x.express = true ∨ s.peActive l = false ∨ x.frame.bytes.length < x.sent + s.fragBytes l x + 64) →
    exec (.preempt l) s = .next s) ∧
  (∀ (s : State) (l : Nat) (x : Tx), s.isPort l = true → (s.wire l).tx = some x → x.express = false →
    s.peActive l = true → s.peWanted l = true → s.shadowPreempts l = false →
    (s.gatePreempts l x.cls || s.macHold l || (s.pick l (s.macClasses l true)).isSome) = true →
    x.sent + s.fragBytes l x + 64 ≤ x.frame.bytes.length →
    let d := s.fragBytes l x
    let u := (s.emit (.fragment l x.start (slice x.frame.bytes x.sent d))).setWire l { s.wire l with
      freeAt := max (x.start + nsQ (wireNs (d + 24) (s.portRate l))) s.nowQ, tx := none,
      preempted := some { x with sent := x.sent + d, frags := x.frags + 1 } }
    exec (.preempt l) s = .next ((((u.put (A.pep l) PE_PORT_STATUS_TX_IN_PROGRESS 1).bump (A.pep l)
      PE_CNT_FRAG_TX_COUNT).event l 12 (some x.cls) 1).recredit l)) ∧
  (∀ (s : State) (l k : Nat), s.isPort l = true → k < 8 →
    exec (.algoApply l k) s = .next (
      if s.on (A.shc l k) SH_CLASS_CTRL_ALGO_PENDING && (s.classFrames l k).isEmpty then
        ((s.put (A.shc l k) SH_CLASS_CTRL_ALGO_PENDING 0).setCredit l k
          { s.credit l k with value := 0, at_ := s.nowQ, cond := 0, algo := 0 }).recredit l
      else s))

/-- Pre-emption is verified by up to three frames, and its peer is known by LLDP. While verification is under way a
verify frame goes out at each interval, up to three; then the port's verification has failed, with an event and one
entry. A response to one sent ends verification as succeeded; a received verify frame is answered where pre-emption
is enabled. RESTART_VERIFY starts again. An LLDPDU goes out every TX_S seconds, and at once after a change. A
received one holds the peer's abilities for its TTL; a TTL of 0, and the end of the TTL, forget the peer.
(06_preemption_shaping.md) -/
def Obligations.VerificationOfPreemption : Prop :=
  (∀ (s : State) (l : Nat), s.isPort l = true → s.get (A.pep l) PE_PORT_STATUS_VERIFY_STATUS = 2 → s.peReady l = true →
    s.isPairLink l = false → ((s.merge l).verifies = 0 ∨
      s.get (A.pep l) PE_PORT_CTRL_VERIFY_TIME_MS * 1000000 ≤ s.since (s.merge l).verifyAt) →
    exec (.verifySend l) s = .next (
      if 3 ≤ (s.merge l).verifies then
        ((s.put (A.pep l) PE_PORT_STATUS_VERIFY_STATUS 4).raise (A.pep l) PE_EVENT_FLAGS 1).reportOther
          (srcSlice (sliceOf l) 6) objPort l 0
      else ((s.setMerge l { s.merge l with verifies := (s.merge l).verifies + 1, verifyAt := s.time.clk }).inc (A.pep l)
        PE_CNT_VERIFY_SENT 1).sendOwn l mergeFrame .verify)) ∧
  (∀ (s : State) (l : Nat), s.isPort l = true →
    exec (.verifyFrameReceive l true) s = .next (
      if s.get (A.pep l) PE_PORT_STATUS_VERIFY_STATUS = 2 ∧ (s.merge l).verifies ≠ 0 then
        (s.put (A.pep l) PE_PORT_STATUS_VERIFY_STATUS 3).refreshPe l
      else s)) ∧
  (∀ (s : State) (l : Nat), s.isPort l = true →
    exec (.verifyFrameReceive l false) s = .next (
      if s.on (A.pep l) PE_PORT_CTRL_EN then (s.inc (A.pep l) PE_CNT_VERIFY_RESPONDED 1).sendOwn l mergeFrame .respond
      else s)) ∧
  (∀ (s : State) (l : Nat), s.isPort l = true →
    exec (.restartVerify l) s = .next ((s.startVerify l).refreshPe l)) ∧
  (∀ (s : State) (l t : Nat), s.isPort l = true → s.on (A.pep l) PE_PORT_CTRL_LLDP_EN = true → s.linkUp l = true →
    s.isPairLink l = false → (s.merge l).lldpDue = false → (s.merge l).lldpAt = some t →
    exec (.lldpSend l) s = .next (
      if s.get (A.pep l) PE_LLDP_TX_S * 1000000000 ≤ s.since t then
        let u := s.setMerge l { s.merge l with lldpDue := false, lldpAt := some s.time.clk }
        u.sendOwn l (lldpFrame (((s.port? l).map (·.mac)).getD 0) l (min 65535 (4 * s.get (A.pep l) PE_LLDP_TX_S + 1))
          (u.lldpCaps l)) .none
      else s)) ∧
  (∀ (s : State) (l ttl caps : Nat) (f : List Byte), s.isPort l = true → s.on (A.pep l) PE_PORT_CTRL_LLDP_EN = true →
    lldpScan (f.take (f.length - 4)) f.length 14 (none, none) = (some ttl, some caps) →
    let u := (((s.put (A.pep l) PE_PORT_STATUS_PEER_SEEN 1).put (A.pep l) PE_PORT_STATUS_PEER_SUPPORTED (caps % 2)).put
      (A.pep l) PE_PORT_STATUS_PEER_ENABLED (caps / 2 % 2)).put (A.pep l) PE_PORT_STATUS_PEER_AFS (caps / 8 % 4)
    exec (.lldpReceive l f) s = .next (
      if ttl = 0 then s.peerGone l
      else (u.setMerge l { u.merge l with peerUntil := s.time.clk + ttl * 1000000000 }).refreshPe l)) ∧
  (∀ (s : State) (l : Nat), s.isPort l = true → s.on (A.pep l) PE_PORT_STATUS_PEER_SEEN = true →
    exec (.lldpTtlExpiry l) s = .next (if (s.merge l).peerUntil ≤ s.time.clk then s.peerGone l else s))

/-- Received fragments are joined in order, and anything else is an error. A fragment that continues the frame under
assembly with the same frame count and the expected fragment count is joined to it; a first fragment starts a frame,
and one left under assembly is an assembly error; a continuation that does not fit, or without a frame under
assembly, is an assembly error and drops what was there; an unknown SMD, or any fragment where pre-emption is off,
is an SMD error. With queue samples off the port's samples start again when they are turned on.
(06_preemption_shaping.md) -/
def Obligations.FragmentsAreReassembled : Prop :=
  (∀ (s : State) (l count frag : Nat) (b x : List Byte) (sof : Nat), s.isPort l = true → s.linkUp l = true →
    s.on (A.pep l) PE_PORT_CTRL_EN = true →
    let u := s.bump (A.pep l) PE_CNT_FRAG_RX_COUNT
    u.on (A.pep l) PE_PORT_CTRL_EN = true → (u.merge l).rx = some (x, count, frag, sof) →
    exec (.fragmentReceive l 1 count frag b) s = .next (u.joinFragment l x b count ((frag + 1) % 4) sof)) ∧
  (∀ (s : State) (l count frag : Nat) (b : List Byte), s.isPort l = true → s.linkUp l = true →
    let u := s.bump (A.pep l) PE_CNT_FRAG_RX_COUNT
    u.on (A.pep l) PE_PORT_CTRL_EN = true → (u.merge l).rx = none →
    exec (.fragmentReceive l 0 count frag b) s = .next (u.joinFragment l [] b count 0 u.nowQ) ∧
    exec (.fragmentReceive l 1 count frag b) s = .next (u.bump (A.pep l) PE_CNT_ASSY_ERR_COUNT)) ∧
  (∀ (s : State) (l smd count frag : Nat) (b : List Byte), s.isPort l = true → s.linkUp l = true → 2 ≤ smd →
    exec (.fragmentReceive l smd count frag b) s = .next (s.bump (A.pep l) PE_CNT_SMD_ERR_COUNT)) ∧
  (∀ (s : State) (l : Nat), s.isPort l = true → s.on (A.shp l) SH_PORT_CTRL_QS_EN = false →
    exec (.queueSample l) s = .next (s.setMerge l { s.merge l with qsCfg := none })) ∧
  (∀ (s : State) (l : Nat) (cfg : Nat × Nat), s.isPort l = true → s.on (A.shp l) SH_PORT_CTRL_QS_EN = true →
    (s.merge l).qsCfg = some cfg → s.nowQ / nsQ (max cfg.1 1 * 1000) * nsQ (max cfg.1 1 * 1000) ≤ (s.merge l).qsAt →
    exec (.queueSample l) s = .next s) ∧
  (∀ (s : State) (l : Nat) (cfg : Nat × Nat), s.isPort l = true → s.on (A.shp l) SH_PORT_CTRL_QS_EN = true →
    (s.merge l).qsCfg = some cfg → (s.merge l).qsAt < s.nowQ / nsQ (max cfg.1 1 * 1000) * nsQ (max cfg.1 1 * 1000) →
    let q := s.nowQ / nsQ (max cfg.1 1 * 1000) * nsQ (max cfg.1 1 * 1000)
    let u := ((List.range 8).filter (cfg.2.testBit ·)).foldl (fun s k => s.qsClass l q k) s
    exec (.queueSample l) s = .next (u.setMerge l { u.merge l with
      qsCfg := some (u.qsRegs l), qsAt := q, qsReconf := if u.qsRegs l = cfg then (u.merge l).qsReconf else (u.qsRegs l).2 }))

/-- A link comes up at a rate the image allows, and takes its frame with it when it goes. A link that is lost shows so,
frees the wire and loses the frame and the pre-empted frame on it. A link comes up, and verification starts again,
at a lane rate that the image allows for the port, provided no lane of it failed its self-test; otherwise nothing
changes. (01_module.md, 05_launch_gates.md, 06_preemption_shaping.md) -/
def Obligations.PortLinksComeAndGo : Prop :=
  (∀ (s : State) (l : Nat), s.isPort l = true →
    let a := ((s.put (A.lnp l) LN_PORT_STATUS_LINK_UP 0).setRate l 0)
    let b := ((a.wire l).tx.toList ++ (a.wire l).preempted.toList).foldl (fun s t => s.loseTx l t)
      (a.setWire l { freeAt := a.nowQ })
    let c := (b.put (A.pep l) PE_PORT_STATUS_TX_IN_PROGRESS 0)
    exec (.portLinkLoss l) s = .next
      ((((c.setMerge l { c.merge l with rx := none }).refreshPe l).groupIdle l).recredit l)) ∧
  (∀ (s : State) (l rate : Nat) (p : PortRec), s.port? l = some p →
    exec (.portLinkUp l rate) s = .next (
      if rate = 0 ∨ 5 < rate ∨ p.rates.testBit (rate - 1) = false ∨
          (∃ j ∈ s.tests.badLanes, l ≤ j ∧ j < l + p.lanes) then s
      else (((s.put (A.lnp l) LN_PORT_STATUS_LINK_UP 1).setRate l rate).startVerify l).refreshPe l))

/-- A matrix command ends with its result, and a change waits for its instant. A COMMIT whose matrix fails a check
answers that check's status, cycle and window; one too close to a pending change answers CHANGE_LOCKED; neither does
anything else. On a running cell a COMMIT that passes waits for the first start of the matrix at least 2 µs ahead. A
CANCEL at least 2 µs before the change removes it; later it answers CHANGE_LOCKED, and with nothing pending NOP. OP
none answers NOP. The pending matrix takes over at its instant, or at once on a disabled cell. A read of CL_MX_W1
shows the second word of the window and advances it under AUTO_INC. (07_cells.md) -/
def Obligations.MatrixCommands : Prop :=
  (∀ (s : State) (c tag st cyc win : Nat), (s.homeSlice c).isSome = true →
    s.matrixFail c (s.adminMatrix c) = some (st, cyc, win) →
    exec (.commit c tag) s = .next (s.matrixResult c tag st cyc win false)) ∧
  (∀ (s : State) (c tag e : Nat) (m : List Basic), (s.homeSlice c).isSome = true →
    s.matrixFail c (s.adminMatrix c) = none → (s.cell c).pending = some (m, e) → e < s.toCell c s.nowQ + nsQ 2000 →
    exec (.commit c tag) s = .next (s.matrixResult c tag stChangeLocked 0 0 false) ∧
    exec (.clMxCancel c tag) s = .next (s.matrixResult c tag stChangeLocked 0 0 false)) ∧
  (∀ (s : State) (c tag b : Nat), (s.homeSlice c).isSome = true → s.matrixFail c (s.adminMatrix c) = none →
    (s.cell c).pending = none → (s.matrixResult c tag stOK 0 0 false).cellOn c = true → (s.cell c).base = some b →
    let len := nsQ (matrixLen (s.cell c).oper)
    let eff := b + ceilDiv (s.toCell c s.nowQ + nsQ 2000 - b) len * len
    let u := (s.matrixResult c tag stOK 0 0 false).setCell c { s.cell c with pending := some (s.adminMatrix c, eff) }
    let v := u.put (u.cellBase c) CL_STATUS_CONFIG_PENDING 1
    exec (.commit c tag) s = .next (v.showEff c (u.fromCell c eff))) ∧
  (∀ (s : State) (c tag : Nat), (s.homeSlice c).isSome = true →
    exec (.clMxNop c tag) s = .next (s.matrixResult c tag stNOP 0 0 false) ∧
    ((s.cell c).pending = none → exec (.clMxCancel c tag) s = .next (s.matrixResult c tag stNOP 0 0 false))) ∧
  (∀ (s : State) (c tag e : Nat) (m : List Basic), (s.homeSlice c).isSome = true →
    (s.cell c).pending = some (m, e) → s.toCell c s.nowQ + nsQ 2000 ≤ e →
    let u := s.setCell c { s.cell c with pending := none }
    let v := u.put (u.cellBase c) CL_STATUS_CONFIG_PENDING 0
    exec (.clMxCancel c tag) s = .next ((v.showEff c (s.cell c).lastEff).matrixResult c tag stOK 0 0 false)) ∧
  (∀ (s : State) (c e : Nat) (m : List Basic), (s.homeSlice c).isSome = true → (s.cell c).pending = some (m, e) →
    exec (.matrixChangeEffective c) s = .next (
      if s.cellOn c = false then s.setMatrix c m (s.toCell c s.nowQ)
      else if s.toCell c s.nowQ < e then s
      else (s.setMatrix c m e).setCell c { (s.setMatrix c m e).cell c with base := some e, cycleAt := none })) ∧
  (∀ (s : State) (n : Nat), s.isSlice n = true →
    exec (.clMxW1Read n) s = .next ((s.put (A.cl n) CL_MX_W1_ENTRY1 (s.mxWindow n).2).mxNext n))

/-- A cell starts and stops, counts its cycles and fires its marks. A write of EN that repeats the cell's state changes
nothing; EN 1 starts a stopped cell and EN 0 stops a running one. A matrix cycle does not start before its instant;
then it is noted and counted, and a cell that follows its own time is in SYNC. A mark with no instant due since it
last fired does not fire. A mark or node record that fails its checks answers BAD_VALUE, one of a cell with another
home slice is ignored, and any other is stored and answers OK. (07_cells.md) -/
def Obligations.CellsRun : Prop :=
  (∀ (s : State) (c : Nat) (en : Bool), (s.homeSlice c).isSome = true →
    exec (.clCellEnable c en) s = .next (
      if en = s.cellOn c then s else if en then (s.startCell c).2 else s.stopCell c)) ∧
  (∀ (s : State) (c u : Nat), (s.cell c).base.isSome = true → (s.cell c).cycleAt = some u →
    s.toCell c s.nowQ < u + nsQ (matrixLen (s.cell c).oper) → exec (.matrixCycleStart c) s = .next s) ∧
  (∀ (s : State) (c b u : Nat), (s.homeSlice c).isSome = true → (s.cell c).base = some b → (s.cell c).cycleAt = some u →
    s.cellOn c = true → u + nsQ (matrixLen (s.cell c).oper) ≤ s.toCell c s.nowQ →
    let t := u + nsQ (matrixLen (s.cell c).oper)
    let a := s.correct c
    let keep := fun (e : Nat × Nat × Nat × Nat) => decide (t ≤ e.2.2.2 + nsQ 65536)
    let v := (a.setCell c { a.cell c with
      cycleAt := some t, bad := [], syncs := [], started := (a.cell c).started.filter keep, substituted := (a.cell c).substituted.filter keep,
      arb := (a.cell c).arb.filter (fun e => keep e.1) }).bump (a.cellBase c) CL_MATRIX_COUNT_COUNT
    exec (.matrixCycleStart c) s = .next (if v.cellExternal c then v else v.put (a.cellBase c) CL_STATUS_STATE 2)) ∧
  (∀ (s : State) (c m t : Nat), (s.homeSlice c).isSome = true → m < 16 → (s.cell c).cycleAt = some t →
    (s.mark c m).next = none →
    ((markInstants (s.mark c m).cfg (s.cell c).oper 0 t).filter
      (fun u => decide (u ≤ s.toCell c s.nowQ ∧ (s.mark c m).firedAt < u))).getLast? = none →
    exec (.cycleMark c m) s = .next (s.setMark c m (s.mark c m))) ∧
  (∀ (s : State) (c m t u : Nat), (s.homeSlice c).isSome = true → m < 16 → (s.cell c).cycleAt = some t →
    (s.mark c m).next = none →
    ((markInstants (s.mark c m).cfg (s.cell c).oper 0 t).filter
      (fun u => decide (u ≤ s.toCell c s.nowQ ∧ (s.mark c m).firedAt < u))).getLast? = some u →
    s.cellOn c = true → s.get (s.cellBase c) CL_STATUS_STATE = 2 → (s.mark c m).cfg.testBit 63 = true →
    (s.mark c m).cfg.testBit 54 = false → (s.mark c m).cfg.testBit 53 = false →
    exec (.cycleMark c m) s = .next (s.setMark c m { s.mark c m with
      fired := ((s.mark c m).fired + 1) % 2 ^ 32, firedAt := u,
      core := (s.mark c m).core + bit ((s.mark c m).cfg.testBit 55) })) ∧
  (∀ (s : State) (n w : Nat), s.isSlice n = true →
    let c := s.get (A.cl n) CL_MARK_SEL_CELL
    let m := s.get (A.cl n) CL_MARK_SEL_MARK
    exec (.clMarkCfgWrite n w) s = .next (
      if s.isHome n c = false then s
      else if s.markOk c m w = false then s.put (A.cl n) CL_MARK_STATUS_STATUS stBadValue
      else (s.setMark c m (match s.nextBasic c with
        | some t => { s.mark c m with next := some (w, t) }
        | none => { s.mark c m with cfg := w, next := none })).put (A.cl n) CL_MARK_STATUS_STATUS stOK)) ∧
  (∀ (s : State) (n w : Nat), s.isSlice n = true → w.testBit 63 = true → s.isHome n (bitsOf w 62 52) = true →
    s.cellOn (bitsOf w 62 52) = true →
    exec (.clNodeCfgWrite n w) s = .next (s.put (A.cl n) CL_NODE_CFG_STATUS stBadValue)) ∧
  (∀ (s : State) (n w : Nat), s.isSlice n = true → w.testBit 63 = false → n < 8 → s.get (A.cl n) CL_NODE_SEL_NODE < 65536 →
    s.isHome n (s.get (A.tnode (s.get (A.cl n) CL_NODE_SEL_NODE)) CL_NODE_CFG_CELL) = true →
    s.cellOn (s.get (A.tnode (s.get (A.cl n) CL_NODE_SEL_NODE)) CL_NODE_CFG_CELL) = false →
    ∃ t, exec (.clNodeCfgWrite n w) s = .next t ∧ regsOnly s t ∧
      t.get (A.tnode (s.get (A.cl n) CL_NODE_SEL_NODE)) CL_NODE_CFG_VALID = 0 ∧
      t.get (A.cl n) CL_NODE_CFG_STATUS = stOK)

/-- A cold start forwards the winner, and a missing frame is replaced by the stored one. Until CS_RELAY_NS after the
cold start window's close, or on a unit without authority, or on a disabled cell, no cold start frame is forwarded;
then the winner leaves on every port of the cell, the cell's time starts from it, and the cell is in SYNC. In a
running cell a window for which a frame is stored whose age has reached the window's limit is only noted; below the
limit the stored frame, one older and with a good FCS, leaves at the latest place an accepted frame could take, and
is counted. (07_cells.md) -/
def Obligations.ColdstartAndSubstitution : Prop :=
  (∀ (s : State) (c t : Nat), (s.cell c).csOpen = some t →
    (s.nowQ < t + nsQ (s.get (s.cellBase c) CL_CS_CTRL_CS_LEN_NS) + nsQ (s.get (s.cellBase c) CL_CS_CTRL_CS_RELAY_NS) ∨
      s.authority = false ∨ s.cellOn c = false) → exec (.coldstartForward c) s = .next s) ∧
  (∀ (s : State) (c t : Nat) (w : CsFrame), (s.homeSlice c).isSome = true → (s.cell c).csOpen = some t →
    (s.cell c).csFrames = [w] → w.rank < 8 → bestCold [w] = some w → s.authority = true → s.cellOn c = true →
    let b := s.cellBase c
    let tf := t + nsQ (s.get b CL_CS_CTRL_CS_LEN_NS) + nsQ (s.get b CL_CS_CTRL_CS_RELAY_NS)
    tf ≤ s.nowQ →
    let u := State.capture ((s.setCell c { s.cell c with csOpen := none, csFrames := [] }).countVerdict w.frame.lane
      vdCsForwarded) { w.frame with verdict := vdCsForwarded } (vdDrops vdCsForwarded)
    let v := (u.cellPorts c).foldl (fun s p =>
      s.launchFrame p.lane (w.frame.stream.getD 0) w.frame.tc tf .forwarded w.frame.bytes) u
    exec (.coldstartForward c) s = .next (((v.startAt c (tf + nsQ (v.get b CL_CS_CTRL_START_OFFSET_NS))).put b
      CL_STATUS_STATE 2).raise b CL_EVENT_FLAGS 1)) ∧
  (∀ (s : State) (c ch cyc win : Nat) (i : Inst) (y : Stored), (s.homeSlice c).isSome = true →
    s.unstarted c ch cyc win = some i →
    (s.cell c).store.find? (fun y => y.chan == ch && y.cyc == cyc && y.win == win) = some y → s.cellOn c = true →
    s.get (s.cellBase c) CL_STATUS_STATE = 2 → winSubst i.words ≤ y.count →
    exec (.substitution c ch cyc win) s = .next
      (s.setCell c { s.cell c with substituted := i.key ch :: (s.cell c).substituted })) ∧
  (∀ (s : State) (c ch cyc win : Nat) (i : Inst) (y : Stored), (s.homeSlice c).isSome = true →
    s.unstarted c ch cyc win = some i →
    (s.cell c).store.find? (fun y => y.chan == ch && y.cyc == cyc && y.win == win) = some y → s.cellOn c = true →
    s.get (s.cellBase c) CL_STATUS_STATE = 2 → y.count < winSubst i.words →
    ∃ (u : State) (b : Bytes) (t0 : Nat), exec (.substitution c ch cyc win) s = .next ((y.ports.foldl
        (fun s l => s.launchFrame l y.stream (s.entry (sliceOf l) y.stream).tc t0 .substitute (withFcs b)) u).bump
        ((y.ports.foldl (fun s l => s.launchFrame l y.stream (s.entry (sliceOf l) y.stream).tc t0 .substitute
          (withFcs b)) u).cellBase c) CL_CNT_SUBST_COUNT) ∧
      u = { s with cells := u.cells } ∧ t0 = u.fromCell c (i.closes + u.marginQ c + u.starQ c - u.instTx c i))

/-- A frame that arrives is received, and waits its turn for a second pass or the slow path. A frame that starts to
arrive on a port whose link is down, or on no port, changes nothing. With injection off it is received with its
bytes, its instant of arrival and the state of its window's entry. The head of a recirculation queue leaves it for
its second pass, which looks it up in the second table by its inner headers. The oldest slow-path frame leaves its
queue and is written whole to the slow path's ring. Empty queues change nothing. (01_module.md,
08_parse_classify.md) -/
def Obligations.FramesEnterThePipelines : Prop :=
  (∀ (s : State) (l : Nat) (b : List Byte) (intact full : Bool), s.isPort l = false ∨ s.linkUp l = false →
    exec (.ingressFrame l b intact full) s = .next s) ∧
  (∀ (s : State) (l : Nat) (b : List Byte) (intact full : Bool), s.isPort l = true → s.linkUp l = true →
    s.injectionOn = false →
    exec (.ingressFrame l b intact full) s =
      .next (s.receive { lane := l, bytes := b, sof := s.nowQ, intact := intact } full)) ∧
  (∀ (s : State) (n p : Nat), SMap.get [] s.recirc (n * 8 + p) = [] → exec (.recircPass n p) s = .next s) ∧
  (∀ (s : State) (n p : Nat) (x : Recirc) (xs : List Recirc), s.isSlice n = true →
    SMap.get [] s.recirc (n * 8 + p) = x :: xs →
    let u : State := { s with recirc := SMap.set [] (n * 8 + p) xs s.recirc }
    let a : Arrival := { lane := x.lane, bytes := x.bytes, sof := x.sof, intact := x.intact, stepped := x.stepped }
    let f := u.find x.lane (u.get (A.cfp x.lane) CF_PORT_CTRL_TABLE2) true x.epoch x.mdata
      (u.parseInner n a.body { tunnel := x.inner })
    exec (.recircPass n p) s = .next ((u.countFound x.lane f).follow a f (some x.slot) true)) ∧
  (∀ s : State, s.slow = [] → exec .slowPathRecord s = .next s) ∧
  (∀ (s : State) (x : CapFrame) (xs : List CapFrame), s.slow = x :: xs →
    exec .slowPathRecord s = .next (State.writeRecord { s with slow := xs }
      (s.get (A.pr (sliceOf x.lane)) PR_SLOW_CTRL_RING) 2 false x.bytes.length x))

/-- Rules are added to and removed from the staging set, which a commit makes current. While an old rule set is being
retired ADD, REMOVE and COMMIT_EPOCH answer BUSY_EPOCH and change nothing else. ADD of a slot that no width fits
answers BAD_VALUE. REMOVE takes the entry out of the staging set, or answers NOP where it is not in it. COMMIT_EPOCH
makes the staging set current and starts to retire the other. CLEAR_HITS zeroes the entry's hit counter. READ shows
the entry's words in the window. Retirement ends only when no frame of the old set is left; then no rule set is
being retired. (08_parse_classify.md) -/
def Obligations.RuleSetCommands : Prop :=
  (∀ (s : State) (n : Nat), s.isSlice n = true → s.on (A.cf n) CF_EPOCH_RETIRING = true →
    exec (.add n) s = .next (s.cfStatus n stBusyEpoch) ∧ exec (.remove n) s = .next (s.cfStatus n stBusyEpoch) ∧
    exec (.commitEpoch n) s = .next (s.cfStatus n stBusyEpoch)) ∧
  (∀ (s : State) (n : Nat), s.isSlice n = true → s.on (A.cf n) CF_EPOCH_RETIRING = false →
    s.slotWidth n (s.cfSlot n) = none → exec (.add n) s = .next (s.cfStatus n stBadValue)) ∧
  (∀ (s : State) (n w : Nat), s.isSlice n = true → s.on (A.cf n) CF_EPOCH_RETIRING = false →
    s.slotWidth n (s.cfSlot n) = some w →
    let e := A.ttcam n (s.cfSlot n)
    let mask := s.wide (A.cf n) CF_EM_MASK % 2 ^ keyBits w
    s.get e CF_EIN_IN = 0 → mask &&& keyReserved w = 0 → actionOk (s.get (A.cf n) CF_EA_ACTION) = true →
    let u := (((s.putWide e CF_EK_VALUE (s.wide (A.cf n) CF_EK_VALUE % 2 ^ keyBits w)).putWide e CF_EM_MASK mask).put e
      CF_EA_ACTION (s.get (A.cf n) CF_EA_ACTION)).put e CF_EHITS_HITS 0
    exec (.add n) s = .next ((u.raise e CF_EIN_IN (u.staging n)).cfStatus n stOK)) ∧
  (∀ (s : State) (n : Nat), s.isSlice n = true → s.on (A.cf n) CF_EPOCH_RETIRING = false →
    let e := A.ttcam n (s.cfSlot n)
    exec (.remove n) s = .next (
      if (s.get e CF_EIN_IN).testBit (s.staging n) then
        (s.put e CF_EIN_IN (s.get e CF_EIN_IN - 2 ^ s.staging n)).cfStatus n stOK
      else s.cfStatus n stNOP)) ∧
  (∀ (s : State) (n : Nat), s.isSlice n = true → s.on (A.cf n) CF_EPOCH_RETIRING = false →
    ∃ t, exec (.commitEpoch n) s = .next t ∧ regsOnly s t ∧ t.get (A.cf n) CF_EPOCH_CURRENT = s.staging n % 2 ∧
      t.get (A.cf n) CF_EPOCH_RETIRING = 1) ∧
  (∀ (s : State) (n : Nat), s.isSlice n = true →
    exec (.clearHits n) s = .next ((s.put (A.ttcam n (s.cfSlot n)) CF_EHITS_HITS 0).cfStatus n stOK)) ∧
  (∀ (s : State) (n : Nat), s.isSlice n = true →
    exec (.cfRead n) s = .next ((((s.copyWords (A.cf n) (A.ttcam n (s.cfSlot n)) 0x90 3).copyWords (A.cf n)
      (A.ttcam n (s.cfSlot n)) 0x100 10).copyWords (A.cf n) (A.ttcam n (s.cfSlot n)) 0x180 10).cfStatus n stOK)) ∧
  (∀ (s : State) (n : Nat), s.isSlice n = true → s.on (A.cf n) CF_EPOCH_RETIRING = true →
    s.epochClear n (1 - s.get (A.cf n) CF_EPOCH_CURRENT) = false → exec (.epochRetire n) s = .next s) ∧
  (∀ (s : State) (n : Nat), s.isSlice n = true → s.on (A.cf n) CF_EPOCH_RETIRING = true →
    s.epochClear n (1 - s.get (A.cf n) CF_EPOCH_CURRENT) = true →
    ∃ t, exec (.epochRetire n) s = .next t ∧ regsOnly s t ∧ t.get (A.cf n) CF_EPOCH_RETIRING = 0)

/-- Staged entries join a batch that a commit gives an instant, at which each slice applies it. Each command through a
slice ends with its identifier, its status, the index of a failed entry and the number of staged entries in
ST_RESULT. OP none answers NOP, as do COMMIT and ABORT of an empty batch. ABORT empties the batch. STAGE adds the
window's entry to the batch, without its blocked flag, or answers QUEUE_FULL. A COMMIT that fails a check answers
that check and its index. A COMMIT that passes gives the batch to every slice in service, to be applied
APPLY_LEAD_NS later, and empties the batch. READ and READ_COUNTS show the entry and its counters; UNBLOCK clears the
flag on every slice. A slice that holds the committed batch intact applies all of it once its instant has come, and
not before; one that gets it intact only after that instant applies it then, counts it and reports it; a slice that
has applied it, and a module without a committed batch, change nothing. (08_parse_classify.md) -/
def Obligations.StreamTableCommands : Prop :=
  (∀ (s : State) (n tag : Nat), s.isSlice n = true →
    ∃ t, exec (.stNop n tag) s = .next t ∧ regsOnly s t ∧ wordsKept (· = A.st n + ST_RESULT_TAG.off) s t ∧
      t.get (A.st n) ST_RESULT_TAG = tag % 2 ^ 16 ∧ t.get (A.st n) ST_RESULT_STATUS = stNOP) ∧
  (∀ (s : State) (n tag : Nat), s.isSlice n = true → s.batch = [] →
    exec (.stCommit n tag) s = .next (s.stResult n tag stNOP 0) ∧
    exec (.stAbort n tag) s = .next (s.stResult n tag stNOP 0)) ∧
  (∀ (s : State) (n tag : Nat), s.isSlice n = true → s.batch ≠ [] →
    ∃ t, exec (.stAbort n tag) s = .next t ∧ t.batch = [] ∧ t = { s with words := t.words, batch := [] } ∧
      t.get (A.st n) ST_RESULT_STATUS = stOK ∧ t.get (A.st n) ST_RESULT_STAGED = 0) ∧
  (∀ (s : State) (n tag : Nat), s.isSlice n = true →
    let w3 := s.get (A.st n) (ST_W_W 3)
    let x : BatchItem := ⟨false, s.get (A.st n) ST_IDX_INDEX, [s.get (A.st n) (ST_W_W 0), s.get (A.st n) (ST_W_W 1),
      s.get (A.st n) (ST_W_W 2), if w3.testBit 46 then w3 - 2 ^ 46 else w3]⟩
    exec (.stage n tag) s = .next (match stageItem x s.batch with
      | some q => State.stResult { s with batch := q } n tag stOK 0
      | none => s.stResult n tag stQueueFull 0)) ∧
  (∀ (s : State) (n tag st i : Nat), s.isSlice n = true → s.batch ≠ [] → s.batchFail = some (st, i) →
    exec (.stCommit n tag) s = .next (s.stResult n tag st i)) ∧
  (∀ (s : State) (n tag : Nat), s.isSlice n = true → s.batch ≠ [] → s.batchFail = none → s.liveSlices ≠ [] →
    ∃ t, exec (.stCommit n tag) s = .next t ∧ t.batch = [] ∧
      t.update = some ⟨s.batch, (s.get (A.st n) ST_EPOCH_COMMITTED + 1) % 2 ^ 32,
        s.nowQ + nsQ (s.get (A.st n) ST_CTRL_APPLY_LEAD_NS), s.liveSlices⟩ ∧
      t = { s with words := t.words, batch := [], update := t.update }) ∧
  (∀ (s : State) (n tag : Nat), s.isSlice n = true →
    exec (.stRead n tag) s = .next ((s.copyWords (A.st n) (A.tstream n (s.get (A.st n) ST_IDX_INDEX)) 0x18 4).stResult n
      tag stOK 0) ∧
    exec (.readCounts n tag) s = .next ((s.copyWords (A.st n) (A.tstcnt 0 (s.get (A.st n) ST_IDX_INDEX)) 0x80 6).stResult
      n tag stOK 0) ∧
    exec (.unblock n tag) s = .next (((List.range 8).foldl
      (fun u m => u.setBlocked m (s.get (A.st n) ST_IDX_INDEX) false) s).stResult n tag stOK 0)) ∧
  (∀ (s : State) (n : Nat), s.isSlice n = true →
    let x : BatchItem := ⟨true, s.get (A.st n) ST_GRP_IDX_GROUP,
      (List.range 8).map (fun k => s.get (A.st n) (ST_GRP_W_LANES k))⟩
    exec (.stGrpRead n) s = .next ((s.copyWords (A.st n) (A.tgroup n (s.get (A.st n) ST_GRP_IDX_GROUP)) 0x110 8).put
      (A.st n) ST_GRP_CMD_STATUS stOK) ∧
    exec (.stGrpStage n) s = .next (match stageItem x s.batch with
      | some q => (State.put { s with batch := q } (A.st n) ST_RESULT_STAGED q.length).put (A.st n) ST_GRP_CMD_STATUS stOK
      | none => s.put (A.st n) ST_GRP_CMD_STATUS stQueueFull)) ∧
  (∀ (s : State) (n : Nat) (u : Update), s.update = some u → n ∈ u.slices →
    exec (.batchApply n) s = .next (if u.at_ ≤ s.nowQ then s.applyUpdate n u else s) ∧
    exec (.lateApply n) s = .next (if u.at_ < s.nowQ then
      ((s.applyUpdate n u).bump (A.st n) ST_CNT_LATE_APPLY_COUNT).reportOther (srcSlice n 2) objSlice n 0 else s)) ∧
  (∀ (s : State) (n : Nat), (∀ u ∈ s.update, n ∉ u.slices) →
    exec (.batchApply n) s = .next s ∧ exec (.lateApply n) s = .next s)

/-- Stream gate lists change like gate lists, and flow meters are read and written. A CONFIG_CHANGE that fails a check,
or finds no room in the list memory, answers that status; one that passes waits for the first of its cycle starts at
least 2 µs ahead. A CANCEL with nothing pending answers NOP, one less than 2 µs ahead CHANGE_LOCKED, and an earlier
one removes the change. CLEAR releases a gate held closed. OP none answers NOP. The pending list takes over at its
instant and not before; the entry that is due opens or closes the gate and begins with no octets passed. A read of
ST_SG_DATA shows the entry at its window. READ shows the meter's three words. WRITE gives the meter the window's
values but for its red mark, which stays, and fills both buckets. CLEAR_RED clears the mark. Each answers OK.
(08_parse_classify.md) -/
def Obligations.StreamGateCommands : Prop :=
  (∀ (s : State) (n g tag : Nat), s.isSlice n = true →
    let x := s.sgAdmin n g
    let y := (s.sgate n g).lists
    let st := commitStatus x 1024 (fun _ => true) y.pending s.nowQ
    let k := changeN x.base x.cycle (s.nowQ + nsQ 2000)
    let cct := x.base + k * nsQ x.cycle
    exec (.sgConfigChange n g tag) s = .next (
      if st ≠ stOK then s.sgResult n g tag st false false
      else if s.sgPoolFull n g x.entries.length then s.sgResult n g tag stQueueFull false false
      else (((((s.setSgLists n g { y with pending := some (x, cct) }).sgShowCct n g cct).put (A.tsgate n g)
        ST_SG_STATUS_CONFIG_PENDING 1).sgShowPool n).sgResult n g tag stOK (decide (0 < k)) y.pending.isSome))) ∧
  (∀ (s : State) (n g tag : Nat), s.isSlice n = true → (s.sgate n g).lists.pending = none →
    exec (.sgCancel n g tag) s = .next (s.sgResult n g tag stNOP false false)) ∧
  (∀ (s : State) (n g tag cct : Nat) (x : GateSet), s.isSlice n = true → (s.sgate n g).lists.pending = some (x, cct) →
    exec (.sgCancel n g tag) s = .next (
      if cct < s.nowQ + nsQ 2000 then s.sgResult n g tag stChangeLocked false false
      else ((((s.setSgLists n g { (s.sgate n g).lists with pending := none }).sgShowCct n g
        (s.sgate n g).lists.lastCct).put (A.tsgate n g) ST_SG_STATUS_CONFIG_PENDING 0).sgShowPool n).sgResult n g tag stOK
        false false)) ∧
  (∀ (s : State) (n g tag : Nat), s.isSlice n = true →
    (∃ t, exec (.sgClear n g tag) s = .next t ∧ regsOnly s t ∧ t.get (A.tsgate n g) ST_SG_STATUS_CLOSED_OCTETS = 0 ∧
      t.get (A.tsgate n g) ST_SG_STATUS_CLOSED_INV_RX = 0 ∧ t.get (A.tsgate n g) ST_SG_RESULT_STATUS = stOK) ∧
    exec (.sgNop n g tag) s = .next (s.sgResult n g tag stNOP false false)) ∧
  (∀ (s : State) (n g cct : Nat) (p : GateSet), s.isSlice n = true → (s.sgate n g).lists.pending = some (p, cct) →
    exec (.sgConfigChangeTime n g) s = .next (
      if s.nowQ < cct then s
      else (((s.setSgLists n g { (s.sgate n g).lists with
        pending := none, oper := some p, entryAt := none, lastCct := cct }).put (A.tsgate n g) ST_SG_STATUS_CONFIG_PENDING
        0).sgShowPool n).sgEntry n g)) ∧
  (∀ (s : State) (n g i e t : Nat), s.isSlice n = true → s.sgEntryAt n g s.nowQ = some (i, e, t) →
    (s.sgate n g).lists.entryAt ≠ some t →
    exec (.sgEntryStart n g) s = .next (((s.setSgate n g
      { lists := { (s.sgate n g).lists with entryAt := some t }, octets := 0 }).put (A.tsgate n g) ST_SG_STATUS_OPEN (bit (sgOpen e))).put (A.tsgate n g) ST_SG_STATUS_CUR_ENTRY
      i)) ∧
  (∀ (s : State) (n : Nat), s.isSlice n = true →
    exec (.sgDataRead n) s = .next ((s.put (A.st n) ST_SG_DATA_ENTRY (s.sgData n)).sgNext n)) ∧
  (∀ (s : State) (n : Nat), s.isSlice n = true →
    let m := s.get (A.st n) ST_FM_IDX_METER
    let b := A.tmeter n m
    let u := (s.copyWords b (A.st n) 0x310 3).put b ST_FM_W2_MARK_RED (s.get b ST_FM_W2_MARK_RED)
    exec (.fmRead n) s = .next ((s.copyWords (A.st n) b 0x310 3).put (A.st n) ST_FM_CMD_STATUS stOK) ∧
    exec (.fmWrite n) s = .next ((u.setMeter n m ⟨u.get b ST_FM_W0_CBS * 8000, u.get b ST_FM_W1_EBS * 8000, s.time.clk⟩).put
      (A.st n) ST_FM_CMD_STATUS stOK) ∧
    exec (.clearRed n) s = .next ((s.put b ST_FM_W2_MARK_RED 0).put (A.st n) ST_FM_CMD_STATUS stOK))

/-- Generators and recoveries are commanded through their windows and keep their timers. READ shows the instance's words
in the window. WRITE of a generator sets its enable and mode on every slice; WRITE of a recovery whose window passes
its checks stores it on every slice, and answers BAD_VALUE otherwise. RESET starts the sequence again on every
slice. CLEAR_COUNTS zeroes this slice's counters of the instance. Each answers its status. A recovery that holds a
sequence returns to its start once no frame has passed for RESET_MS, and not before. A latent error test that is due
within its limit only notes its instant; beyond the limit it marks, counts and reports a latent error. The base of
the test restarts at its own interval and not before. (09_redundancy.md) -/
def Obligations.ReplicationTables : Prop :=
  (∀ (s : State) (n : Nat), s.isSlice n = true →
    let b := A.fr n
    let g := s.get b FR_GEN_IDX_INDEX
    let i := s.get b FR_REC_IDX_INDEX
    exec (.frGenRead n) s = .next ((s.copyWords b (A.tgenf n g) 0x18 2).put b FR_GEN_CMD_STATUS stOK) ∧
    exec (.frGenWrite n) s = .next ((s.everySlice (fun m u => (u.put (A.tgenf m g) FR_GEN_W0_EN (s.get b
      FR_GEN_W0_EN)).put (A.tgenf m g) FR_GEN_W0_MODE (s.get b FR_GEN_W0_MODE))).put b FR_GEN_CMD_STATUS stOK) ∧
    exec (.frGenReset n) s = .next ((s.everySlice (fun m u => u.put (A.tgenf m g) FR_GEN_W0_NEXT 0)).put b
      FR_GEN_CMD_STATUS stOK) ∧
    exec (.frRecRead n) s = .next ((s.copyWords b (A.trecf n i) 0x50 11).put b FR_REC_CMD_STATUS stOK) ∧
    exec (.frRecWrite n) s = .next (
      if s.recWindowOk n then (s.everySlice (fun m u => u.recStore n m i)).put b FR_REC_CMD_STATUS stOK
      else s.put b FR_REC_CMD_STATUS stBadValue) ∧
    exec (.frRecReset n) s = .next ((s.everySlice (fun m u => u.recReset m i)).put b FR_REC_CMD_STATUS stOK) ∧
    exec (.frRecClearCounts n) s = .next ((s.recClear n i).put b FR_REC_CMD_STATUS stOK)) ∧
  (∀ (s : State) (n i : Nat), s.isSlice n = true → s.on (A.trecf n i) FR_REC_W0_EN = true →
    s.on (A.trecf n i) FR_REC_W2_VALID = true →
    exec (.recoveryResetTimer n i) s = .next (
      if s.get (A.trecf n i) FR_REC_W0_RESET_MS * 1000000 ≤ s.since (s.rec_ n i).passAt then s.recReset n i else s)) ∧
  (∀ (s : State) (n i : Nat), s.isSlice n = true → s.on (A.trecf n i) FR_REC_W0_EN = true →
    s.on (A.trecf n i) FR_REC_W0_LAT_EN = true →
    s.get (A.trecf n i) FR_REC_W1_LAT_PERIOD_MS * 1000000 ≤ s.since (s.rec_ n i).testAt →
    let b := A.trecf n i
    let u := s.setRec n i { s.rec_ n i with testAt := s.time.clk }
    exec (.latentErrorTest n i) s = .next (
      if u.get b FR_REC_W1_LAT_DIFF < (u.pathBalance n i - (s.rec_ n i).base).natAbs then
        (((u.put b FR_REC_W2_LATENT 1).bump b FR_REC_W10_LATENT_ERRORS).raise (A.fr n) FR_EVENT_FLAGS 0).reportOther
          (srcSlice n 9) objNone 0 0
      else u)) ∧
  (∀ (s : State) (n i : Nat), s.isSlice n = true → s.on (A.trecf n i) FR_REC_W0_EN = true →
    s.on (A.trecf n i) FR_REC_W0_LAT_EN = true →
    exec (.latentBaseReset n i) s = .next (
      if s.get (A.trecf n i) FR_REC_W1_LAT_RESET_S * 1000000000 ≤ s.since (s.rec_ n i).baseAt then s.latentBase n i
      else s))

/-- A recovery resets when no frame passes for RESET_MS, and on RESET on every slice. When no frame of an enabled
recovery that holds a sequence has passed for RESET_MS, it clears VALID and its history, counts the reset in RESETS
and leaves LOST as it was. RESET does the same to the instance of every slice that the module has. (R255) -/
def Obligations.RecoveryResetsWithoutFrames : Prop :=
  let isReset := fun (s t : State) (n i : Nat) =>
    t.get (A.trecf n i) FR_REC_W2_VALID = 0 ∧ (t.rec_ n i).hist = 0 ∧
    t.get (A.trecf n i) FR_REC_W9_RESETS = (s.get (A.trecf n i) FR_REC_W9_RESETS + 1) % 2 ^ 64 ∧
    t.get (A.trecf n i) FR_REC_W7_LOST = s.get (A.trecf n i) FR_REC_W7_LOST
  (∀ (s : State) (n i : Nat), s.isSlice n = true → i < 65536 → s.on (A.trecf n i) FR_REC_W0_EN = true →
    s.on (A.trecf n i) FR_REC_W2_VALID = true →
    s.get (A.trecf n i) FR_REC_W0_RESET_MS * 1000000 ≤ s.since (s.rec_ n i).passAt →
    ∃ t, exec (.recoveryResetTimer n i) s = .next t ∧ isReset s t n i) ∧
  (∀ (s : State) (n : Nat), s.isSlice n = true →
    ∃ t, exec (.frRecReset n) s = .next t ∧
      ∀ m, m < 8 → s.isSlice m = true → isReset s t m (s.get (A.fr n) FR_REC_IDX_INDEX))

/-- Heartbeats of the pair are checked, and silence takes a link down. On a pair link a heartbeat of the wrong length or
checksum, or from another unit than the known partner, is a bad one; a claim whose complement does not match raises
the event and is reported; any other is a good one; without a pair nothing happens. The interval that has ended
without a heartbeat takes its link down only as the last of HB_LOSS. A unit that has waited PAIR_WAIT_MS without
hearing a partner takes authority, and not before. At the agreed instant the authority yields and the Mirror takes
over. RESYNC asks the authority for a snapshot. A sending instant that is the last one's repeats nothing.
(09_redundancy.md) -/
def Obligations.PairHeartbeats : Prop :=
  (∀ (s : State) (k : Nat) (b : List Byte), 2 ≤ k ∨ s.pairLane k = none ∨ s.pairRuns = false →
    exec (.heartbeatReceive k b) s = .next s) ∧
  (∀ (s : State) (k : Nat) (b : List Byte), k < 2 → (s.pairLane k).isSome = true → s.pairRuns = true →
    exec (.heartbeatReceive k b) s = .next (
      if b.length ≠ 92 ∨ crc32c (b.take 88) ≠ rd b 88 4 ∨ rd b 0 1 ≠ 1 ∨ rd b 1 1 ≠ 1 then s.badBeat
      else if rd b 20 2 + rd b 22 2 ≠ 0xFFFF then
        (s.badBeat.raise A.up UP_EVENT_FLAGS 5).report 2 0x0011 objNone 0 0
      else if s.get A.up UP_PARTNER_ID_ID ≠ 0 ∧ s.get A.up UP_PARTNER_ID_ID ≠ rd b 8 8 then s.badBeat
      else s.goodBeat k b)) ∧
  (∀ (s : State) (k : Nat), k < 2 → s.pairRuns = true → (s.pairLink k).got = false →
    exec (.pairLinkTimeout k) s = .next (
      if (s.pairLink k).missed + 1 < s.get A.up UP_CTRL_HB_LOSS then s else s.endInterval k)) ∧
  (∀ (s : State) (t : Nat), s.pair.waitFrom = some t → s.role = 0 → s.heard = false →
    exec .pairWaitExpiry s = .next (
      if s.get A.up UP_CTRL_PAIR_WAIT_MS * 1000000 ≤ s.since t then s.takeAuthority else s)) ∧
  (∀ s : State, s.handoverMs ≠ 0xFFFFFFFF → s.on A.up UP_CTRL_EN = true → idxSub s.nowMs s.handoverMs < 2 ^ 31 →
    (s.role = 1 → exec .handover s = .next s.yieldAuthority) ∧ (s.role = 2 → exec .handover s = .next s.takeAuthority)) ∧
  (∀ s : State, s.handoverMs = 0xFFFFFFFF → exec .handover s = .next s) ∧
  (∀ s : State, exec .resync s = .next (
    if s.role = 1 then { s with pair := { s.pair with snapDue := true } } else s)) ∧
  (∀ s : State, s.heartbeat.pair.leaving = none → exec .heartbeatSend s = .next s.heartbeat) ∧
  (∀ (s : State) (m c k : Nat), s.heartbeat.pair.leaving = some (m, c, k + 2) →
    s.heartbeat.pair.instant ≠ s.pair.instant →
    exec .heartbeatSend s = .next { s.heartbeat with pair := { s.heartbeat.pair with leaving := some (m, c, k + 1) } })

/-- The authority sends its state, resends what is not acknowledged, and the Mirror takes it in order. Only a unit that
has authority in a running pair and hears its partner sends state messages: the scene record that is due, and a
snapshot that is asked for. A message not acknowledged for 100 µs goes out again, is counted, and its interval
starts again; younger ones stay. The Mirror unit takes the message that is next in order, acknowledges its sequence
number and applies its records; any other is discarded. The digest of a millisecond is closed once.
(09_redundancy.md) -/
def Obligations.PairStateMessages : Prop :=
  (∀ (s : State) (type x : Nat), s.pairRuns = false ∨ s.role ≠ 1 ∨ s.heard = false →
    exec (.stateMessageSend type x) s = .next s ∧ exec .stateMessageResend s = .next s) ∧
  (∀ (s : State) (x : Nat), s.pairRuns = true → s.role = 1 → s.heard = true →
    (x ∈ s.pair.sceneDue → s.isScene x = true →
      exec (.stateMessageSend 1 x) s = .next (State.sendRecords
        { s with pair := { s.pair with sceneDue := s.pair.sceneDue.filter (· != x) } } 1 [s.sceneRecord x])) ∧
    exec (.stateMessageSend 6 x) s = .next (if s.pair.snapDue then s.sendSnapshot else s)) ∧
  (∀ s : State, s.pairRuns = true → s.role = 1 → s.heard = true →
    let u := (s.pair.unacked.filter (fun m => decide (100000 ≤ s.since m.sentAt))).foldl
      (fun u m => (u.sendMsg m.bytes).bump A.up UP_CNT_STATE_RETX_COUNT) s
    exec .stateMessageResend s = .next { u with pair := { u.pair with
      unacked := u.pair.unacked.map (fun (m : StateMsg) =>
        if 100000 ≤ u.since m.sentAt then { m with sentAt := u.time.clk } else m) } }) ∧
  (∀ (s : State) (k : Nat) (b : List Byte), k < 2 → (s.pairLane k).isSome = true → s.pairRuns = true → s.role = 2 →
    exec (.stateMessageReceive k b) s = .next (
      if s.stateNext b then
        (List.range (rd b 8 2)).foldl (fun u i => u.applyRecord (rd b 3 1)
          (slice b (16 + i * recordSize (rd b 3 1)) (recordSize (rd b 3 1))))
          { s with pair := { s.pair with ackIn := rd b 4 4 } }
      else s)) ∧
  (∀ s : State, 1500000 ≤ s.nowNs →
    exec .digestClose s = .next (
      if s.pair.closed = some s.closable then s
      else State.compareDigests { s with
        pair := { s.pair with closed := some s.closable },
        digests := s.digests.filter (fun e => decide (s.closable ≤ e.1)) }))

/-- Captured frames reach their rings or are counted, and reports reach the journal. The oldest selected frame leaves
its queue and is written to its ring with its profile's snap length and stamps; beyond the slice's or the module's
capture limit it is counted there and dropped. A frame that waits for export and has a bad FCS is counted as not
exported. A report outside Reset from a known source is handed to that source. The coalescer of a source is flushed
alone; after the ring was full, all are flushed in one pass; in Reset nothing happens. (10_capture_journal.md) -/
def Obligations.CapturesAndReports : Prop :=
  (∀ s : State, s.captures = [] → ∀ m, exec (.captureRecordWrite m) s = .next s) ∧
  (∀ (s : State) (x : CapFrame) (xs : List CapFrame), s.captures = x :: xs →
    let u : State := { s with captures := xs }
    exec (.captureRecordWrite 0) s = .next (u.writeRecord x.ring 1 (u.on (A.cpf x.profile) CP_PROF_CTRL_SHORT)
      (u.get (A.cpf x.profile) CP_PROF_CTRL_SNAP_LEN) x) ∧
    exec (.captureRecordWrite 1) s =
      .next ((u.bump A.cp (CP_CNT_SLICE_DROP_COUNT (sliceOf x.lane))).dropRecord x.ring x) ∧
    exec (.captureRecordWrite 2) s = .next ((u.bump A.cp CP_CNT_MODULE_DROP_COUNT).dropRecord x.ring x)) ∧
  (∀ s : State, s.exports = [] → exec .captureExport s = .next s) ∧
  (∀ (s : State) (x : CapFrame) (xs : List CapFrame), s.exports = x :: xs →
    let u : State := { s with exports := xs }
    let b := A.cpf x.profile
    let l := s.get b CP_PROF_EXP_LANE
    let q := SMap.get 0 s.exportSeqs (exportKey x.profile x.stream)
    let f := u.exportFrame q x
    let v : State := { u with exportSeqs := SMap.set 0 (exportKey x.profile x.stream) ((q + 1) % 2 ^ 64) s.exportSeqs }
    exec .captureExport s = .next (
      if x.fcsBad || decide (16000 < f.length) || !s.isPort l then u.bump b CP_PROF_EXP_DROP_COUNT
      else if u.relayFree l < cellsFor f.length then
        (u.bump (A.hmp l) HM_CNT_RELAY_DROP_COUNT).bump b CP_PROF_EXP_DROP_COUNT
      else ((v.bump b CP_PROF_EXP_CNT_COUNT).relay l
        (s.get (A.shf l (s.get b CP_PROF_EXP_FLOW)) SH_FLOW_CTRL_CLASS)
        { bytes := f, flow := some (s.get b CP_PROF_EXP_FLOW) }))) ∧
  (∀ (s : State) (src code kind object detail : Nat), s.mode ≠ 0 → src < 1024 →
    exec (.journalReport src code kind object detail) s = .next (s.report src code kind object detail)) ∧
  (∀ (s : State) (src : Nat), s.mode ≠ 0 →
    exec (.coalescerFlush src) s = .next (if s.journal.wasFull then s.jrPass else s.jrFlush src 0))

/-- Each control operation acts on the address map for its slot and sends one response. Outside Reset and Halt, with the
power good, an operation of one of the eight slots is carried out by the bus operation of its code and sends one
response with the status, count, flags and data that the operation gave; ACCESS_DENIED and NO_TARGET are counted. A
block operation takes 1 to 1024 words, a ring push 1 to 4 descriptors, a head 1 to 16 rings; other counts answer
BAD_VALUE. HELLO answers at most 16 times a second. KEY takes 32 bytes. Nothing happens for another slot, or where
the transport does not serve; in Halt a write answers ACCESS_DENIED. (11_control_rings.md, 19_register_map.md) -/
def Obligations.ControlOperationsAnswer : Prop :=
  let send := fun (u : State) (q o : Nat) (a : Answer) =>
    if u.mode = 0 then u
    else (u.countDenied a.status).emit (.response q o a.status a.count ((u.countDenied a.status).answerFlags a) a.data)
  (∀ (s : State) (q a v m : Nat), s.xpServes = true → s.mode ≠ 11 → q < 8 →
    let rd := s.busRead q a
    let wr := s.busWrite q a (v % 2 ^ 64)
    let pr := s.busPair q a (v % 2 ^ 64)
    let mw := s.busRmw q a (m % 2 ^ 64) (v % 2 ^ 64)
    exec (.readWord q a) s = .next (send rd.2.2 q opRead (wordAnswer rd.1 [rd.2.1])) ∧
    exec (.writeWord q a v) s = .next (send wr.2 q opWrite (wordAnswer wr.1 [])) ∧
    exec (.writePair q a v) s = .next (send pr.2 q opWritePair (wordAnswer pr.1 [])) ∧
    exec (.rmw q a m v) s = .next (send mw.2.2 q opRmw (wordAnswer mw.1 [mw.2.1]))) ∧
  (∀ (s : State) (q a n : Nat) (ws : List Nat), s.xpServes = true → s.mode ≠ 11 → q < 8 →
    let refused := fun (o : Nat) => send s q o { status := stBadValue }
    let vs := ws.map (· % 2 ^ 64)
    let br := s.blockRead q a n
    let bw := s.blockWrite q a vs
    let rp := s.pushOp q a (ws.length / 8) vs
    let hd := s.headOp q a n
    exec (.blockRead q a n) s = .next (if 1 ≤ n ∧ n ≤ 1024 then send br.2 q opBlockRead br.1 else refused opBlockRead) ∧
    exec (.blockWrite q a ws) s = .next (
      if 1 ≤ ws.length ∧ ws.length ≤ 1024 then send bw.2 q opBlockWrite bw.1 else refused opBlockWrite) ∧
    (ws.length % 8 = 0 → exec (.ringPush q a ws) s = .next (
      if 8 ≤ ws.length ∧ ws.length ≤ 32 ∧ a < 256 then send rp.2 q opRingPush rp.1 else refused opRingPush)) ∧
    exec (.head q a n) s = .next (
      if 1 ≤ n ∧ n ≤ 16 ∧ a + n ≤ 256 then send hd.2 q opHead hd.1 else refused opHead)) ∧
  (∀ (s : State) (q f start : Nat), s.xpServes = true → s.mode ≠ 11 → q < 8 → f ≤ 1 →
    exec (.hello q f start) s = .next (match s.helloOp q f (start % 2 ^ 32) with
      | (some a, u) => send u q opHello a
      | (none, u) => u)) ∧
  (∀ (s : State) (q : Nat) (k : List Byte), s.xpServes = true → s.mode ≠ 11 → q < 8 → k.length = 32 →
    exec (.key q k) s = .next (send (s.keyOp q k).2 q opKey (s.keyOp q k).1)) ∧
  (∀ (s : State) (q a v : Nat), s.xpServes = true → s.mode = 11 → q < 8 → a ≠ A.md + 8 →
    exec (.writeWord q a v) s = .next (send s q opWrite { status := stAccessDenied })) ∧
  (∀ (s : State) (q a n : Nat), s.xpServes = false ∨ 8 ≤ q →
    exec (.readWord q a) s = .next s ∧ exec (.blockRead q a n) s = .next s ∧ exec (.head q a n) s = .next s)

/-- Events are numbered, sent, resent and acknowledged, and control lanes come and go. The oldest waiting event goes out
with its channel's next event sequence unless 64 are unacknowledged. An unacknowledged event whose interval has
passed, on a lane that is up, is counted and sent again. ACK of a sequence drops every event of the slot and channel
up to it. A frame on a lane that is up which is no transport datagram for it is counted as dropped, and one that is
goes through the checks of a datagram; on a lane that is down it is lost. A lane that loses link is counted, raises
the event, and its slots' events move to the other lane if that is up; a lane that gains link takes the events of
slots whose lane is down. (11_control_rings.md) -/
def Obligations.TransportCarriesEvents : Prop :=
  (∀ (s : State) (e : Event) (rest : List Event), s.journal.events = e :: rest →
    let q := s.get A.xp XP_CTRL_EV_SLOT
    let c := s.get A.jr JR_CTRL_EV_CHANNEL
    let n := s.get (A.xps q) (XP_CH_SEQ_EV_NEXT c)
    let x : SentEvent := ⟨q, c, n, s.time.clk, e⟩
    exec .eventSend s = .next (
      if s.xpServes = true ∧ s.eventLaneUp q = true ∧ s.journal.unacked.length < 64 then
        ({ s with journal := { s.journal with events := rest, unacked := s.journal.unacked ++ [x] } }.put (A.xps q)
          (XP_CH_SEQ_EV_NEXT c) (n + 1)).sendEvent x
      else s)) ∧
  (∀ s : State, s.xpServes = true →
    let due := fun (e : SentEvent) => decide (s.get A.xp XP_CTRL_EV_RETX_US * 1000 ≤ s.since e.sentAt) && s.eventLaneUp e.slot
    exec .eventResend s = .next ((s.journal.unacked.filter due).foldl
      (fun u e => (u.bump A.xp XP_CNT_EV_RETX_COUNT).sendEvent e)
      { s with journal := { s.journal with unacked := s.journal.unacked.map (fun (e : SentEvent) =>
          if due e then { e with sentAt := s.time.clk } else e) } })) ∧
  (∀ (s : State) (q c seq : Nat), s.xpServes = true → q < 8 → c < 8 →
    let hit := fun (e : SentEvent) =>
      e.slot == q && e.chan == c && decide ((seq % 2 ^ 32 + 2 ^ 32 - e.dseq) % 2 ^ 32 < 2 ^ 31)
    ∃ t, exec (.ack q c seq) s = .next t ∧ t.journal.unacked = s.journal.unacked.filter (fun x => !hit x) ∧
      (∀ e, (s.journal.unacked.filter hit).getLast? = some e → t.get (A.xps q) (XP_CH_ACK_EV_ACKED c) = e.dseq % 2 ^ 32)) ∧
  (∀ (s : State) (d : Datagram), s.xpServes = true → d.lane < 2 →
    exec (.datagramReceive d) s = .next (
      if s.on (A.xpl d.lane) XP_LANE_CFG_LINK_UP = false then s
      else if d.transport then s.datagram d else s.bump (A.xpl d.lane) XP_LANE_RX_DROP_COUNT)) ∧
  (∀ (s : State) (k : Nat), k < 2 → s.on (A.xpl k) XP_LANE_CFG_LINK_UP = true →
    let u := ((s.put (A.xpl k) XP_LANE_CFG_LINK_UP 0).bump (A.xpl k) XP_LANE_DOWN_COUNT).raise A.xp XP_EVENT_FLAGS 1
    exec (.controlLaneLoss k) s = .next (
      if u.on (A.xpl (1 - k)) XP_LANE_CFG_LINK_UP then
        (List.range 8).foldl (fun u q =>
          if u.slotKnown q && u.get (A.xps q) XP_SLOT_STATUS_EV_LANE == k then
            u.put (A.xps q) XP_SLOT_STATUS_EV_LANE (1 - k) else u) u
      else u)) ∧
  (∀ (s : State) (k : Nat), k < 2 → s.mode ≠ 0 →
    exec (.controlLaneUp k) s = .next ((List.range 8).foldl (fun u q =>
      if u.slotKnown q && !u.eventLaneUp q then u.put (A.xps q) XP_SLOT_STATUS_EV_LANE k else u)
      (s.put (A.xpl k) XP_LANE_CFG_LINK_UP 1)))

/-- Rings are commanded, and their indices move only within the ring. STOP of an idle or stopped ring answers NOP; of a
ring in ERROR it drops the failed entry and stops; of a running WORK ring with an entry it stops after that entry.
RESUME outside ERROR, or after the failure of a pushed entry, answers BAD_VALUE. SKIP in ERROR completes the failed
entry with SKIPPED and the ring runs. RESET of a ring that is not at rest answers BAD_VALUE. START that passes its
checks runs the ring and fetches again what is not completed. A producer or consumer index is taken only within the
entries the ring has, and otherwise sets the ring's event; a RESULT ring's PROD and a WORK ring's CONS are not
written. The RING event of the timer goes out only after an advance. A job result ring with room gets its held
record, and the stalled rings that name it run. (11_control_rings.md) -/
def Obligations.RingCommandsAndIndices : Prop :=
  (∀ (s : State) (r : Nat), r < 256 →
    let b := A.rgr r
    let answer := fun (u : State) (st : Nat) => u.put b RG_CMD_STATUS st
    exec (.start r) s = .next (
      if (s.startStatus r).1 ≠ stOK then answer (s.startStatus r).2 (s.startStatus r).1
      else
        let u := (s.startStatus r).2
        answer ((if u.isResult r then u else u.put b RG_CONS_CONS (u.get b RG_DONE_DONE)).put b RG_STATE_STATE 1) stOK) ∧
    exec (.stop r) s = .next (
      if s.ringState r = 0 ∨ s.ringState r = 4 then answer s stNOP
      else if s.ringState r = 2 then answer ((s.unrun r).put b RG_STATE_STATE 4) stOK
      else if s.isResult r = false ∧ (s.ring r).running.isSome = true then
        answer (s.setRing r { s.ring r with stopping := true }) stOK
      else answer (s.put b RG_STATE_STATE 4) stOK) ∧
    exec (.resume r) s = .next (
      if s.ringState r ≠ 2 ∨ s.on b RG_STATE_ERR_PUSH = true then answer s stBadValue
      else if s.get b RG_CFG_ENGINE_KIND = 1 ∧ s.on (A.dme (s.get b RG_CFG_ENGINE)) DM_ENG_STATUS_FAULT = true then
        answer s stBadValue
      else answer ((s.unrun r).put b RG_STATE_STATE 1) stOK) ∧
    exec (.skip r) s = .next (
      if s.ringState r ≠ 2 then answer s stBadValue
      else
        let u := s.put b RG_STATE_STATE 1
        match (s.ring r).running with
        | none => answer u stOK
        | some e =>
          answer ((u.setRing r { s.ring r with finished := some (stSkipped, 0, 0) }).completeEntry r e stSkipped 0 0) stOK) ∧
    (s.ringIdle r = false → exec (.ringReset r) s = .next (answer s stBadValue)) ∧
    (s.ringIdle r = true → ∃ t, exec (.ringReset r) s = .next t ∧ t.get b RG_PROD_PROD = 0 ∧ t.get b RG_CONS_CONS = 0 ∧
      t.get b RG_DONE_DONE = 0 ∧ t.get b RG_STATE_STATE = 0 ∧ t.get b RG_CMD_STATUS = stOK ∧ (t.ring r).push = [])) ∧
  (∀ (s : State) (r v : Nat), r < 256 →
    let b := A.rgr r
    let old := s.get b RG_PROD_PROD
    let cons := s.get b RG_CONS_CONS
    exec (.rgProdWrite r v) s = .next (
      if s.isResult r then s
      else if idxSub (v % 2 ^ 32) old ≤ s.ringSize r - idxSub old (s.get b RG_DONE_DONE) then s.put b RG_PROD_PROD (v % 2 ^ 32)
      else s.raise b RG_EVENT_FLAGS 2) ∧
    exec (.rgConsWrite r v) s = .next (
      if s.isResult r = false then s
      else if idxSub (v % 2 ^ 32) cons ≤ idxSub old cons then
        let u := s.put b RG_CONS_CONS (v % 2 ^ 32)
        if u.on A.jr JR_CTRL_EN && u.jrRing == r then u.jrPass else u
      else s.raise b RG_EVENT_FLAGS 2) ∧
    exec (.ringEvent r) s = .next (
      if s.get b RG_NOTIFY_THRESH ≠ 0 ∧ s.get b RG_NOTIFY_TIMER_US ≠ 0 ∧ (s.ring r).advance ≠ (s.ring r).evCount ∧
          s.get b RG_NOTIFY_TIMER_US * 1000 ≤ s.since (s.ring r).evAt then s.ringEvent r else s) ∧
    (s.isResult r = false ∨ s.ringFree r = 0 → exec (.stallRelease r) s = .next s) ∧
    (s.isResult r = true → s.ringFree r ≠ 0 → (s.ring r).holding = none →
      exec (.stallRelease r) s = .next ((List.range 256).foldl (fun u w =>
        if u.namesResult w r && u.ringState w == 3 then u.put (A.rgr w) RG_STATE_STATE 1 else u) s)))

/-- A running ring starts its next entry, and a finished entry is completed. A WORK ring that runs without an entry
takes the next one, pushed entries first, unless its job result ring has no room, which stalls it; a NOP ends at
once, a DMA operation of an engine's ring fills the channel's shadow set, a TX_FRAME of a transmitter's ring waits,
and any other operation ends with BAD_VALUE. The running TX_FRAME entry is injected once and ends with its status. A
finished entry without a result record moves the ring past it, or fails it; with one, the record comes first.
(11_control_rings.md) -/
def Obligations.RingEntriesRun : Prop :=
  (∀ (s : State) (r : Nat) (x : Running) (t : State), r < 256 → s.isResult r = false → s.ringState r = 1 →
    (s.ring r).running = none → (s.ring r).stopping = false → s.fetchEntry r = some (x, t) →
    let b := A.rgr r
    let k := s.get b RG_CFG_ENGINE_KIND
    let e := s.get b RG_CFG_ENGINE
    let u := t.setRing r { t.ring r with running := some x, finished := none }
    let op := bitsOf (x.words.getD 0 0) 63 56
    let ends := fun (st : Nat) => u.setRing r { u.ring r with finished := some (st, 0, 0) }
    exec (.descriptorExecute r) s = .next (
      if k = 1 ∧ s.on (A.dme e) DM_ENG_STATUS_FAULT = true then s
      else if s.on b RG_CFG_RESULT_EN = true ∧ s.ringFree (s.get b RG_CFG_RESULT_RING) = 0 then
        s.stallRings (s.get b RG_CFG_RESULT_RING)
      else if op = 0 then ends stNOP
      else if op < 16 ∧ k = 1 then u.fillShadow e (s.get b RG_CFG_CHANNEL) x.words
      else if op = 16 ∧ k = 2 then u
      else ends stBadValue)) ∧
  (∀ (s : State) (r : Nat) (e : Running), r < 256 → (s.ring r).running = some e → (s.ring r).finished = none →
    bitsOf (e.words.getD 0 0) 63 56 = 16 → s.get (A.rgr r) RG_CFG_ENGINE_KIND = 2 → s.entryOpen r = true →
    let y := s.txFrame r e.words
    exec (.txFrame r) s = .next (y.2.2.setRing r { y.2.2.ring r with finished := some (y.1, y.2.1, 0) })) ∧
  (∀ (s : State) (r : Nat) (e : Running) (st bytes detail : Nat), r < 256 → (s.ring r).running = some e →
    (s.ring r).finished = some (st, bytes, detail) →
    let rr := s.get (A.rgr r) RG_CFG_RESULT_RING
    let after := fun (u : State) => if success st then u.entryDone r e else u.entryFailed r e st
    exec (.entryComplete r) s = .next (
      if (e.words.getD 0 0).testBit 55 = false ∨ s.on (A.rgr r) RG_CFG_RESULT_EN = false then after s
      else if s.ringFree rr ≠ 0 then after (s.putResult rr (s.resultRecord r e st bytes detail))
      else s.completeEntry r e st bytes detail))

/-- DMA transfers start, end, fail and give way to a power-down. GO of an idle direct channel loads its transfer; a busy
one keeps one start waiting and then answers QUEUE_FULL; a bound or halted channel answers BAD_VALUE. An idle direct
channel with a waiting start loads it unless the engine has failed. A free engine starts the channel next in turn. A
running copy ends with all its bytes, a FRAME_OUT and a table load only when all their parts are done; the next
frame of a FRAME_OUT whose port has room enters its queue, and one of a length out of range ends the transfer with
BAD_VALUE. Clearing an engine clears its fault, and clearing a halted direct channel makes it idle; no other channel
changes. A bus error counts its retries, halts the transfer and is reported. An engine fault marks the engine, notes
the address and raises the event. A power-down request ends the loaded transfers that touch the domain; past the
limit the running ones are cut short. (12_dma.md) -/
def Obligations.TransfersRun : Prop :=
  (∀ (s : State) (e c q : Nat), e < 4 → c < 32 →
    let b := A.dmc e c
    exec (.dmGo e c q) s = .next (
      if (s.boundRing e c).isSome = true ∨ s.chanState e c = 3 then s.put b DM_CH_STATUS_GO_STATUS stBadValue
      else if s.on b DM_CH_STATUS_PENDING then s.put b DM_CH_STATUS_GO_STATUS stQueueFull
      else if s.chanState e c = 0 then (s.put b DM_CH_STATUS_GO_STATUS stOK).loadTransfer e c q
      else ((s.setChan e c { s.chan e c with goBy := q }).put b DM_CH_STATUS_GO_STATUS stOK).put b
        DM_CH_STATUS_PENDING 1) ∧
    (s.boundRing e c = none → exec (.transferLoad e c) s = .next (
      if s.chanState e c = 0 ∧ s.on b DM_CH_STATUS_PENDING = true ∧ s.on (A.dme e) DM_ENG_STATUS_FAULT = false then
        (s.put b DM_CH_STATUS_PENDING 0).loadTransfer e c (s.chan e c).goBy
      else s)) ∧
    exec (.clearHalt e c) s = .next (
      if s.chanState e c = 3 ∧ s.boundRing e c = none then s.put b DM_CH_STATUS_STATE 0 else s) ∧
    exec (.dmEngClear e) s = .next (s.put (A.dme e) DM_ENG_STATUS_FAULT 0)) ∧
  (∀ (s : State) (e : Nat), e < 4 →
    (s.moverFree e = false ∨ s.nextChan e = none → exec (.transferStart e) s = .next s) ∧
    (∀ c, s.moverFree e = true → s.nextChan e = some c → dmaOp (s.chan e c).words ≠ 4 →
      exec (.transferStart e) s = .next
        ({ s with lastStart := SMap.set 0 e (c + 1) s.lastStart }.put (A.dmc e c) DM_CH_STATUS_STATE 2))) ∧
  (∀ (s : State) (e c : Nat), e < 4 → c < 32 → s.chanState e c = 2 →
    let x := s.chan e c
    let n := dmaLen x.words
    (dmaOp x.words = 1 ∨ dmaOp x.words = 2 → exec (.transferComplete e c) s = .next
      (((s.moveBytes x.words (s.on (A.dmc e c) DM_CH_STATUS_DIR) n).endTransfer e c stOK n
        (bit (s.on (A.dmc e c) DM_CH_STATUS_DIR))).drainsDone)) ∧
    (dmaOp x.words = 3 → exec (.transferComplete e c) s = .next
      ((s.endTransfer e c stOK n (crc32c (s.memBytes (dmaSrc x.words) n))).drainsDone)) ∧
    (dmaOp x.words = 4 → x.frames = n → exec (.transferComplete e c) s = .next
      ((s.endTransfer e c stOK (16 * n) n).drainsDone)) ∧
    (dmaOp x.words = 5 → x.frames = n → exec (.transferComplete e c) s = .next
      ((s.endTransfer e c stOK x.bytes n).drainsDone)) ∧
    (dmaOp x.words = 5 → x.frames ≠ n →
      (s.frameLen (dmaSrc x.words + x.offset) < 60 ∨ 15996 < s.frameLen (dmaSrc x.words + x.offset)) →
      exec (.frameOut e c) s = .next (s.endTransfer e c stBadValue x.bytes x.frames)) ∧
    (dmaOp x.words = 5 → x.frames ≠ n →
      let a := dmaSrc x.words + x.offset
      let m := s.frameLen a
      let w := x.words.getD 2 0
      let f := withFcs (s.memBytes (a + 8) m)
      let u := s.relay (dmaLane x.words) (bitsOf w 54 52)
        { bytes := f, flow := if w.testBit 51 then some (bitsOf w 50 45) else none }
      60 ≤ m → m ≤ 15996 → cellsFor f.length ≤ s.relayFree (dmaLane x.words) →
      s.sliceServes (sliceOf (dmaLane x.words)) = true →
      exec (.frameOut e c) s = .next ((u.setChan e c
        { x with frames := x.frames + 1, offset := x.offset + frameSpan m, bytes := x.bytes + m }).put (A.dmc e c)
          DM_CH_COUNT_BYTES (x.bytes + m))) ∧
    (∀ units, exec (.busError e c units) s = .next (
      let k := s.get (A.dme e) DM_ENG_CTRL_RETRY_LIMIT
      ((((((s.add (A.dmc e c) DM_CH_RETRIES_COUNT k).add (A.dme e) DM_ENG_RETRIES_COUNT k).haltTransfer e c stBusError units
        true).raise (A.dme e) DM_ENG_EVENT_FLAGS 1).report (5 + e) 0x0050 objDma (e * 32 + c)
        (s.partBytes e c units)).drainsDone)))) ∧
  (∀ (s : State) (e addr : Nat) (units : List (Nat × Nat)), e < 4 → s.chansIn e 2 = [] → s.chansIn e 1 = [] →
    (∀ c, c < 32 → s.boundRing e c = none) → s.drains = [] →
    exec (.engineFault e addr units) s = .next
      ((((s.add (A.dme e) DM_ENG_RETRIES_COUNT (s.get (A.dme e) DM_ENG_CTRL_RETRY_LIMIT)).put (A.dme e)
        DM_ENG_STATUS_FAULT 1).put (A.dme e) DM_ENG_FAULT_ADDR_DA addr).raise (A.dme e) DM_ENG_EVENT_FLAGS 0)) ∧
  (∀ (s : State) (kind i : Nat), s.domainOn kind i = true →
    let u := s.putBit A.dm (powerFld kind) i true
    let v : State := { u with
      drains := u.drains.filter (fun (d : Drain) => d.kind != kind || d.index != i) ++ [(⟨kind, i, u.time.clk, false⟩ : Drain)] }
    exec (.powerDownRequest kind i) s = .next
      ((v.touching 1 kind i).foldl (fun w x => w.endTransfer x.1 x.2 stPowerAbort 0 0) v).drainsDone) ∧
  (∀ (s : State) (kind i : Nat) (units : List (Nat × Nat)) (d : Drain),
    s.drains.find? (fun d => d.kind == kind && d.index == i) = some d →
    exec (.drainLimitExpiry kind i units) s = .next (
      if s.get A.dm DM_CTRL_DRAIN_LIMIT_US * 1000 ≤ s.since d.at_ then (s.abortTouching kind i units).drainsDone else s))

/-- Shadow banks take snapshots, and the monitors end their windows. A SNAPSHOT that its checks refuse leaves its status
alone. One that passes fills the words of the bank with what the source words read as now, and its header with the
tag, the number of words, the address and the time. CLEAR_BANK makes every word of the bank zero and answers OK. A
selector takes effect at its instant and not before, and its counter restarts unless only its enable changed. A
bandwidth window ends at its stop and not before: its record is written and the next window begins there. The oldest
sample moves to memory, or FULL is flagged when the ring or its memory has no room. (13_measurement.md) -/
def Obligations.ShadowBanksAndMonitors : Prop :=
  (∀ (s : State) (b tag q : Nat), b < 16 → (s.snapStatus q).1 ≠ stOK →
    let u := (s.snapStatus q).2
    exec (.snapshot b tag q) s = .next ((u.put A.ms MS_SNAP_CMD_STATUS (s.snapStatus q).1).put (A.msb b)
      MS_BANK_INFO_STATUS (s.snapStatus q).1)) ∧
  (∀ (s : State) (b tag q : Nat), b < 16 → (s.snapStatus q).1 = stOK →
    let u := (s.snapStatus q).2.snapResult b stOK
    ∃ t, exec (.snapshot b tag q) s = .next t ∧ t.get (A.msb b) MS_BANK_INFO_TAG = tag % 2 ^ 16 ∧
      t.get (A.msb b) MS_BANK_SRC_DA = u.get A.ms MS_SNAP_SRC_DA ∧
      (∀ k a, (u.snapWords)[k]? = some a → t.word (shadowWord b k) = BitVec.ofNat 64 (u.shown a))) ∧
  (∀ (s : State) (b : Nat), b < 16 →
    exec (.clearBank b) s = .next
      ((s.clearWords (fun a => decide (shadowWord b 0 ≤ a ∧ a < shadowWord (b + 1) 0))).snapResult b stOK)) ∧
  (∀ (s : State) (n k t : Nat), s.isSlice n = true → k < 64 → (s.evc n k).due = some t →
    let w := s.evcWord n k
    let u := { s with evcs := SMap.set {} (n * 64 + k) ⟨w, none⟩ s.evcs }
    exec (.evcApply n k) s = .next (
      if s.nowQ < t then s
      else if withBits w 63 63 0 = withBits (s.evc n k).cfg 63 63 0 then u
      else (u.put (A.mss n) (MSS_EVC_COUNT k) 0).put (A.mss n) (MSS_EVC_CTRL_RECONFIGURED k) 1)) ∧
  (∀ (s : State) (l : Nat) (w : Window), s.isPort l = true → s.window l = some w →
    exec (.bwWindowEnd l) s = .next (
      if s.nowQ < w.stop then s
      else ((s.bwRecord l w w.stop false false).put (A.msp l) MSS_BW_STATUS_PENDING 0).setWindow l
        (some { cfg := (s.bwNext l w).1, start := w.stop, first := (s.bwNext l w).2 }))) ∧
  (∀ (s : State) (n : Nat) (ws : List Nat) (rest : List (List Nat)), s.isSlice n = true → SMap.get [] s.lsBuf n = ws :: rest →
    let d := drainRegs false
    let b := A.msd n
    let cap := 2 ^ s.get b d.log2 / d.size
    let a := s.get b d.base + s.get b d.wr % cap * d.size
    let u := (s.setMemWords a ws).inc b d.wr 1
    exec (.sampleDrain n false) s = .next (
      if s.on b d.en = false then s
      else if idxSub (s.get b d.wr) (s.get b d.rd) = cap ∨ s.rangeServed a d.size = false then
        s.raise b MS_DRAIN_EVENT_FLAGS d.full
      else { u with lsBuf := SMap.set [] n rest u.lsBuf }.put (A.mss n) MSS_LS_FILL_ENTRIES rest.length))

/-- From the end of Reset the image is verified and applied, the items are tested, and the module is ready. Reset ends
only with RESET_N high and the power good: a new boot identifier, never 0, and Pre-Load with the flash or the
control lane as source. A flash image that verifies starts its load; one that does not fails the boot. VERIFY writes
its result and applies nothing; LOAD of an image that verifies starts the load of its kind; either answers the check
that failed. Load ends in Self-Test when the constants pass, in refusal otherwise. Self-Test ends when every boot
item has its finding: in Halt when one of the items that stop the boot failed, else in Calibrate. Calibrate from
Park ends in Ready. A committed security version is taken between the minimum and the image's, and an anchor is
revoked only while one stays. A PLL that has not locked 1 ms after the end of Reset halts the module.
(14_image_boot.md, 15_modes_inservice.md) -/
def Obligations.BootBringsTheModuleUp : Prop :=
  (∀ (s : State) (sel dimm : Nat), s.mode = 0 → s.contacts.resetN = true → s.contacts.held = false →
    s.on A.pw PW_STATUS_RAILS_GOOD = true → s.on A.pw PW_STATUS_VAUX_OK = true →
    ∃ t, exec (.resetEnd sel dimm) s = .next t ∧ t.mode = 1 ∧ t.get A.sy SY_BOOT_BOOT_SEL = sel % 4 ∧
      t.mram.bootId = (if (s.mram.bootId + 1) % 2 ^ 32 = 0 then 1 else (s.mram.bootId + 1) % 2 ^ 32) ∧
      t.boot.flash = decide (sel % 4 ≠ 1)) ∧
  (∀ (s : State) (sel dimm : Nat), s.mode ≠ 0 ∨ s.contacts.resetN = false ∨ s.on A.pw PW_STATUS_VAUX_OK = false →
    exec (.resetEnd sel dimm) s = .next s) ∧
  (∀ (s : State) (b : List Byte) (c : Crypto), s.mode = 1 → s.boot.flash = true →
    let r := s.verifyImage b c (imgKind b == 0)
    exec (.flashReadComplete b c) s = .next (match r with
      | none => (s.verified r).beginLoad b c 0
      | some _ => (s.verified r).flashFailed)) ∧
  (∀ (s : State) (tag : Nat) (c : Crypto), s.imReady = true →
    let r := s.verifyImage s.staged c true
    exec (.verify tag c) s = .next (match r with
      | some f => (s.verified r).imFail tag f
      | none => (s.verified r).imResult tag stOK 0 0xFF 0)) ∧
  (∀ (s : State) (tag : Nat) (c : Crypto), s.imReady = true → imgKind s.staged ≠ 2 →
    let r := s.verifyImage s.staged c (s.loadAllowed s.staged)
    exec (.load tag c) s = .next (match r with
      | some f => (s.verified r).imFail tag f
      | none => (s.verified r).loadVerified tag s.staged c)) ∧
  (∀ (s : State) (tag : Nat) (c : Crypto), s.imReady = false →
    exec (.verify tag c) s = .next (s.imRefuse tag) ∧ exec (.load tag c) s = .next (s.imRefuse tag)) ∧
  (∀ (s : State) (l : Loading), s.boot.next = some l → s.mode = 2 →
    let t := s.buildAll l
    exec .loadComplete s = .next (
      match (if constsOk l.image none && t.readbackOk l.image.consts then t.commitInitial l.image.consts else none) with
      | none => s.loadRefused
      | some u =>
        let v := u.showHeld.provision l.image.provs l.keys
        let w := { v with boot := { v.boot with next := none } }
        ((if w.get A.sy SY_BOOT_SOURCE = 1 then w.imResult w.boot.tag stOK 0 0xFF 0 else w).toMode 3 1).phase 6)) ∧
  (∀ (s : State) (fs : List Finding), s.mode = 3 → s.bootItems.all (fun e => (findingOf fs e).isSome) = true →
    let found := s.bootItems.filterMap (findingOf fs)
    let u := found.foldl (fun u f => u.bootItem f)
      ((List.range 16).foldl (fun u b => u.loseMemory (16 + b)) (s.loseMemory 32))
    exec (.selftestComplete fs) s = .next (
      if found.any (fun f => (f.item == 18 || decide (32 ≤ f.item)) && s.outcome f == 2) then u.enterHalt 4
      else (u.toMode 4 1).phase 7)) ∧
  (∀ s : State, s.mode = 4 → s.get A.md MD_STATUS_PREV_MODE ≠ 3 →
    exec (.calibrateComplete [] [] []) s =
      .next (State.toMode { (List.range 8).foldl (fun u n => u.sliceReady n) s with saved := {} } 5 1)) ∧
  (∀ (s : State) (v : Nat), v < 2 ^ 32 →
    exec (.secverRaise v) s = .next (
      if v < s.get A.sy SY_SECVER_MIN ∨ s.get A.im IM_HDR_SEC_VERSION < v then s.secStatus stBadValue
      else ((s.put A.sy SY_SECVER_RAISE_VERSION v).put A.sy SY_SECVER_MIN v).secStatus stOK)) ∧
  (∀ (s : State) (m : Nat), m < 16 →
    let revoked := (s.get A.sy SY_ANCHOR_STATUS_REVOKED) ||| m
    exec (.anchorRevoke m) s = .next (
      if ∃ k ∈ List.range 4, (s.get A.sy SY_ANCHOR_STATUS_PRESENT).testBit k = true ∧ revoked.testBit k = false then
        ((s.put A.sy SY_ANCHOR_REVOKE_MASK m).put A.sy SY_ANCHOR_STATUS_REVOKED revoked).secStatus stOK
      else s.secStatus stBadValue)) ∧
  (∀ s : State, exec .bootPllLockTimeout s = .next (
    if s.mode = 1 ∧ 1000000 ≤ s.since s.boot.endAt then (s.put A.sy SY_BOOT_LAST_FAIL 12).enterHalt 5 else s))

/-- A mode command is done only from the modes that allow it. A command of MD_CMD from a mode that does not allow it
answers BAD_VALUE and changes nothing else. GO_SERVICE from Ready serves at once without a pair, and waits for the
partner with one. PARK, DIAG and HALT take the module to Park, Diagnostic and Halt; a serving unit of a pair first
sends its leaving. WAKE and EXIT_DIAG go to Calibrate. RESET and the missed watchdog are obeyed as their modes say.
A firmware switch starts only with a release in standby, a rollback only after a switch, and a core that does not
start in time sets the switch going backwards. (15_modes_inservice.md, 09_redundancy.md) -/
def Obligations.ModeCommands : Prop :=
  (∀ s : State,
    let no := s.put A.md MD_CMD_STATUS stBadValue
    (s.mode ≠ 5 → exec .goService s = .next no) ∧
    (s.mayLeave = false → exec .park s = .next no ∧ exec .diag s = .next no) ∧
    (s.mode ≠ 9 → exec .wake s = .next no) ∧
    (s.mode ≠ 10 → exec .exitDiag s = .next no) ∧
    (s.mode = 0 ∨ s.mode = 11 → exec .halt s = .next no)) ∧
  (∀ s : State,
    let ok := s.put A.md MD_CMD_STATUS stOK
    let leave := fun (m : Nat) =>
      if ok.serving && ok.on A.up UP_CTRL_EN then ok.depart m 0 else ok.enterMode m 0
    (s.mode = 5 → exec .goService s = .next (
      if ok.on A.up UP_CTRL_EN = false then ok.serveAs 6 0
      else if ok.pair.waitFrom.isSome then ok else { ok with pair := { ok.pair with waitFrom := some ok.time.clk } })) ∧
    (s.mayLeave = true → exec .park s = .next (leave 9) ∧ exec .diag s = .next (leave 10)) ∧
    (s.mode = 9 → exec .wake s = .next ok.wake) ∧
    (s.mode = 10 → exec .exitDiag s = .next (ok.toMode 4 0)) ∧
    (s.mode ≠ 0 → s.mode ≠ 11 → exec .halt s = .next (leave 11)) ∧
    exec .watchdog s = .next (if 5 ≤ s.mode ∧ s.mode ≤ 10 then s.enterHalt 8 else s)) ∧
  (∀ s : State, ∃ t, exec .resetModule s = .next t ∧ t.mode = 0 ∧ t.get A.md MD_STATUS_PREV_MODE = s.mode ∧
    t.get A.md MD_STATUS_CAUSE = 0 ∧ t.mram = s.mram ∧ t.pending = s.pending) ∧
  (∀ s : State,
    exec .switch s = .next (
      if s.fwState = 1 ∨ s.fwState = 5 then (s.fwStatus stOK).fwStart 2 false else s.fwStatus stBadValue) ∧
    exec .rollback s = .next (if s.fwState = 3 then (s.fwStatus stOK).fwStart 4 false else s.fwStatus stBadValue) ∧
    (∀ k, s.fwState = 2 → s.fwNext = some (.core k) → exec .fwCoreStartTimeout s = .next (s.fwStart 4 true)))

/-- Slices and memory channels are fenced, rebuilt and put back into service. A FENCE of a serving slice is accepted
only while another slice serves, and of a memory channel only while none is fenced; else it answers BAD_VALUE. A
draining slice that no transfer touches is FENCED and no longer draining. UNFENCE of a READY slice with no offline
test and no failed self-test takes effect 2 µs later, and not before; of any other slice it answers BAD_VALUE.
REBUILD of a powered slice that is FENCED or in FAULT starts its build; the build ends READY when it came out well.
A channel that retrains serves again with its data undefined. Any other kind of fence answers BAD_VALUE.
(15_modes_inservice.md, 14_image_boot.md) -/
def Obligations.FencesAndRebuilds : Prop :=
  (∀ (s : State) (n : Nat),
    let no := s.put A.md MD_FENCE_CMD_STATUS stBadValue
    let ok := s.put A.md MD_FENCE_CMD_STATUS stOK
    exec (.fence 0 n) s = .next (
      if s.serving = true ∧ s.isSlice n = true ∧ s.sliceServes n = true ∧
          (∃ m ∈ List.range 8, m ≠ n ∧ s.isSlice m = true ∧ s.sliceServes m = true) then ok.fenceSlice n 1 1 3
      else no) ∧
    exec (.fence 1 n) s = .next (
      if s.image.ddrCh.testBit n = true ∧ s.ddrFenced = false ∧ (s.serving = true ∨ s.mode = 9) then
        State.toReshape ((((ok.raise A.md MD_EVENT_FLAGS 1).abortItems
          (fun x => itemKind x.item == 1 && x.target == n))).requestDown 1 n true) 3
      else no) ∧
    (∀ k, 2 ≤ k → exec (.fence k n) s = .next no ∧ exec (.unfence k n) s = .next no) ∧
    exec (.unfence 0 n) s = .next (
      if s.isSlice n = false ∨ s.sliceState n ≠ 4 ∨ n ∈ s.tests.locked ∨
          (∃ x ∈ s.tests.running, itemOffline x.item = true ∧ itemKind x.item = 0 ∧ x.target = n) then no
      else if s.boot.unfencing.any (fun e => e.1 == n) then ok
      else { ok with boot := { ok.boot with unfencing := ok.boot.unfencing ++ [(n, ok.time.clk)] } }) ∧
    exec (.unfence 1 n) s = .next (
      if (s.get A.md MD_DDR_FENCE_CHANNELS).testBit n = true ∧ n ∉ s.boot.retraining then
        { ok with boot := { ok.boot with retraining := ok.boot.retraining ++ [n] } }
      else no) ∧
    exec (.rebuild n) s = .next (
      if s.isSlice n = true ∧ (s.sliceState n = 2 ∨ s.sliceState n = 5) ∧ (s.get A.pw PW_DOMAIN_SLICES).testBit n = true then
        ok.startBuild n none
      else no)) ∧
  (∀ (s : State) (n t : Nat), s.boot.unfencing.find? (fun e => e.1 == n) = some (n, t) →
    exec (.unfenceEffective n) s = .next (
      if s.since t < 2000 then s
      else (State.setSlice { s with boot := { s.boot with
        unfencing := s.boot.unfencing.filter (fun e => e.1 != n) } } n 0 0).leaveReshape)) ∧
  (∀ (s : State) (n : Nat), s.isSlice n = true → s.touched 0 n = false →
    s.drains.any (fun (d : Drain) => d.kind == 0 && d.index == n && d.fence) = true →
    ∃ t, exec (.fenceDrainComplete n) s = .next t ∧
      t.drains = s.drains.filter (fun (d : Drain) => d.kind != 0 || d.index != n) ∧
      (s.sliceState n = 1 → n < 8 → t.sliceState n = 2)) ∧
  (∀ (s : State) (n : Nat) (im : Option Image) (ok : Bool), s.boot.builds.find? (fun e => e.1 == n) = some (n, im) →
    let u := s.rebuildSlice (im.getD s.image) n im.isNone
    let checked := constsOk u.image (some n) &&
      u.readbackOk (u.image.consts.filter (fun (c : ConstRec) => constSlice c.da == some n))
    let v := { u with boot := { u.boot with builds := u.boot.builds.filter (fun e => e.1 != n) } }
    exec (.buildComplete n ok) s = .next (
      if checked = true ∧ ok = true then
        let w := v.showHeld.setSlice n 4 (v.showHeld.get A.md (MD_SLICE_STATE_CAUSE n))
        if im.isSome then w.imResult w.boot.tag stOK 0 0xFF 0 else w
      else (State.setSlice { v with image := s.image } n 5 6).buildFailed im (if checked then none else some 8))) ∧
  (∀ (s : State) (c : Nat), c ∈ s.boot.retraining →
    let u := { s with boot := { s.boot with retraining := s.boot.retraining.filter (· != c) } }
    exec (.ddrUnfenceComplete c) s = .next
      ((((((u.putBit A.md MD_DDR_FENCE_CHANNELS c false).putBit A.dm DM_POWER_DDR c false).putBit A.pw PW_DOMAIN_DDR c
        true).loseMemory c).leaveReshape)))

/-- Each background task makes its pass when it runs. A pass of a task that runs has its effect on what was found, and
ends with the task's count of findings: TCAM and gate scrubs rewrite the entries of slices in service, the stream
comparison repairs replicas, the hold patrol retires bad cells, the complement, map and constant checks handle each
mismatch, the DDR5 scrub each error, the adaptation changes nothing else, the compensation enters the addend only in
holdover, telemetry sends the health record, aging corrects each die, and the rotation runs the next online item. A
task that does not run does nothing; telemetry still measures and the hour still counts. (15_modes_inservice.md,
16_power.md) -/
def Obligations.BackgroundTasksRun : Prop :=
  let ends := fun (s : State) (t us n : Nat) (u : State) => if s.taskRuns t then u.passEnd t us n else s
  (∀ (s : State) (found : List (Nat × Nat)) (us : Nat),
    let f := found.filter (fun e => s.isSlice e.1 && !s.sliceFenced e.1 && e.2 != 0)
    let g := found.filter (fun e => s.isSlice e.1 && !s.sliceFenced e.1)
    exec (.tcamScrub found us) s =
      .next (ends s 0 us (f.map (·.2)).sum (f.foldl (fun u e => u.scrubEntry 7 1 e.1 e.2) s)) ∧
    exec (.gateScrub found us) s =
      .next (ends s 1 us (f.map (·.2)).sum (f.foldl (fun u e => u.scrubEntry 8 5 e.1 e.2) s)) ∧
    exec (.streamCompare found us) s = .next (ends s 2 us g.length (g.foldl (fun u e => u.replicaRepair e.1 e.2) s)) ∧
    exec (.complementCheck found us) s =
      .next (ends s 4 us found.length (found.foldl (fun u e => u.storedMismatch e.1 e.2) s))) ∧
  (∀ (s : State) (fixed us : Nat) (bad : List Nat) (hit : List (Nat × Nat × Nat)),
    exec (.holdPatrol fixed bad hit us) s = .next (ends s 3 us (fixed + bad.length) (s.retireCells bad hit)) ∧
    exec (.amapCheck us) s = .next (ends s 5 us s.amapCheck.1 s.amapCheck.2) ∧
    exec (.constCheck bad us) s = .next (ends s 6 us bad.length (bad.foldl (fun u a => u.constMismatch a) s)) ∧
    exec (.ddrScrub fixed bad us) s =
      .next (ends s 10 us (fixed + bad.length) (bad.foldl (fun u a => u.ddrError a) s))) ∧
  (∀ (s : State) (l us : Nat), s.isPort l = true → s.linkUp l = true → s.sliceFenced (sliceOf l) = false →
    exec (.serdesAdapt l us) s = .next (ends s 7 us 0 s)) ∧
  (∀ (s : State) (x : Int) (us : Nat),
    exec (.oscComp x us) s =
      .next (ends s 8 us 0 (if s.servoState = 3 then State.formAddend { s with sync := { s.sync with comp := x } } else s))) ∧
  (∀ (s : State) (vin iin power vaux us : Nat),
    let u := s.measure vin iin power vaux
    exec (.telemetry vin iin power vaux us) s = .next (ends u 9 us 0 u.sendHealth)) ∧
  (∀ (s : State) (slow : List (Nat × Nat)) (us : Nat), (∀ e ∈ slow, e.1 < 10) →
    exec (.aging slow us) s = .next (ends s.addHour 11 us 0 (slow.foldl (fun u e => u.ageDie e.1 e.2) s.addHour))) ∧
  (∀ (s : State) (f : Finding) (hit : List (Nat × Nat × Nat)) (k : Nat), s.nextRotation = some (k, f.item, f.target) →
    let x : TestItem := { ticket := 0, item := f.item, target := f.target, origin := 2, at_ := s.nowQ - nsQ (f.us * 1000) }
    let u := { s with tests := { s.tests with rotation := (k + 1) % rotationSteps.length } }
    exec (.selftestRotation f hit) s = .next (ends s 12 f.us f.faulty.length (u.itemEnd x f hit)))

/-- Test items are requested, cancelled and ended, and injectors are armed, started and released. A request for an
unknown item or an absent target answers BAD_VALUE, for an offline item on a target in service NEEDS_FENCE; one that
nothing stands in the way of takes the next ticket and starts; one in conflict waits, while fewer than 16 do. A
cancelled item that waits leaves the queue with its record; a ticket that names none answers NOP. A running item
ends with its finding, and the queue moves on. An injector is armed only where injection may act: its word is stored
without its reserved bits, its counts restart, and the journal says so. An armed injector becomes active at its
start instant and not before. A held frame that is due goes on. A change of the skew is stored and journalled, and
the same skew changes nothing. (17_selftest_faults.md, 15_modes_inservice.md) -/
def Obligations.TestItemsAndInjectors : Prop :=
  (∀ (s : State) (i t tag : Nat),
    let k := (s.tests.ticket + 1) % 65536
    let x : TestItem := { ticket := k, item := i, target := t, origin := 0 }
    exec (.request i t tag) s = .next (
      if itemKnown i = false ∨ s.targetExists i t = false ∨ itemKind i = 0 ∧ s.mode = 9 then s.testResult tag 0 stBadValue
      else if itemOffline i = true ∧ s.released i t = false then s.testResult tag 0 stNeedsFence
      else if (s.tests.running ++ s.tests.queue).any (s.conflicts i t) = false then
        (s.nextTicket.startItem x).testResult tag k stOK
      else if 16 ≤ s.tests.queue.length then s.testResult tag 0 stQueueFull
      else
        let u := s.nextTicket
        State.testResult { u with tests := { u.tests with queue := u.tests.queue ++ [x] } } tag k stDeferred)) ∧
  (∀ (s : State) (ticket tag : Nat) (x : TestItem),
    s.tests.queue.find? (fun x => x.ticket == ticket) = some x →
    let u := { s with tests := { s.tests with queue := s.tests.queue.filter (· != x) } }
    exec (.testCancel ticket tag) s = .next
      (((u.endItem { x with at_ := s.nowQ, clk := s.time.clk } 3).testResult tag ticket stOK).runQueue)) ∧
  (∀ (s : State) (ticket tag : Nat), s.tests.queue.find? (fun x => x.ticket == ticket) = none →
    s.tests.running.find? (fun x => x.ticket == ticket && x.origin == 0) = none →
    exec (.testCancel ticket tag) s = .next (s.testResult tag ticket stNOP)) ∧
  (∀ (s : State) (ticket : Nat) (f : Finding) (hit : List (Nat × Nat × Nat)) (x : TestItem),
    s.tests.running.find? (fun x => x.ticket == ticket && x.item == f.item && x.target == f.target) = some x →
    let u := { s with tests := { s.tests with running := s.tests.running.filter (· != x) } }
    exec (.testItemComplete ticket f hit) s = .next ((u.itemEnd x f hit).runQueue)) ∧
  (∀ (s : State) (l k w : Nat), s.isPort l = true → k < 4 →
    let b := A.fii l k
    let u := s.setWord b (BitVec.ofNat 64 (w % 2 ^ 64 - bitsOf (w % 2 ^ 64) 23 5 * 2 ^ 5))
    let v := (u.put b FI_INJ_STATUS_DONE 0).setInjector l k { u.injector l k with selected := 0, done := 0 }
    (s.injectionOn = false → exec (.injectorArm l k w) s = .next s) ∧
    (s.injectionOn = true → w.testBit 0 = true → injCtrlOk w = true →
      exec (.injectorArm l k w) s = .next
        ((v.put b FI_INJ_STATUS_ACTIVE (bit (!w.testBit 4 || decide (v.injStart l k ≤ v.nowQ)))).journalInjector l)) ∧
    (s.injectionOn = true → s.on b FI_INJ_CTRL_ARM = true → s.on b FI_INJ_CTRL_START_EN = true →
      exec (.injectorStart l k) s =
        .next (if s.injStart l k ≤ s.nowQ then s.put b FI_INJ_STATUS_ACTIVE 1 else s)) ∧
    (∀ h, (s.injector l k).held = some h → s.heldDue l k h = true →
      exec (.injectorRelease l k) s = .next (s.releaseHeld l k)) ∧
    (∀ h, (s.injector l k).held = some h → s.heldDue l k h = false → exec (.injectorRelease l k) s = .next s)) ∧
  (∀ (s : State) (l w : Nat), s.isPort l = true → s.injectionOn = true →
    let v := BitVec.ofNat 64 (w % 2 ^ 64 - bitsOf (w % 2 ^ 64) 15 4 * 16)
    exec (.fiTskewWrite l w) s = .next (
      if s.word (A.fit l) = v then s else (s.setWord (A.fit l) v).journalInjector l))

/-- Supplies, domains, capping and temperatures are handled, and the PMBus answers. A supply in range marks VIN, VAUX
and the rails good. VIN too low clears its bit, latches its faults, raises the event and halts the module. VAUX out
of range is a reset. A rail fault of a domain that is not on does nothing; one of Armature halts the module. A bank
group in use does not power down; one that is already off, or on, answers NOP. Capping takes at most one step up in
a millisecond, shows it, and after a full second at the last step raises the event. A temperature reading stores the
dies' temperatures and acts on the hottest. While VAUX is in range the PMBus answers each supported command with its
content, and any other sets CML and returns nothing; without VAUX it is silent. (16_power.md) -/
def Obligations.PowerManagerActs : Prop :=
  (∀ (s : State) (addr : Nat),
    let u := if s.on A.pw PW_STATUS_VAUX_OK then s else s.put A.pw PW_PMB_ADDR (0x40 + addr % 8)
    exec (.supplyInRange addr) s = .next ((((u.put A.pw PW_STATUS_VAUX_OK 1).put A.pw PW_STATUS_VIN_OK 1).put A.pw
      PW_STATUS_RAILS_GOOD 1).applyAging 9)) ∧
  (∀ s : State,
    let u := (s.put A.pw PW_STATUS_VIN_OK 0).latchWord (2 ^ 3 + 2 ^ 13)
    let v := (u.raise A.pw PW_EVENT_FLAGS 5).powerOffSlices
    (u.mode ≠ 0 → v.mode ≠ 11 → exec (.vinLow false) s = .next (v.enterHalt 6) ∧
      exec (.vinLow true) s = .next (v.enterHalt 6).allRailsOff) ∧
    exec .vauxOutOfRange s = .next ((if s.mode = 0 then s else s.enterReset 10).put A.pw PW_STATUS_VAUX_OK 0)) ∧
  (∀ (s : State) (i : Nat) (units : List (Nat × Nat)),
    exec (.railFault 0 i units) s =
      .next (if s.domainOn 0 i then (s.raise A.pw PW_EVENT_FLAGS 3).railFence i units else s) ∧
    exec (.railFault 1 i units) s = .next (if s.domainOn 1 i then s.ddrRailLost i units else s) ∧
    exec (.railFault 3 i units) s =
      .next (if s.mode = 0 ∨ s.mode = 11 then s else (s.raise A.pw PW_EVENT_FLAGS 3).enterHalt 6)) ∧
  (∀ (s : State) (b : Nat),
    let up := s.domainOn 2 b && !s.domainDown 2 b
    let u := State.putBit { s with drains := s.drains.filter (fun (d : Drain) => d.kind != 2 || d.index != b) } A.dm
      DM_POWER_CALDERA_BANKS b false
    (16 ≤ b → exec (.domainOff b) s = .next (s.put A.pw PW_DOMAIN_CMD_STATUS stBadValue) ∧
      exec (.domainOn b) s = .next (s.put A.pw PW_DOMAIN_CMD_STATUS stBadValue)) ∧
    (b < 16 → exec (.domainOff b) s = .next (
      if s.groupInUse b = true ∨ s.groupServes b = true then s.put A.pw PW_DOMAIN_CMD_STATUS stBadValue
      else if s.domainOn 2 b then (s.put A.pw PW_DOMAIN_CMD_STATUS stOK).requestDown 2 b false
      else s.put A.pw PW_DOMAIN_CMD_STATUS stNOP)) ∧
    (b < 16 → exec (.domainOn b) s = .next (
      if up then u.put A.pw PW_DOMAIN_CMD_STATUS stNOP else (u.setBank b true).put A.pw PW_DOMAIN_CMD_STATUS stOK))) ∧
  (∀ (s : State) (w : Nat), s.mode ≠ 0 →
    let m := s.get A.pw PW_CAP_LIMIT_W
    let x := capStep m w s.power.limitStep s.power.low
    let full := if m ≠ 0 ∧ m < w ∧ s.power.limitStep = 4 then s.power.full + 1 else 0
    let u := State.showCap { s with power := { s.power with limitStep := x.1, low := x.2, full := full } }
    let v := if u.get A.pw PW_CAP_STATUS_STEP = 0 then u
      else u.put A.pw PW_CAP_STATUS_TIME_MS (min (u.get A.pw PW_CAP_STATUS_TIME_MS + 1) (2 ^ 32 - 1))
    exec (.capEvaluate w) s = .next (
      if full = 1000 then (v.raise A.pw PW_EVENT_FLAGS 0).reportOther 9 objNone 0 0 else v)) ∧
  (∀ (s : State) (t : Int) (ts : List Int),
    let hot := ts.foldl max t
    let u := s.storeTemps 0 ((t :: ts).take 10)
    let v := { u with power := { u.power with tjSum := u.power.tjSum + hot, tjN := u.power.tjN + 1 } }
    exec (.temperatureRead (t :: ts)) s = .next (
      if v.mode = 0 then v else State.thermalShut (State.showTherm ((v.thermalWarn hot).thermalCap hot)) hot)) ∧
  (∀ s : State, s.on A.pw PW_STATUS_VAUX_OK = true →
    let reply := fun (b : List Byte) => s.emit (.pmbus b)
    let value := fun (n : Int) (d : Nat) => reply (le 2 (linear11 n d 32 (-16)))
    exec .clearFaults s = .next s.clearFaults ∧
    exec .statusWord s = .next (reply (le 2 (s.power.word ||| (if s.mode = 0 ∨ s.mode = 11 then 2 ^ 6 else 0) |||
      (if s.get A.pw PW_CAP_STATUS_STEP = 0 then 0 else 2 ^ 14)))) ∧
    exec .statusTemperature s = .next (reply (le 1 s.power.temp)) ∧
    exec .readVin s = .next (value (s.get A.pw PW_INPUT_VIN_MV) 1000) ∧
    exec .readIin s = .next (value (s.get A.pw PW_INPUT_IIN_10MA) 100) ∧
    exec .readTemperature1 s = .next (value s.tjMax 16) ∧
    exec .readPin s = .next (value (s.get A.pw PW_INPUT_POWER_W) 1) ∧
    exec .pmbusRevision s = .next (reply [0x33]) ∧
    exec .mfrId s = .next (reply [4, 0x4C, 0x41, 0x4D, 0x42]) ∧
    exec .mfrModel s = .next (reply [8, 0x53, 0x4E, 0x44, 0x2D, 0x32, 0x30, 0x34, 0x38]) ∧
    exec .pmbusUnsupported s = .next { s with power := { s.power with word := s.power.word ||| 2 } }) ∧
  (∀ s : State, s.on A.pw PW_STATUS_VAUX_OK = false →
    exec .statusWord s = .next s ∧ exec .readVin s = .next s ∧ exec .mfrId s = .next s ∧ exec .pmbusUnsupported s = .next s)

/-- RESET_N and the test access port act on the contacts. A low RESET_N that is recognised enters Reset from every other
mode. A high one leaves Reset to end unless a test instruction drives the contacts, which holds it. While the port
runs, BYPASS shifts out 0, IDCODE the identification, SAMPLE/PRELOAD a free value. A test instruction acts only
while RESET_N is low, and is BYPASS otherwise; CLAMP and HIGHZ select the bypass register. Test-Logic-Reset selects
IDCODE and releases a held Reset; nothing else changes. (18_contacts_electrical.md) -/
def Obligations.ContactsAndTestPort : Prop :=
  (∀ s : State,
    let t := if s.mode = 0 then s else s.enterReset 10
    exec .resetNAssert s = .next { t with contacts := { t.contacts with resetN := false } } ∧
    exec .resetNRelease s = .next { s with contacts := { s.contacts with
      resetN := true, held := s.contacts.held || (s.mode == 0 && decide (3 ≤ s.contacts.tap)) } } ∧
    exec .tapTestLogicReset s = .next { s with contacts := { s.contacts with tap := 1, held := false } }) ∧
  (∀ s : State, s.tapRuns = true →
    let put := fun (u : State) (i v : Nat) => State.emit { u with contacts := { u.contacts with tap := i } } (.tap i v)
    let v := s.fresh.1.toNat
    exec .bypass s = .next (put s 0 0) ∧ exec .idcode s = .next (put s 1 0x1204894F) ∧
    exec .samplePreload s = .next (put s.fresh.2 2 v) ∧
    (s.contacts.resetN = true →
      exec .extest s = .next (put s 0 0) ∧ exec .clamp s = .next (put s 0 0) ∧ exec .highz s = .next (put s 0 0) ∧
      exec .extestPulse s = .next (put s 0 0) ∧ exec .extestTrain s = .next (put s 0 0)) ∧
    (s.contacts.resetN = false →
      exec .extest s = .next (put s.fresh.2 3 v) ∧ exec .clamp s = .next (put s 4 0) ∧ exec .highz s = .next (put s 5 0) ∧
      exec .extestPulse s = .next (put s.fresh.2 6 v) ∧ exec .extestTrain s = .next (put s.fresh.2 7 v)))
end

