-- ==== Sys2Proof/Laws/Tables.lean ====
section
/-!
SUPPORT. The laws of the keyed tables: what a read gives after a write, and that writes keep the canonical form.
-/

namespace Sys2Proof.SMap

variable {α : Type}

theorem get_insert_same (d v : α) (k : Nat) (m : SMap α) : get d (insert k v m) k = v := by
  induction m with
  | nil => simp [insert, get]
  | cons e t ih =>
    obtain ⟨k', v'⟩ := e
    simp only [insert]
    split
    · simp [get]
    · split
      · simp [get]
      · simp_all [get]

theorem get_insert_other (d v : α) {k j : Nat} (h : j ≠ k) (m : SMap α) : get d (insert k v m) j = get d m j := by
  induction m with
  | nil => simp [insert, get, h]
  | cons e t ih =>
    obtain ⟨k', v'⟩ := e
    simp only [insert]
    split
    · simp [get, h]
    · split
      · subst_vars; simp [get, h]
      · simp [get, ih]

theorem get_erase_same (d : α) (k : Nat) (m : SMap α) : get d (erase k m) k = d := by
  induction m with
  | nil => rfl
  | cons e t ih =>
    obtain ⟨k', v'⟩ := e
    by_cases h : k' = k
    · simpa [erase, h] using ih
    · have : k ≠ k' := fun e => h e.symm
      simpa [erase, h, get, this] using ih

theorem get_erase_other (d : α) {k j : Nat} (h : j ≠ k) (m : SMap α) : get d (erase k m) j = get d m j := by
  induction m with
  | nil => rfl
  | cons e t ih =>
    obtain ⟨k', v'⟩ := e
    by_cases hk : k' = k
    · have : j ≠ k' := by omega
      simpa [erase, hk, get, h] using ih
    · have ih' : get d (List.filter (fun e => e.1 != k) t) j = get d t j := ih
      simp [erase, hk, get, ih']

/-- A read after a write to the same key gives the value written. -/
@[simp] theorem get_set_same [DecidableEq α] (d v : α) (k : Nat) (m : SMap α) : get d (set d k v m) k = v := by
  unfold set
  split
  · subst_vars; exact get_erase_same _ _ _
  · exact get_insert_same _ _ _ _

/-- A write leaves every other key alone, whatever default the read takes. -/
theorem get_set_other [DecidableEq α] (d e v : α) {k j : Nat} (h : j ≠ k) (m : SMap α) :
    get d (set e k v m) j = get d m j := by
  unfold set
  split
  · exact get_erase_other _ h _
  · exact get_insert_other _ _ h _

/-! ## The canonical form -/

theorem wfIfFrom_mono (p : Nat → α → Bool) {lo lo' : Nat} (h : lo' ≤ lo) {m : SMap α} (w : wfIfFrom p lo m = true) :
    wfIfFrom p lo' m = true := by
  cases m with
  | nil => rfl
  | cons e t => simp_all [wfIfFrom]; omega

theorem wfIfFrom_filter (p : Nat → α → Bool) (q : Nat × α → Bool) {lo : Nat} {m : SMap α}
    (w : wfIfFrom p lo m = true) : wfIfFrom p lo (m.filter q) = true := by
  induction m generalizing lo with
  | nil => rfl
  | cons e t ih =>
    obtain ⟨k, v⟩ := e
    simp only [wfIfFrom, Bool.and_eq_true, decide_eq_true_eq] at w
    by_cases hq : q (k, v)
    · simp only [List.filter_cons, hq, if_true, wfIfFrom, Bool.and_eq_true, decide_eq_true_eq]
      exact ⟨w.1, ih w.2⟩
    · simp only [List.filter_cons, hq]
      exact wfIfFrom_mono p (by omega) (ih w.2)

theorem wfIfFrom_insert (p : Nat → α → Bool) {lo k : Nat} {v : α} (hl : lo ≤ k) (hp : p k v = true) {m : SMap α}
    (w : wfIfFrom p lo m = true) : wfIfFrom p lo (insert k v m) = true := by
  induction m generalizing lo with
  | nil => simp [insert, wfIfFrom, hl, hp]
  | cons e t ih =>
    obtain ⟨k', v'⟩ := e
    simp only [wfIfFrom, Bool.and_eq_true, decide_eq_true_eq] at w
    simp only [insert]
    split
    · simp only [wfIfFrom, Bool.and_eq_true, decide_eq_true_eq]
      exact ⟨⟨hl, hp⟩, ⟨by omega, w.1.2⟩, w.2⟩
    · split
      · subst_vars
        simp only [wfIfFrom, Bool.and_eq_true, decide_eq_true_eq]
        exact ⟨⟨hl, hp⟩, w.2⟩
      · simp only [wfIfFrom, Bool.and_eq_true, decide_eq_true_eq]
        exact ⟨w.1, ih (by omega) w.2⟩

theorem wfIf_insert (p : Nat → α → Bool) {k : Nat} {v : α} (hp : p k v = true) {m : SMap α} (w : wfIf p m = true) :
    wfIf p (insert k v m) = true := wfIfFrom_insert p (Nat.zero_le _) hp w

theorem wfIf_filter (p : Nat → α → Bool) (q : Nat × α → Bool) {m : SMap α} (w : wfIf p m = true) :
    wfIf p (m.filter q) = true := wfIfFrom_filter p q w

/-- A table of which more entries may stand than before keeps its form. -/
theorem wfIf_imp {p q : Nat → α → Bool} (h : ∀ k v, p k v = true → q k v = true) {m : SMap α} (w : wfIf p m = true) :
    wfIf q m = true := by
  have key : ∀ (m : SMap α) (lo : Nat), wfIfFrom p lo m = true → wfIfFrom q lo m = true := by
    intro m
    induction m with
    | nil => intros; rfl
    | cons e t ih =>
      obtain ⟨k, v⟩ := e
      intro lo w
      simp only [wfIfFrom, Bool.and_eq_true, decide_eq_true_eq] at w ⊢
      exact ⟨⟨w.1.1, h _ _ w.1.2⟩, ih _ w.2⟩
  exact key m 0 w

/-- A table of which the entries left after a filter may stand. -/
theorem wfIf_filter_imp {p q : Nat → α → Bool} {f : Nat × α → Bool}
    (h : ∀ k v, f (k, v) = true → p k v = true → q k v = true) {m : SMap α} (w : wfIf p m = true) :
    wfIf q (m.filter f) = true := by
  have key : ∀ (m : SMap α) (lo : Nat), wfIfFrom p lo m = true → wfIfFrom q lo (m.filter f) = true := by
    intro m
    induction m with
    | nil => intros; rfl
    | cons e t ih =>
      obtain ⟨k, v⟩ := e
      intro lo w
      simp only [wfIfFrom, Bool.and_eq_true, decide_eq_true_eq] at w
      by_cases hf : f (k, v) = true
      · simp only [List.filter_cons, hf, if_true, wfIfFrom, Bool.and_eq_true, decide_eq_true_eq]
        exact ⟨⟨w.1.1, h _ _ hf w.1.2⟩, ih _ w.2⟩
      · simp only [List.filter_cons, hf]
        exact wfIfFrom_mono q (by omega) (ih _ w.2)
  exact key m 0 w

theorem wf_eq_wfIf [DecidableEq α] (d : Nat → α) (m : SMap α) : wf d m = wfIf (fun k v => decide (v ≠ d k)) m := by
  have key : ∀ (m : SMap α) (lo : Nat), wfFrom d lo m = wfIfFrom (fun k v => decide (v ≠ d k)) lo m := by
    intro m
    induction m with
    | nil => intros; rfl
    | cons e t ih => intro lo; simp [wfFrom, wfIfFrom, ih]
  exact key m 0

/-- Writing one key keeps the canonical form. -/
theorem wf_set [DecidableEq α] (d : Nat → α) (k : Nat) (v : α) {m : SMap α} (w : wf d m = true) :
    wf d (set (d k) k v m) = true := by
  rw [wf_eq_wfIf] at w ⊢
  unfold set
  split
  · exact wfIf_filter _ _ w
  · exact wfIf_insert _ (by simpa using by assumption) w

/-- Removing entries keeps the canonical form. -/
theorem wf_filter [DecidableEq α] (d : Nat → α) (f : Nat × α → Bool) {m : SMap α} (w : wf d m = true) :
    wf d (m.filter f) = true := by
  rw [wf_eq_wfIf] at w ⊢
  exact wfIf_filter _ _ w

end Sys2Proof.SMap
end

