-- ==== Sys2Proof/Laws/State.lean ====
section
/-!
SUPPORT. The laws of the register file and of the plain updates of the state: one lemma per field per update, what a read
gives after a write, and what leaves the registers alone.
-/

namespace Sys2Proof.Machine

@[simp] theorem State.setWord_mem (s : State) (a : Nat) (v : Word) : (s.setWord a v).mem = s.mem := rfl
@[simp] theorem State.setWord_time (s : State) (a : Nat) (v : Word) : (s.setWord a v).time = s.time := rfl
@[simp] theorem State.setWord_arms (s : State) (a : Nat) (v : Word) : (s.setWord a v).arms = s.arms := rfl
@[simp] theorem State.setWord_sync (s : State) (a : Nat) (v : Word) : (s.setWord a v).sync = s.sync := rfl
@[simp] theorem State.setWord_journal (s : State) (a : Nat) (v : Word) : (s.setWord a v).journal = s.journal := rfl
@[simp] theorem State.setWord_image (s : State) (a : Nat) (v : Word) : (s.setWord a v).image = s.image := rfl
@[simp] theorem State.setWord_board (s : State) (a : Nat) (v : Word) : (s.setWord a v).board = s.board := rfl
@[simp] theorem State.setWord_pair (s : State) (a : Nat) (v : Word) : (s.setWord a v).pair = s.pair := rfl
@[simp] theorem State.setWord_testFails (s : State) (a : Nat) (v : Word) : (s.setWord a v).testFails = s.testFails := rfl
@[simp] theorem State.setWord_scenes (s : State) (a : Nat) (v : Word) : (s.setWord a v).scenes = s.scenes := rfl
@[simp] theorem State.setWord_held (s : State) (a : Nat) (v : Word) : (s.setWord a v).held = s.held := rfl
@[simp] theorem State.setWord_launches (s : State) (a : Nat) (v : Word) : (s.setWord a v).launches = s.launches := rfl
@[simp] theorem State.setWord_feeds (s : State) (a : Nat) (v : Word) : (s.setWord a v).feeds = s.feeds := rfl
@[simp] theorem State.setWord_sources (s : State) (a : Nat) (v : Word) : (s.setWord a v).sources = s.sources := rfl
@[simp] theorem State.setWord_queues (s : State) (a : Nat) (v : Word) : (s.setWord a v).queues = s.queues := rfl
@[simp] theorem State.setWord_flows (s : State) (a : Nat) (v : Word) : (s.setWord a v).flows = s.flows := rfl
@[simp] theorem State.setWord_wires (s : State) (a : Nat) (v : Word) : (s.setWord a v).wires = s.wires := rfl
@[simp] theorem State.setWord_credits (s : State) (a : Nat) (v : Word) : (s.setWord a v).credits = s.credits := rfl
@[simp] theorem State.setWord_gates (s : State) (a : Nat) (v : Word) : (s.setWord a v).gates = s.gates := rfl
@[simp] theorem State.setWord_merges (s : State) (a : Nat) (v : Word) : (s.setWord a v).merges = s.merges := rfl
@[simp] theorem State.setWord_everServed (s : State) (a : Nat) (v : Word) : (s.setWord a v).everServed = s.everServed := rfl
@[simp] theorem State.setWord_cells (s : State) (a : Nat) (v : Word) : (s.setWord a v).cells = s.cells := rfl
@[simp] theorem State.setWord_drifts (s : State) (a : Nat) (v : Word) : (s.setWord a v).drifts = s.drifts := rfl
@[simp] theorem State.setWord_markSecond (s : State) (a : Nat) (v : Word) : (s.setWord a v).markSecond = s.markSecond := rfl
@[simp] theorem State.setWord_windows (s : State) (a : Nat) (v : Word) : (s.setWord a v).windows = s.windows := rfl
@[simp] theorem State.setWord_evcs (s : State) (a : Nat) (v : Word) : (s.setWord a v).evcs = s.evcs := rfl
@[simp] theorem State.setWord_samplers (s : State) (a : Nat) (v : Word) : (s.setWord a v).samplers = s.samplers := rfl
@[simp] theorem State.setWord_lsBuf (s : State) (a : Nat) (v : Word) : (s.setWord a v).lsBuf = s.lsBuf := rfl
@[simp] theorem State.setWord_qsBuf (s : State) (a : Nat) (v : Word) : (s.setWord a v).qsBuf = s.qsBuf := rfl
@[simp] theorem State.setWord_injectors (s : State) (a : Nat) (v : Word) : (s.setWord a v).injectors = s.injectors := rfl
@[simp] theorem State.setWord_digests (s : State) (a : Nat) (v : Word) : (s.setWord a v).digests = s.digests := rfl
@[simp] theorem State.setWord_recirc (s : State) (a : Nat) (v : Word) : (s.setWord a v).recirc = s.recirc := rfl
@[simp] theorem State.setWord_crossing (s : State) (a : Nat) (v : Word) : (s.setWord a v).crossing = s.crossing := rfl
@[simp] theorem State.setWord_captures (s : State) (a : Nat) (v : Word) : (s.setWord a v).captures = s.captures := rfl
@[simp] theorem State.setWord_slow (s : State) (a : Nat) (v : Word) : (s.setWord a v).slow = s.slow := rfl
@[simp] theorem State.setWord_exports (s : State) (a : Nat) (v : Word) : (s.setWord a v).exports = s.exports := rfl
@[simp] theorem State.setWord_capRings (s : State) (a : Nat) (v : Word) : (s.setWord a v).capRings = s.capRings := rfl
@[simp] theorem State.setWord_exportSeqs (s : State) (a : Nat) (v : Word) : (s.setWord a v).exportSeqs = s.exportSeqs := rfl
@[simp] theorem State.setWord_capCounts (s : State) (a : Nat) (v : Word) : (s.setWord a v).capCounts = s.capCounts := rfl
@[simp] theorem State.setWord_slowBuckets (s : State) (a : Nat) (v : Word) : (s.setWord a v).slowBuckets = s.slowBuckets := rfl
@[simp] theorem State.setWord_sgates (s : State) (a : Nat) (v : Word) : (s.setWord a v).sgates = s.sgates := rfl
@[simp] theorem State.setWord_meters (s : State) (a : Nat) (v : Word) : (s.setWord a v).meters = s.meters := rfl
@[simp] theorem State.setWord_batch (s : State) (a : Nat) (v : Word) : (s.setWord a v).batch = s.batch := rfl
@[simp] theorem State.setWord_update (s : State) (a : Nat) (v : Word) : (s.setWord a v).update = s.update := rfl
@[simp] theorem State.setWord_recs (s : State) (a : Nat) (v : Word) : (s.setWord a v).recs = s.recs := rfl
@[simp] theorem State.setWord_rings (s : State) (a : Nat) (v : Word) : (s.setWord a v).rings = s.rings := rfl
@[simp] theorem State.setWord_xp (s : State) (a : Nat) (v : Word) : (s.setWord a v).xp = s.xp := rfl
@[simp] theorem State.setWord_channels (s : State) (a : Nat) (v : Word) : (s.setWord a v).channels = s.channels := rfl
@[simp] theorem State.setWord_lastStart (s : State) (a : Nat) (v : Word) : (s.setWord a v).lastStart = s.lastStart := rfl
@[simp] theorem State.setWord_drains (s : State) (a : Nat) (v : Word) : (s.setWord a v).drains = s.drains := rfl
@[simp] theorem State.setWord_mram (s : State) (a : Nat) (v : Word) : (s.setWord a v).mram = s.mram := rfl
@[simp] theorem State.setWord_boot (s : State) (a : Nat) (v : Word) : (s.setWord a v).boot = s.boot := rfl
@[simp] theorem State.setWord_firmware (s : State) (a : Nat) (v : Word) : (s.setWord a v).firmware = s.firmware := rfl
@[simp] theorem State.setWord_tests (s : State) (a : Nat) (v : Word) : (s.setWord a v).tests = s.tests := rfl
@[simp] theorem State.setWord_power (s : State) (a : Nat) (v : Word) : (s.setWord a v).power = s.power := rfl
@[simp] theorem State.setWord_contacts (s : State) (a : Nat) (v : Word) : (s.setWord a v).contacts = s.contacts := rfl
@[simp] theorem State.setWord_saved (s : State) (a : Nat) (v : Word) : (s.setWord a v).saved = s.saved := rfl
@[simp] theorem State.setWord_undef (s : State) (a : Nat) (v : Word) : (s.setWord a v).undef = s.undef := rfl
@[simp] theorem State.setWord_out (s : State) (a : Nat) (v : Word) : (s.setWord a v).out = s.out := rfl
@[simp] theorem State.setWord_free (s : State) (a : Nat) (v : Word) : (s.setWord a v).free = s.free := rfl
@[simp] theorem State.setWord_pending (s : State) (a : Nat) (v : Word) : (s.setWord a v).pending = s.pending := rfl

@[simp] theorem State.emit_words (s : State) (o : Output) : (s.emit o).words = s.words := rfl
@[simp] theorem State.emit_mem (s : State) (o : Output) : (s.emit o).mem = s.mem := rfl
@[simp] theorem State.emit_time (s : State) (o : Output) : (s.emit o).time = s.time := rfl
@[simp] theorem State.emit_arms (s : State) (o : Output) : (s.emit o).arms = s.arms := rfl
@[simp] theorem State.emit_sync (s : State) (o : Output) : (s.emit o).sync = s.sync := rfl
@[simp] theorem State.emit_journal (s : State) (o : Output) : (s.emit o).journal = s.journal := rfl
@[simp] theorem State.emit_image (s : State) (o : Output) : (s.emit o).image = s.image := rfl
@[simp] theorem State.emit_board (s : State) (o : Output) : (s.emit o).board = s.board := rfl
@[simp] theorem State.emit_pair (s : State) (o : Output) : (s.emit o).pair = s.pair := rfl
@[simp] theorem State.emit_testFails (s : State) (o : Output) : (s.emit o).testFails = s.testFails := rfl
@[simp] theorem State.emit_scenes (s : State) (o : Output) : (s.emit o).scenes = s.scenes := rfl
@[simp] theorem State.emit_held (s : State) (o : Output) : (s.emit o).held = s.held := rfl
@[simp] theorem State.emit_launches (s : State) (o : Output) : (s.emit o).launches = s.launches := rfl
@[simp] theorem State.emit_feeds (s : State) (o : Output) : (s.emit o).feeds = s.feeds := rfl
@[simp] theorem State.emit_sources (s : State) (o : Output) : (s.emit o).sources = s.sources := rfl
@[simp] theorem State.emit_queues (s : State) (o : Output) : (s.emit o).queues = s.queues := rfl
@[simp] theorem State.emit_flows (s : State) (o : Output) : (s.emit o).flows = s.flows := rfl
@[simp] theorem State.emit_wires (s : State) (o : Output) : (s.emit o).wires = s.wires := rfl
@[simp] theorem State.emit_credits (s : State) (o : Output) : (s.emit o).credits = s.credits := rfl
@[simp] theorem State.emit_gates (s : State) (o : Output) : (s.emit o).gates = s.gates := rfl
@[simp] theorem State.emit_merges (s : State) (o : Output) : (s.emit o).merges = s.merges := rfl
@[simp] theorem State.emit_everServed (s : State) (o : Output) : (s.emit o).everServed = s.everServed := rfl
@[simp] theorem State.emit_cells (s : State) (o : Output) : (s.emit o).cells = s.cells := rfl
@[simp] theorem State.emit_drifts (s : State) (o : Output) : (s.emit o).drifts = s.drifts := rfl
@[simp] theorem State.emit_markSecond (s : State) (o : Output) : (s.emit o).markSecond = s.markSecond := rfl
@[simp] theorem State.emit_windows (s : State) (o : Output) : (s.emit o).windows = s.windows := rfl
@[simp] theorem State.emit_evcs (s : State) (o : Output) : (s.emit o).evcs = s.evcs := rfl
@[simp] theorem State.emit_samplers (s : State) (o : Output) : (s.emit o).samplers = s.samplers := rfl
@[simp] theorem State.emit_lsBuf (s : State) (o : Output) : (s.emit o).lsBuf = s.lsBuf := rfl
@[simp] theorem State.emit_qsBuf (s : State) (o : Output) : (s.emit o).qsBuf = s.qsBuf := rfl
@[simp] theorem State.emit_injectors (s : State) (o : Output) : (s.emit o).injectors = s.injectors := rfl
@[simp] theorem State.emit_digests (s : State) (o : Output) : (s.emit o).digests = s.digests := rfl
@[simp] theorem State.emit_recirc (s : State) (o : Output) : (s.emit o).recirc = s.recirc := rfl
@[simp] theorem State.emit_crossing (s : State) (o : Output) : (s.emit o).crossing = s.crossing := rfl
@[simp] theorem State.emit_captures (s : State) (o : Output) : (s.emit o).captures = s.captures := rfl
@[simp] theorem State.emit_slow (s : State) (o : Output) : (s.emit o).slow = s.slow := rfl
@[simp] theorem State.emit_exports (s : State) (o : Output) : (s.emit o).exports = s.exports := rfl
@[simp] theorem State.emit_capRings (s : State) (o : Output) : (s.emit o).capRings = s.capRings := rfl
@[simp] theorem State.emit_exportSeqs (s : State) (o : Output) : (s.emit o).exportSeqs = s.exportSeqs := rfl
@[simp] theorem State.emit_capCounts (s : State) (o : Output) : (s.emit o).capCounts = s.capCounts := rfl
@[simp] theorem State.emit_slowBuckets (s : State) (o : Output) : (s.emit o).slowBuckets = s.slowBuckets := rfl
@[simp] theorem State.emit_sgates (s : State) (o : Output) : (s.emit o).sgates = s.sgates := rfl
@[simp] theorem State.emit_meters (s : State) (o : Output) : (s.emit o).meters = s.meters := rfl
@[simp] theorem State.emit_batch (s : State) (o : Output) : (s.emit o).batch = s.batch := rfl
@[simp] theorem State.emit_update (s : State) (o : Output) : (s.emit o).update = s.update := rfl
@[simp] theorem State.emit_recs (s : State) (o : Output) : (s.emit o).recs = s.recs := rfl
@[simp] theorem State.emit_rings (s : State) (o : Output) : (s.emit o).rings = s.rings := rfl
@[simp] theorem State.emit_xp (s : State) (o : Output) : (s.emit o).xp = s.xp := rfl
@[simp] theorem State.emit_channels (s : State) (o : Output) : (s.emit o).channels = s.channels := rfl
@[simp] theorem State.emit_lastStart (s : State) (o : Output) : (s.emit o).lastStart = s.lastStart := rfl
@[simp] theorem State.emit_drains (s : State) (o : Output) : (s.emit o).drains = s.drains := rfl
@[simp] theorem State.emit_mram (s : State) (o : Output) : (s.emit o).mram = s.mram := rfl
@[simp] theorem State.emit_boot (s : State) (o : Output) : (s.emit o).boot = s.boot := rfl
@[simp] theorem State.emit_firmware (s : State) (o : Output) : (s.emit o).firmware = s.firmware := rfl
@[simp] theorem State.emit_tests (s : State) (o : Output) : (s.emit o).tests = s.tests := rfl
@[simp] theorem State.emit_power (s : State) (o : Output) : (s.emit o).power = s.power := rfl
@[simp] theorem State.emit_contacts (s : State) (o : Output) : (s.emit o).contacts = s.contacts := rfl
@[simp] theorem State.emit_saved (s : State) (o : Output) : (s.emit o).saved = s.saved := rfl
@[simp] theorem State.emit_undef (s : State) (o : Output) : (s.emit o).undef = s.undef := rfl
@[simp] theorem State.emit_free (s : State) (o : Output) : (s.emit o).free = s.free := rfl
@[simp] theorem State.emit_pending (s : State) (o : Output) : (s.emit o).pending = s.pending := rfl

@[simp] theorem State.writeByte_words (s : State) (a : Nat) (v : Byte) : (s.writeByte a v).words = s.words := rfl
@[simp] theorem State.writeByte_time (s : State) (a : Nat) (v : Byte) : (s.writeByte a v).time = s.time := rfl
@[simp] theorem State.writeByte_arms (s : State) (a : Nat) (v : Byte) : (s.writeByte a v).arms = s.arms := rfl
@[simp] theorem State.writeByte_sync (s : State) (a : Nat) (v : Byte) : (s.writeByte a v).sync = s.sync := rfl
@[simp] theorem State.writeByte_journal (s : State) (a : Nat) (v : Byte) : (s.writeByte a v).journal = s.journal := rfl
@[simp] theorem State.writeByte_image (s : State) (a : Nat) (v : Byte) : (s.writeByte a v).image = s.image := rfl
@[simp] theorem State.writeByte_board (s : State) (a : Nat) (v : Byte) : (s.writeByte a v).board = s.board := rfl
@[simp] theorem State.writeByte_pair (s : State) (a : Nat) (v : Byte) : (s.writeByte a v).pair = s.pair := rfl
@[simp] theorem State.writeByte_testFails (s : State) (a : Nat) (v : Byte) : (s.writeByte a v).testFails = s.testFails := rfl
@[simp] theorem State.writeByte_scenes (s : State) (a : Nat) (v : Byte) : (s.writeByte a v).scenes = s.scenes := rfl
@[simp] theorem State.writeByte_held (s : State) (a : Nat) (v : Byte) : (s.writeByte a v).held = s.held := rfl
@[simp] theorem State.writeByte_launches (s : State) (a : Nat) (v : Byte) : (s.writeByte a v).launches = s.launches := rfl
@[simp] theorem State.writeByte_feeds (s : State) (a : Nat) (v : Byte) : (s.writeByte a v).feeds = s.feeds := rfl
@[simp] theorem State.writeByte_sources (s : State) (a : Nat) (v : Byte) : (s.writeByte a v).sources = s.sources := rfl
@[simp] theorem State.writeByte_queues (s : State) (a : Nat) (v : Byte) : (s.writeByte a v).queues = s.queues := rfl
@[simp] theorem State.writeByte_flows (s : State) (a : Nat) (v : Byte) : (s.writeByte a v).flows = s.flows := rfl
@[simp] theorem State.writeByte_wires (s : State) (a : Nat) (v : Byte) : (s.writeByte a v).wires = s.wires := rfl
@[simp] theorem State.writeByte_credits (s : State) (a : Nat) (v : Byte) : (s.writeByte a v).credits = s.credits := rfl
@[simp] theorem State.writeByte_gates (s : State) (a : Nat) (v : Byte) : (s.writeByte a v).gates = s.gates := rfl
@[simp] theorem State.writeByte_merges (s : State) (a : Nat) (v : Byte) : (s.writeByte a v).merges = s.merges := rfl
@[simp] theorem State.writeByte_everServed (s : State) (a : Nat) (v : Byte) : (s.writeByte a v).everServed = s.everServed := rfl
@[simp] theorem State.writeByte_cells (s : State) (a : Nat) (v : Byte) : (s.writeByte a v).cells = s.cells := rfl
@[simp] theorem State.writeByte_drifts (s : State) (a : Nat) (v : Byte) : (s.writeByte a v).drifts = s.drifts := rfl
@[simp] theorem State.writeByte_markSecond (s : State) (a : Nat) (v : Byte) : (s.writeByte a v).markSecond = s.markSecond := rfl
@[simp] theorem State.writeByte_windows (s : State) (a : Nat) (v : Byte) : (s.writeByte a v).windows = s.windows := rfl
@[simp] theorem State.writeByte_evcs (s : State) (a : Nat) (v : Byte) : (s.writeByte a v).evcs = s.evcs := rfl
@[simp] theorem State.writeByte_samplers (s : State) (a : Nat) (v : Byte) : (s.writeByte a v).samplers = s.samplers := rfl
@[simp] theorem State.writeByte_lsBuf (s : State) (a : Nat) (v : Byte) : (s.writeByte a v).lsBuf = s.lsBuf := rfl
@[simp] theorem State.writeByte_qsBuf (s : State) (a : Nat) (v : Byte) : (s.writeByte a v).qsBuf = s.qsBuf := rfl
@[simp] theorem State.writeByte_injectors (s : State) (a : Nat) (v : Byte) : (s.writeByte a v).injectors = s.injectors := rfl
@[simp] theorem State.writeByte_digests (s : State) (a : Nat) (v : Byte) : (s.writeByte a v).digests = s.digests := rfl
@[simp] theorem State.writeByte_recirc (s : State) (a : Nat) (v : Byte) : (s.writeByte a v).recirc = s.recirc := rfl
@[simp] theorem State.writeByte_crossing (s : State) (a : Nat) (v : Byte) : (s.writeByte a v).crossing = s.crossing := rfl
@[simp] theorem State.writeByte_captures (s : State) (a : Nat) (v : Byte) : (s.writeByte a v).captures = s.captures := rfl
@[simp] theorem State.writeByte_slow (s : State) (a : Nat) (v : Byte) : (s.writeByte a v).slow = s.slow := rfl
@[simp] theorem State.writeByte_exports (s : State) (a : Nat) (v : Byte) : (s.writeByte a v).exports = s.exports := rfl
@[simp] theorem State.writeByte_capRings (s : State) (a : Nat) (v : Byte) : (s.writeByte a v).capRings = s.capRings := rfl
@[simp] theorem State.writeByte_exportSeqs (s : State) (a : Nat) (v : Byte) : (s.writeByte a v).exportSeqs = s.exportSeqs := rfl
@[simp] theorem State.writeByte_capCounts (s : State) (a : Nat) (v : Byte) : (s.writeByte a v).capCounts = s.capCounts := rfl
@[simp] theorem State.writeByte_slowBuckets (s : State) (a : Nat) (v : Byte) : (s.writeByte a v).slowBuckets = s.slowBuckets := rfl
@[simp] theorem State.writeByte_sgates (s : State) (a : Nat) (v : Byte) : (s.writeByte a v).sgates = s.sgates := rfl
@[simp] theorem State.writeByte_meters (s : State) (a : Nat) (v : Byte) : (s.writeByte a v).meters = s.meters := rfl
@[simp] theorem State.writeByte_batch (s : State) (a : Nat) (v : Byte) : (s.writeByte a v).batch = s.batch := rfl
@[simp] theorem State.writeByte_update (s : State) (a : Nat) (v : Byte) : (s.writeByte a v).update = s.update := rfl
@[simp] theorem State.writeByte_recs (s : State) (a : Nat) (v : Byte) : (s.writeByte a v).recs = s.recs := rfl
@[simp] theorem State.writeByte_rings (s : State) (a : Nat) (v : Byte) : (s.writeByte a v).rings = s.rings := rfl
@[simp] theorem State.writeByte_xp (s : State) (a : Nat) (v : Byte) : (s.writeByte a v).xp = s.xp := rfl
@[simp] theorem State.writeByte_channels (s : State) (a : Nat) (v : Byte) : (s.writeByte a v).channels = s.channels := rfl
@[simp] theorem State.writeByte_lastStart (s : State) (a : Nat) (v : Byte) : (s.writeByte a v).lastStart = s.lastStart := rfl
@[simp] theorem State.writeByte_drains (s : State) (a : Nat) (v : Byte) : (s.writeByte a v).drains = s.drains := rfl
@[simp] theorem State.writeByte_mram (s : State) (a : Nat) (v : Byte) : (s.writeByte a v).mram = s.mram := rfl
@[simp] theorem State.writeByte_boot (s : State) (a : Nat) (v : Byte) : (s.writeByte a v).boot = s.boot := rfl
@[simp] theorem State.writeByte_firmware (s : State) (a : Nat) (v : Byte) : (s.writeByte a v).firmware = s.firmware := rfl
@[simp] theorem State.writeByte_tests (s : State) (a : Nat) (v : Byte) : (s.writeByte a v).tests = s.tests := rfl
@[simp] theorem State.writeByte_power (s : State) (a : Nat) (v : Byte) : (s.writeByte a v).power = s.power := rfl
@[simp] theorem State.writeByte_contacts (s : State) (a : Nat) (v : Byte) : (s.writeByte a v).contacts = s.contacts := rfl
@[simp] theorem State.writeByte_saved (s : State) (a : Nat) (v : Byte) : (s.writeByte a v).saved = s.saved := rfl
@[simp] theorem State.writeByte_undef (s : State) (a : Nat) (v : Byte) : (s.writeByte a v).undef = s.undef := rfl
@[simp] theorem State.writeByte_out (s : State) (a : Nat) (v : Byte) : (s.writeByte a v).out = s.out := rfl
@[simp] theorem State.writeByte_free (s : State) (a : Nat) (v : Byte) : (s.writeByte a v).free = s.free := rfl
@[simp] theorem State.writeByte_pending (s : State) (a : Nat) (v : Byte) : (s.writeByte a v).pending = s.pending := rfl

@[simp] theorem State.clearWords_mem (s : State) (p : Nat → Bool) : (s.clearWords p).mem = s.mem := rfl
@[simp] theorem State.clearWords_time (s : State) (p : Nat → Bool) : (s.clearWords p).time = s.time := rfl
@[simp] theorem State.clearWords_arms (s : State) (p : Nat → Bool) : (s.clearWords p).arms = s.arms := rfl
@[simp] theorem State.clearWords_sync (s : State) (p : Nat → Bool) : (s.clearWords p).sync = s.sync := rfl
@[simp] theorem State.clearWords_journal (s : State) (p : Nat → Bool) : (s.clearWords p).journal = s.journal := rfl
@[simp] theorem State.clearWords_image (s : State) (p : Nat → Bool) : (s.clearWords p).image = s.image := rfl
@[simp] theorem State.clearWords_board (s : State) (p : Nat → Bool) : (s.clearWords p).board = s.board := rfl
@[simp] theorem State.clearWords_pair (s : State) (p : Nat → Bool) : (s.clearWords p).pair = s.pair := rfl
@[simp] theorem State.clearWords_testFails (s : State) (p : Nat → Bool) : (s.clearWords p).testFails = s.testFails := rfl
@[simp] theorem State.clearWords_scenes (s : State) (p : Nat → Bool) : (s.clearWords p).scenes = s.scenes := rfl
@[simp] theorem State.clearWords_held (s : State) (p : Nat → Bool) : (s.clearWords p).held = s.held := rfl
@[simp] theorem State.clearWords_launches (s : State) (p : Nat → Bool) : (s.clearWords p).launches = s.launches := rfl
@[simp] theorem State.clearWords_feeds (s : State) (p : Nat → Bool) : (s.clearWords p).feeds = s.feeds := rfl
@[simp] theorem State.clearWords_sources (s : State) (p : Nat → Bool) : (s.clearWords p).sources = s.sources := rfl
@[simp] theorem State.clearWords_queues (s : State) (p : Nat → Bool) : (s.clearWords p).queues = s.queues := rfl
@[simp] theorem State.clearWords_flows (s : State) (p : Nat → Bool) : (s.clearWords p).flows = s.flows := rfl
@[simp] theorem State.clearWords_wires (s : State) (p : Nat → Bool) : (s.clearWords p).wires = s.wires := rfl
@[simp] theorem State.clearWords_credits (s : State) (p : Nat → Bool) : (s.clearWords p).credits = s.credits := rfl
@[simp] theorem State.clearWords_gates (s : State) (p : Nat → Bool) : (s.clearWords p).gates = s.gates := rfl
@[simp] theorem State.clearWords_merges (s : State) (p : Nat → Bool) : (s.clearWords p).merges = s.merges := rfl
@[simp] theorem State.clearWords_everServed (s : State) (p : Nat → Bool) : (s.clearWords p).everServed = s.everServed := rfl
@[simp] theorem State.clearWords_cells (s : State) (p : Nat → Bool) : (s.clearWords p).cells = s.cells := rfl
@[simp] theorem State.clearWords_drifts (s : State) (p : Nat → Bool) : (s.clearWords p).drifts = s.drifts := rfl
@[simp] theorem State.clearWords_markSecond (s : State) (p : Nat → Bool) : (s.clearWords p).markSecond = s.markSecond := rfl
@[simp] theorem State.clearWords_windows (s : State) (p : Nat → Bool) : (s.clearWords p).windows = s.windows := rfl
@[simp] theorem State.clearWords_evcs (s : State) (p : Nat → Bool) : (s.clearWords p).evcs = s.evcs := rfl
@[simp] theorem State.clearWords_samplers (s : State) (p : Nat → Bool) : (s.clearWords p).samplers = s.samplers := rfl
@[simp] theorem State.clearWords_lsBuf (s : State) (p : Nat → Bool) : (s.clearWords p).lsBuf = s.lsBuf := rfl
@[simp] theorem State.clearWords_qsBuf (s : State) (p : Nat → Bool) : (s.clearWords p).qsBuf = s.qsBuf := rfl
@[simp] theorem State.clearWords_injectors (s : State) (p : Nat → Bool) : (s.clearWords p).injectors = s.injectors := rfl
@[simp] theorem State.clearWords_digests (s : State) (p : Nat → Bool) : (s.clearWords p).digests = s.digests := rfl
@[simp] theorem State.clearWords_recirc (s : State) (p : Nat → Bool) : (s.clearWords p).recirc = s.recirc := rfl
@[simp] theorem State.clearWords_crossing (s : State) (p : Nat → Bool) : (s.clearWords p).crossing = s.crossing := rfl
@[simp] theorem State.clearWords_captures (s : State) (p : Nat → Bool) : (s.clearWords p).captures = s.captures := rfl
@[simp] theorem State.clearWords_slow (s : State) (p : Nat → Bool) : (s.clearWords p).slow = s.slow := rfl
@[simp] theorem State.clearWords_exports (s : State) (p : Nat → Bool) : (s.clearWords p).exports = s.exports := rfl
@[simp] theorem State.clearWords_capRings (s : State) (p : Nat → Bool) : (s.clearWords p).capRings = s.capRings := rfl
@[simp] theorem State.clearWords_exportSeqs (s : State) (p : Nat → Bool) : (s.clearWords p).exportSeqs = s.exportSeqs := rfl
@[simp] theorem State.clearWords_capCounts (s : State) (p : Nat → Bool) : (s.clearWords p).capCounts = s.capCounts := rfl
@[simp] theorem State.clearWords_slowBuckets (s : State) (p : Nat → Bool) : (s.clearWords p).slowBuckets = s.slowBuckets := rfl
@[simp] theorem State.clearWords_sgates (s : State) (p : Nat → Bool) : (s.clearWords p).sgates = s.sgates := rfl
@[simp] theorem State.clearWords_meters (s : State) (p : Nat → Bool) : (s.clearWords p).meters = s.meters := rfl
@[simp] theorem State.clearWords_batch (s : State) (p : Nat → Bool) : (s.clearWords p).batch = s.batch := rfl
@[simp] theorem State.clearWords_update (s : State) (p : Nat → Bool) : (s.clearWords p).update = s.update := rfl
@[simp] theorem State.clearWords_recs (s : State) (p : Nat → Bool) : (s.clearWords p).recs = s.recs := rfl
@[simp] theorem State.clearWords_rings (s : State) (p : Nat → Bool) : (s.clearWords p).rings = s.rings := rfl
@[simp] theorem State.clearWords_xp (s : State) (p : Nat → Bool) : (s.clearWords p).xp = s.xp := rfl
@[simp] theorem State.clearWords_channels (s : State) (p : Nat → Bool) : (s.clearWords p).channels = s.channels := rfl
@[simp] theorem State.clearWords_lastStart (s : State) (p : Nat → Bool) : (s.clearWords p).lastStart = s.lastStart := rfl
@[simp] theorem State.clearWords_drains (s : State) (p : Nat → Bool) : (s.clearWords p).drains = s.drains := rfl
@[simp] theorem State.clearWords_mram (s : State) (p : Nat → Bool) : (s.clearWords p).mram = s.mram := rfl
@[simp] theorem State.clearWords_boot (s : State) (p : Nat → Bool) : (s.clearWords p).boot = s.boot := rfl
@[simp] theorem State.clearWords_firmware (s : State) (p : Nat → Bool) : (s.clearWords p).firmware = s.firmware := rfl
@[simp] theorem State.clearWords_tests (s : State) (p : Nat → Bool) : (s.clearWords p).tests = s.tests := rfl
@[simp] theorem State.clearWords_power (s : State) (p : Nat → Bool) : (s.clearWords p).power = s.power := rfl
@[simp] theorem State.clearWords_contacts (s : State) (p : Nat → Bool) : (s.clearWords p).contacts = s.contacts := rfl
@[simp] theorem State.clearWords_saved (s : State) (p : Nat → Bool) : (s.clearWords p).saved = s.saved := rfl
@[simp] theorem State.clearWords_undef (s : State) (p : Nat → Bool) : (s.clearWords p).undef = s.undef := rfl
@[simp] theorem State.clearWords_out (s : State) (p : Nat → Bool) : (s.clearWords p).out = s.out := rfl
@[simp] theorem State.clearWords_free (s : State) (p : Nat → Bool) : (s.clearWords p).free = s.free := rfl
@[simp] theorem State.clearWords_pending (s : State) (p : Nat → Bool) : (s.clearWords p).pending = s.pending := rfl

@[simp] theorem State.put_mem (s : State) (b : Nat) (f : Fld) (v : Nat) : (s.put b f v).mem = s.mem := rfl
@[simp] theorem State.put_time (s : State) (b : Nat) (f : Fld) (v : Nat) : (s.put b f v).time = s.time := rfl
@[simp] theorem State.put_arms (s : State) (b : Nat) (f : Fld) (v : Nat) : (s.put b f v).arms = s.arms := rfl
@[simp] theorem State.put_sync (s : State) (b : Nat) (f : Fld) (v : Nat) : (s.put b f v).sync = s.sync := rfl
@[simp] theorem State.put_journal (s : State) (b : Nat) (f : Fld) (v : Nat) : (s.put b f v).journal = s.journal := rfl
@[simp] theorem State.put_image (s : State) (b : Nat) (f : Fld) (v : Nat) : (s.put b f v).image = s.image := rfl
@[simp] theorem State.put_board (s : State) (b : Nat) (f : Fld) (v : Nat) : (s.put b f v).board = s.board := rfl
@[simp] theorem State.put_pair (s : State) (b : Nat) (f : Fld) (v : Nat) : (s.put b f v).pair = s.pair := rfl
@[simp] theorem State.put_testFails (s : State) (b : Nat) (f : Fld) (v : Nat) : (s.put b f v).testFails = s.testFails := rfl
@[simp] theorem State.put_scenes (s : State) (b : Nat) (f : Fld) (v : Nat) : (s.put b f v).scenes = s.scenes := rfl
@[simp] theorem State.put_held (s : State) (b : Nat) (f : Fld) (v : Nat) : (s.put b f v).held = s.held := rfl
@[simp] theorem State.put_launches (s : State) (b : Nat) (f : Fld) (v : Nat) : (s.put b f v).launches = s.launches := rfl
@[simp] theorem State.put_feeds (s : State) (b : Nat) (f : Fld) (v : Nat) : (s.put b f v).feeds = s.feeds := rfl
@[simp] theorem State.put_sources (s : State) (b : Nat) (f : Fld) (v : Nat) : (s.put b f v).sources = s.sources := rfl
@[simp] theorem State.put_queues (s : State) (b : Nat) (f : Fld) (v : Nat) : (s.put b f v).queues = s.queues := rfl
@[simp] theorem State.put_flows (s : State) (b : Nat) (f : Fld) (v : Nat) : (s.put b f v).flows = s.flows := rfl
@[simp] theorem State.put_wires (s : State) (b : Nat) (f : Fld) (v : Nat) : (s.put b f v).wires = s.wires := rfl
@[simp] theorem State.put_credits (s : State) (b : Nat) (f : Fld) (v : Nat) : (s.put b f v).credits = s.credits := rfl
@[simp] theorem State.put_gates (s : State) (b : Nat) (f : Fld) (v : Nat) : (s.put b f v).gates = s.gates := rfl
@[simp] theorem State.put_merges (s : State) (b : Nat) (f : Fld) (v : Nat) : (s.put b f v).merges = s.merges := rfl
@[simp] theorem State.put_everServed (s : State) (b : Nat) (f : Fld) (v : Nat) : (s.put b f v).everServed = s.everServed := rfl
@[simp] theorem State.put_cells (s : State) (b : Nat) (f : Fld) (v : Nat) : (s.put b f v).cells = s.cells := rfl
@[simp] theorem State.put_drifts (s : State) (b : Nat) (f : Fld) (v : Nat) : (s.put b f v).drifts = s.drifts := rfl
@[simp] theorem State.put_markSecond (s : State) (b : Nat) (f : Fld) (v : Nat) : (s.put b f v).markSecond = s.markSecond := rfl
@[simp] theorem State.put_windows (s : State) (b : Nat) (f : Fld) (v : Nat) : (s.put b f v).windows = s.windows := rfl
@[simp] theorem State.put_evcs (s : State) (b : Nat) (f : Fld) (v : Nat) : (s.put b f v).evcs = s.evcs := rfl
@[simp] theorem State.put_samplers (s : State) (b : Nat) (f : Fld) (v : Nat) : (s.put b f v).samplers = s.samplers := rfl
@[simp] theorem State.put_lsBuf (s : State) (b : Nat) (f : Fld) (v : Nat) : (s.put b f v).lsBuf = s.lsBuf := rfl
@[simp] theorem State.put_qsBuf (s : State) (b : Nat) (f : Fld) (v : Nat) : (s.put b f v).qsBuf = s.qsBuf := rfl
@[simp] theorem State.put_injectors (s : State) (b : Nat) (f : Fld) (v : Nat) : (s.put b f v).injectors = s.injectors := rfl
@[simp] theorem State.put_digests (s : State) (b : Nat) (f : Fld) (v : Nat) : (s.put b f v).digests = s.digests := rfl
@[simp] theorem State.put_recirc (s : State) (b : Nat) (f : Fld) (v : Nat) : (s.put b f v).recirc = s.recirc := rfl
@[simp] theorem State.put_crossing (s : State) (b : Nat) (f : Fld) (v : Nat) : (s.put b f v).crossing = s.crossing := rfl
@[simp] theorem State.put_captures (s : State) (b : Nat) (f : Fld) (v : Nat) : (s.put b f v).captures = s.captures := rfl
@[simp] theorem State.put_slow (s : State) (b : Nat) (f : Fld) (v : Nat) : (s.put b f v).slow = s.slow := rfl
@[simp] theorem State.put_exports (s : State) (b : Nat) (f : Fld) (v : Nat) : (s.put b f v).exports = s.exports := rfl
@[simp] theorem State.put_capRings (s : State) (b : Nat) (f : Fld) (v : Nat) : (s.put b f v).capRings = s.capRings := rfl
@[simp] theorem State.put_exportSeqs (s : State) (b : Nat) (f : Fld) (v : Nat) : (s.put b f v).exportSeqs = s.exportSeqs := rfl
@[simp] theorem State.put_capCounts (s : State) (b : Nat) (f : Fld) (v : Nat) : (s.put b f v).capCounts = s.capCounts := rfl
@[simp] theorem State.put_slowBuckets (s : State) (b : Nat) (f : Fld) (v : Nat) : (s.put b f v).slowBuckets = s.slowBuckets := rfl
@[simp] theorem State.put_sgates (s : State) (b : Nat) (f : Fld) (v : Nat) : (s.put b f v).sgates = s.sgates := rfl
@[simp] theorem State.put_meters (s : State) (b : Nat) (f : Fld) (v : Nat) : (s.put b f v).meters = s.meters := rfl
@[simp] theorem State.put_batch (s : State) (b : Nat) (f : Fld) (v : Nat) : (s.put b f v).batch = s.batch := rfl
@[simp] theorem State.put_update (s : State) (b : Nat) (f : Fld) (v : Nat) : (s.put b f v).update = s.update := rfl
@[simp] theorem State.put_recs (s : State) (b : Nat) (f : Fld) (v : Nat) : (s.put b f v).recs = s.recs := rfl
@[simp] theorem State.put_rings (s : State) (b : Nat) (f : Fld) (v : Nat) : (s.put b f v).rings = s.rings := rfl
@[simp] theorem State.put_xp (s : State) (b : Nat) (f : Fld) (v : Nat) : (s.put b f v).xp = s.xp := rfl
@[simp] theorem State.put_channels (s : State) (b : Nat) (f : Fld) (v : Nat) : (s.put b f v).channels = s.channels := rfl
@[simp] theorem State.put_lastStart (s : State) (b : Nat) (f : Fld) (v : Nat) : (s.put b f v).lastStart = s.lastStart := rfl
@[simp] theorem State.put_drains (s : State) (b : Nat) (f : Fld) (v : Nat) : (s.put b f v).drains = s.drains := rfl
@[simp] theorem State.put_mram (s : State) (b : Nat) (f : Fld) (v : Nat) : (s.put b f v).mram = s.mram := rfl
@[simp] theorem State.put_boot (s : State) (b : Nat) (f : Fld) (v : Nat) : (s.put b f v).boot = s.boot := rfl
@[simp] theorem State.put_firmware (s : State) (b : Nat) (f : Fld) (v : Nat) : (s.put b f v).firmware = s.firmware := rfl
@[simp] theorem State.put_tests (s : State) (b : Nat) (f : Fld) (v : Nat) : (s.put b f v).tests = s.tests := rfl
@[simp] theorem State.put_power (s : State) (b : Nat) (f : Fld) (v : Nat) : (s.put b f v).power = s.power := rfl
@[simp] theorem State.put_contacts (s : State) (b : Nat) (f : Fld) (v : Nat) : (s.put b f v).contacts = s.contacts := rfl
@[simp] theorem State.put_saved (s : State) (b : Nat) (f : Fld) (v : Nat) : (s.put b f v).saved = s.saved := rfl
@[simp] theorem State.put_undef (s : State) (b : Nat) (f : Fld) (v : Nat) : (s.put b f v).undef = s.undef := rfl
@[simp] theorem State.put_out (s : State) (b : Nat) (f : Fld) (v : Nat) : (s.put b f v).out = s.out := rfl
@[simp] theorem State.put_free (s : State) (b : Nat) (f : Fld) (v : Nat) : (s.put b f v).free = s.free := rfl
@[simp] theorem State.put_pending (s : State) (b : Nat) (f : Fld) (v : Nat) : (s.put b f v).pending = s.pending := rfl

@[simp] theorem State.fresh_words (s : State) : s.fresh.2.words = s.words := rfl
@[simp] theorem State.fresh_mem (s : State) : s.fresh.2.mem = s.mem := rfl
@[simp] theorem State.fresh_time (s : State) : s.fresh.2.time = s.time := rfl
@[simp] theorem State.fresh_arms (s : State) : s.fresh.2.arms = s.arms := rfl
@[simp] theorem State.fresh_sync (s : State) : s.fresh.2.sync = s.sync := rfl
@[simp] theorem State.fresh_journal (s : State) : s.fresh.2.journal = s.journal := rfl
@[simp] theorem State.fresh_image (s : State) : s.fresh.2.image = s.image := rfl
@[simp] theorem State.fresh_board (s : State) : s.fresh.2.board = s.board := rfl
@[simp] theorem State.fresh_pair (s : State) : s.fresh.2.pair = s.pair := rfl
@[simp] theorem State.fresh_testFails (s : State) : s.fresh.2.testFails = s.testFails := rfl
@[simp] theorem State.fresh_scenes (s : State) : s.fresh.2.scenes = s.scenes := rfl
@[simp] theorem State.fresh_held (s : State) : s.fresh.2.held = s.held := rfl
@[simp] theorem State.fresh_launches (s : State) : s.fresh.2.launches = s.launches := rfl
@[simp] theorem State.fresh_feeds (s : State) : s.fresh.2.feeds = s.feeds := rfl
@[simp] theorem State.fresh_sources (s : State) : s.fresh.2.sources = s.sources := rfl
@[simp] theorem State.fresh_queues (s : State) : s.fresh.2.queues = s.queues := rfl
@[simp] theorem State.fresh_flows (s : State) : s.fresh.2.flows = s.flows := rfl
@[simp] theorem State.fresh_wires (s : State) : s.fresh.2.wires = s.wires := rfl
@[simp] theorem State.fresh_credits (s : State) : s.fresh.2.credits = s.credits := rfl
@[simp] theorem State.fresh_gates (s : State) : s.fresh.2.gates = s.gates := rfl
@[simp] theorem State.fresh_merges (s : State) : s.fresh.2.merges = s.merges := rfl
@[simp] theorem State.fresh_everServed (s : State) : s.fresh.2.everServed = s.everServed := rfl
@[simp] theorem State.fresh_cells (s : State) : s.fresh.2.cells = s.cells := rfl
@[simp] theorem State.fresh_drifts (s : State) : s.fresh.2.drifts = s.drifts := rfl
@[simp] theorem State.fresh_markSecond (s : State) : s.fresh.2.markSecond = s.markSecond := rfl
@[simp] theorem State.fresh_windows (s : State) : s.fresh.2.windows = s.windows := rfl
@[simp] theorem State.fresh_evcs (s : State) : s.fresh.2.evcs = s.evcs := rfl
@[simp] theorem State.fresh_samplers (s : State) : s.fresh.2.samplers = s.samplers := rfl
@[simp] theorem State.fresh_lsBuf (s : State) : s.fresh.2.lsBuf = s.lsBuf := rfl
@[simp] theorem State.fresh_qsBuf (s : State) : s.fresh.2.qsBuf = s.qsBuf := rfl
@[simp] theorem State.fresh_injectors (s : State) : s.fresh.2.injectors = s.injectors := rfl
@[simp] theorem State.fresh_digests (s : State) : s.fresh.2.digests = s.digests := rfl
@[simp] theorem State.fresh_recirc (s : State) : s.fresh.2.recirc = s.recirc := rfl
@[simp] theorem State.fresh_crossing (s : State) : s.fresh.2.crossing = s.crossing := rfl
@[simp] theorem State.fresh_captures (s : State) : s.fresh.2.captures = s.captures := rfl
@[simp] theorem State.fresh_slow (s : State) : s.fresh.2.slow = s.slow := rfl
@[simp] theorem State.fresh_exports (s : State) : s.fresh.2.exports = s.exports := rfl
@[simp] theorem State.fresh_capRings (s : State) : s.fresh.2.capRings = s.capRings := rfl
@[simp] theorem State.fresh_exportSeqs (s : State) : s.fresh.2.exportSeqs = s.exportSeqs := rfl
@[simp] theorem State.fresh_capCounts (s : State) : s.fresh.2.capCounts = s.capCounts := rfl
@[simp] theorem State.fresh_slowBuckets (s : State) : s.fresh.2.slowBuckets = s.slowBuckets := rfl
@[simp] theorem State.fresh_sgates (s : State) : s.fresh.2.sgates = s.sgates := rfl
@[simp] theorem State.fresh_meters (s : State) : s.fresh.2.meters = s.meters := rfl
@[simp] theorem State.fresh_batch (s : State) : s.fresh.2.batch = s.batch := rfl
@[simp] theorem State.fresh_update (s : State) : s.fresh.2.update = s.update := rfl
@[simp] theorem State.fresh_recs (s : State) : s.fresh.2.recs = s.recs := rfl
@[simp] theorem State.fresh_rings (s : State) : s.fresh.2.rings = s.rings := rfl
@[simp] theorem State.fresh_xp (s : State) : s.fresh.2.xp = s.xp := rfl
@[simp] theorem State.fresh_channels (s : State) : s.fresh.2.channels = s.channels := rfl
@[simp] theorem State.fresh_lastStart (s : State) : s.fresh.2.lastStart = s.lastStart := rfl
@[simp] theorem State.fresh_drains (s : State) : s.fresh.2.drains = s.drains := rfl
@[simp] theorem State.fresh_mram (s : State) : s.fresh.2.mram = s.mram := rfl
@[simp] theorem State.fresh_boot (s : State) : s.fresh.2.boot = s.boot := rfl
@[simp] theorem State.fresh_firmware (s : State) : s.fresh.2.firmware = s.firmware := rfl
@[simp] theorem State.fresh_tests (s : State) : s.fresh.2.tests = s.tests := rfl
@[simp] theorem State.fresh_power (s : State) : s.fresh.2.power = s.power := rfl
@[simp] theorem State.fresh_contacts (s : State) : s.fresh.2.contacts = s.contacts := rfl
@[simp] theorem State.fresh_saved (s : State) : s.fresh.2.saved = s.saved := rfl
@[simp] theorem State.fresh_undef (s : State) : s.fresh.2.undef = s.undef := rfl
@[simp] theorem State.fresh_out (s : State) : s.fresh.2.out = s.out := rfl
@[simp] theorem State.fresh_pending (s : State) : s.fresh.2.pending = s.pending := rfl

/-! ## Register words and fields -/

@[simp] theorem State.word_setWord_same (s : State) (a : Nat) (v : Word) : (s.setWord a v).word a = v := by
  simp [State.word, State.setWord]

theorem State.word_setWord_other (s : State) {a b : Nat} (v : Word) (h : b ≠ a) :
    (s.setWord a v).word b = s.word b := SMap.get_set_other _ _ v h _

/-- A word after a write, at any key. -/
theorem State.word_setWord (s : State) (a b : Nat) (v : Word) :
    (s.setWord a v).word b = if b = a then v else s.word b := by
  by_cases h : b = a
  · subst h; simp
  · simp [h, State.word_setWord_other]

/-- Bit `i` of a field read. -/
theorem testBit_bitsOf (w hi lo i : Nat) : (bitsOf w hi lo).testBit i = (decide (i < hi + 1 - lo) && w.testBit (i + lo)) := by
  simp [bitsOf, Nat.testBit_mod_two_pow, Nat.testBit_div_two_pow]

/-- Bit `i` of a word of which a field was replaced. -/
theorem testBit_withBits (w hi lo v i : Nat) (h : lo ≤ hi) :
    (withBits w hi lo v).testBit i = if lo ≤ i ∧ i ≤ hi then v.testBit (i - lo) else w.testBit i := by
  have e : (2 : Nat) ^ (hi + 1 - lo) * 2 ^ lo = 2 ^ (hi + 1) := by rw [← Nat.pow_add]; congr 1; omega
  have l : w % 2 ^ lo < 2 ^ lo := Nat.mod_lt _ (Nat.two_pow_pos lo)
  have m : 2 ^ lo * (v % 2 ^ (hi + 1 - lo)) + w % 2 ^ lo < 2 ^ (hi + 1) := by
    have : v % 2 ^ (hi + 1 - lo) < 2 ^ (hi + 1 - lo) := Nat.mod_lt _ (Nat.two_pow_pos _)
    calc 2 ^ lo * (v % 2 ^ (hi + 1 - lo)) + w % 2 ^ lo
        < 2 ^ lo * (v % 2 ^ (hi + 1 - lo) + 1) := by rw [Nat.mul_add]; omega
      _ ≤ 2 ^ lo * 2 ^ (hi + 1 - lo) := Nat.mul_le_mul_left _ this
      _ = 2 ^ (hi + 1) := by rw [Nat.mul_comm, e]
  unfold withBits
  rw [show w / 2 ^ (hi + 1) * 2 ^ (hi + 1) + v % 2 ^ (hi + 1 - lo) * 2 ^ lo + w % 2 ^ lo
    = 2 ^ (hi + 1) * (w / 2 ^ (hi + 1)) + (2 ^ lo * (v % 2 ^ (hi + 1 - lo)) + w % 2 ^ lo) by
      rw [Nat.mul_comm (w / _), Nat.mul_comm (v % _), Nat.add_assoc]]
  rw [Nat.testBit_two_pow_mul_add _ m, Nat.testBit_two_pow_mul_add _ l]
  simp only [Nat.testBit_mod_two_pow, Nat.testBit_div_two_pow]
  by_cases a : i < lo
  · have : i < hi + 1 := by omega
    have b : ¬ (lo ≤ i ∧ i ≤ hi) := by omega
    rw [if_pos this, if_pos a, if_neg b]; simp [a]
  · by_cases b : i ≤ hi
    · have : i < hi + 1 := by omega
      have c : i - lo < hi + 1 - lo := by omega
      have d : lo ≤ i := by omega
      simp [this, a, b, c, d]
    · have : ¬ i < hi + 1 := by omega
      have c : i - (hi + 1) + (hi + 1) = i := by omega
      simp [this, b, c]

/-- A field written reads back, cut to its width. -/
theorem bitsOf_withBits (w hi lo v : Nat) (h : lo ≤ hi) : bitsOf (withBits w hi lo v) hi lo = v % 2 ^ (hi + 1 - lo) := by
  apply Nat.eq_of_testBit_eq
  intro i
  rw [testBit_bitsOf, testBit_withBits _ _ _ _ _ h, Nat.testBit_mod_two_pow]
  by_cases a : i < hi + 1 - lo
  · have : lo ≤ i + lo ∧ i + lo ≤ hi := by omega
    simp [a, this]
  · simp [a]

/-- A field written leaves a field apart from it as it was. -/
theorem bitsOf_withBits_apart (w hi lo v : Nat) {hi' lo' : Nat} (h : lo ≤ hi) (d : hi' < lo ∨ hi < lo') :
    bitsOf (withBits w hi lo v) hi' lo' = bitsOf w hi' lo' := by
  apply Nat.eq_of_testBit_eq
  intro i
  rw [testBit_bitsOf, testBit_bitsOf, testBit_withBits _ _ _ _ _ h]
  by_cases a : i < hi' + 1 - lo'
  · have : ¬ (lo ≤ i + lo' ∧ i + lo' ≤ hi) := by omega
    simp [a, this]
  · simp [a]

/-- A word stays a 64-bit number when one of its fields is replaced. -/
theorem withBits_lt (w hi lo v : Nat) (h : lo ≤ hi) (t : hi < 64) (l : w < 2 ^ 64) : withBits w hi lo v < 2 ^ 64 := by
  apply Nat.lt_pow_two_of_testBit
  intro i hi'
  rw [testBit_withBits _ _ _ _ _ h, if_neg (by omega)]
  exact Nat.testBit_lt_two_pow (Nat.lt_of_lt_of_le l (Nat.pow_le_pow_right (by decide) hi'))

/-- The bits of a field lie in a 64-bit word. -/
abbrev Fld.ok (f : Fld) : Prop := f.lo ≤ f.hi ∧ f.hi < 64

/-- Two fields of one register group share no bit. -/
abbrev Fld.apart (f g : Fld) : Prop := f.off ≠ g.off ∨ g.hi < f.lo ∨ f.hi < g.lo

theorem State.word_put_same (s : State) (b : Nat) (f : Fld) (v : Nat) (h : f.ok) :
    ((s.put b f v).word (b + f.off)).toNat = withBits (s.word (b + f.off)).toNat f.hi f.lo v := by
  simp only [State.put, State.word_setWord_same, BitVec.toNat_ofNat]
  exact Nat.mod_eq_of_lt (withBits_lt _ _ _ _ h.1 h.2 (BitVec.isLt _))

theorem State.word_put_other (s : State) {b a : Nat} {f : Fld} (v : Nat) (h : a ≠ b + f.off) :
    (s.put b f v).word a = s.word a := State.word_setWord_other _ _ h

/-- A field written reads back, cut to its width. -/
theorem State.get_put_same (s : State) (b : Nat) (f : Fld) (v : Nat) (h : f.ok) :
    (s.put b f v).get b f = v % 2 ^ (f.hi + 1 - f.lo) := by
  unfold State.get
  rw [State.word_put_same _ _ _ _ h, bitsOf_withBits _ _ _ _ h.1]

/-- A field written leaves the fields apart from it in its group as they were. -/
theorem State.get_put_apart (s : State) (b : Nat) {f g : Fld} (v : Nat) (h : f.ok) (d : f.apart g) :
    (s.put b f v).get b g = s.get b g := by
  unfold State.get
  by_cases e : f.off = g.off
  · rw [← e, State.word_put_same _ _ _ _ h, bitsOf_withBits_apart _ _ _ _ h.1]
    rcases d with d | d | d
    · exact absurd e d
    · exact .inl d
    · exact .inr d
  · rw [State.word_put_other _ _ (by omega)]

/-- A field written leaves every field of another word as it was. -/
theorem State.get_put_other (s : State) {b c : Nat} {f g : Fld} (v : Nat) (h : c + g.off ≠ b + f.off) :
    (s.put b f v).get c g = s.get c g := by
  unfold State.get
  rw [State.word_put_other _ _ h]

/-- Only the word that holds the field is written, and only its bits. -/
theorem State.onlyField_put (s : State) (b : Nat) (f : Fld) (v : Nat) (h : f.ok) : onlyField b f s (s.put b f v) := by
  refine ⟨fun a ha => State.word_put_other s v ha, fun i hi d => ?_⟩
  rw [BitVec.getLsbD, BitVec.getLsbD, State.word_put_same _ _ _ _ h, testBit_withBits _ _ _ _ _ h.1, if_neg (by omega)]

@[simp] theorem State.word_emit (s : State) (o : Output) (a : Nat) : (s.emit o).word a = s.word a := rfl

@[simp] theorem State.word_writeByte (s : State) (a : Nat) (v : Byte) (b : Nat) : (s.writeByte a v).word b = s.word b := rfl

/-- Clearing registers puts every word chosen back to its Reset column and leaves the others. -/
theorem State.word_clearWords (s : State) (p : Nat → Bool) (a : Nat) :
    (s.clearWords p).word a = if p a then resetWord a else s.word a := by
  have key : ∀ m : SMap Word,
      SMap.get (resetWord a) (m.filter (fun e => !p e.1)) a = if p a then resetWord a else SMap.get (resetWord a) m a := by
    intro m
    induction m with
    | nil => simp [SMap.get]
    | cons e t ih =>
      obtain ⟨k, v⟩ := e
      by_cases hk : p k = true
      · simp only [List.filter_cons, hk, Bool.not_true, Bool.false_eq_true, if_false, ih]
        by_cases ha : a = k
        · subst ha; simp [hk]
        · simp [SMap.get, ha]
      · simp only [List.filter_cons, hk, Bool.not_false, if_true, SMap.get]
        by_cases ha : a = k
        · subst ha; simp [hk]
        · simpa [ha] using ih
  exact key s.words

end Sys2Proof.Machine
end

