-- ==== Sys2Proof/Laws/Memory.lean ====
section
/-!
SUPPORT. The laws of memory: a read after a write, the bytes a store leaves alone, and that every memory operation keeps
the canonical form of memory and of the register words.
-/

namespace Sys2Proof.Machine

/-! ## Reads after writes -/

theorem State.unlisted_writeByte (s : State) (a : Nat) (v : Byte) (b : Nat) :
    (s.writeByte a v).unlisted b = s.unlisted b := rfl

/-- A byte read after a write, at any address. -/
theorem State.readByte_writeByte (s : State) (a : Nat) (v : Byte) (b : Nat) :
    (s.writeByte a v).readByte b = if b = a then v else s.readByte b := by
  unfold State.readByte
  rw [State.unlisted_writeByte]
  show SMap.get (s.unlisted b) (if s.undefAt a then SMap.insert a v s.mem else SMap.set 0 a v s.mem) b = _
  by_cases h : b = a
  · subst h
    rw [if_pos rfl]
    split
    · exact SMap.get_insert_same _ _ _ _
    · rename_i u
      have e : s.unlisted b = 0 := by
        unfold State.undefAt at u
        unfold State.unlisted
        split
        · rfl
        · rename_i g he; simp [he] at u
      rw [e]; exact SMap.get_set_same _ _ _ _
  · rw [if_neg h]
    split
    · exact SMap.get_insert_other _ _ h _
    · exact SMap.get_set_other _ _ _ h _

/-- A store changes no byte outside the addresses it stores to. -/
theorem State.readByte_setMemBytes_outside (s : State) (a : Nat) (bs : Bytes) (b : Nat)
    (h : b < a ∨ a + bs.length ≤ b) : (s.setMemBytes a bs).readByte b = s.readByte b := by
  induction bs generalizing s a with
  | nil => rfl
  | cons x xs ih =>
    simp only [List.length_cons] at h
    rw [State.setMemBytes, ih _ _ (by omega), State.readByte_writeByte, if_neg (by omega)]

/-- A byte inside a store reads as the byte stored there. -/
theorem State.readByte_setMemBytes_inside (s : State) (a : Nat) (bs : Bytes) (i : Nat) (h : i < bs.length) :
    (s.setMemBytes a bs).readByte (a + i) = bs[i] := by
  induction bs generalizing s a i with
  | nil => simp at h
  | cons x xs ih =>
    cases i with
    | zero =>
      rw [State.setMemBytes, State.readByte_setMemBytes_outside _ _ _ _ (by omega), State.readByte_writeByte]
      simp
    | succ i =>
      have := ih (s.writeByte a x) (a + 1) i (by simpa using h)
      rw [State.setMemBytes, show a + (i + 1) = a + 1 + i by omega, this]
      simp

/-- Bytes stored read back. -/
theorem State.memBytes_setMemBytes (s : State) (a : Nat) (bs : Bytes) :
    (s.setMemBytes a bs).memBytes a bs.length = bs := by
  have key : ∀ (t : State) (a n : Nat) (xs : Bytes), xs.length = n → (∀ i (h : i < xs.length), t.readByte (a + i) = xs[i]) →
      t.memBytes a n = xs := by
    intro t a n
    induction n generalizing a with
    | zero => intro xs hl _; rw [List.length_eq_zero_iff.mp hl]; rfl
    | succ n ih =>
      intro xs hl hb
      cases xs with
      | nil => simp at hl
      | cons x xs =>
        simp only [List.length_cons, Nat.add_right_cancel_iff] at hl
        rw [State.memBytes, ih (a + 1) xs hl]
        · have := hb 0 (by simp)
          simp at this
          rw [this]
        · intro i h
          have := hb (i + 1) (by simpa using h)
          simp at this
          rw [← this]; congr 1; omega
  exact key _ _ _ _ rfl (fun i h => State.readByte_setMemBytes_inside s a bs i h)

/-- A store writes no register. -/
@[simp] theorem State.word_setMemBytes (s : State) (a : Nat) (bs : Bytes) (k : Nat) :
    (s.setMemBytes a bs).word k = s.word k := by
  induction bs generalizing s a with
  | nil => rfl
  | cons x xs ih => rw [State.setMemBytes, ih]; rfl

/-! ## The canonical form -/

theorem State.wf_setWord {s : State} (h : s.wf) (a : Nat) (v : Word) : (s.setWord a v).wf :=
  ⟨SMap.wf_set resetWord a v h.1, h.2⟩

theorem State.wf_put {s : State} (h : s.wf) (b : Nat) (f : Fld) (v : Nat) : (s.put b f v).wf := State.wf_setWord h _ _

theorem State.wf_clearWords {s : State} (h : s.wf) (p : Nat → Bool) : (s.clearWords p).wf :=
  ⟨SMap.wf_filter resetWord _ h.1, h.2⟩

theorem State.wf_writeByte {s : State} (h : s.wf) (a : Nat) (v : Byte) : (s.writeByte a v).wf := by
  refine ⟨h.1, ?_⟩
  show Memory.wf s.undefAt (if s.undefAt a then SMap.insert a v s.mem else SMap.set 0 a v s.mem) = true
  split
  · exact SMap.wfIf_insert _ (by simp_all) h.2
  · unfold SMap.set
    split
    · exact SMap.wfIf_filter _ _ h.2
    · exact SMap.wfIf_insert _ (by simp_all) h.2

theorem State.wf_setMemBytes {s : State} (h : s.wf) (a : Nat) (bs : Bytes) : (s.setMemBytes a bs).wf := by
  induction bs generalizing s a with
  | nil => exact h
  | cons x xs ih => exact ih (State.wf_writeByte h a x) (a + 1)

theorem State.wf_setMemWord {s : State} (h : s.wf) (a w : Nat) : (s.setMemWord a w).wf := State.wf_setMemBytes h _ _

theorem State.wf_setMemWords {s : State} (h : s.wf) (a : Nat) (ws : List Nat) : (s.setMemWords a ws).wf :=
  State.wf_setMemBytes h _ _

theorem State.wf_freeRange {s : State} (h : s.wf) (a n : Nat) : (s.freeRange a n).wf := State.wf_setMemBytes h _ _

/-- A memory that loses its contents lists nothing, and its unlisted bytes are free values from then on. -/
theorem State.wf_loseMemory {s : State} (h : s.wf) (u : Nat) : (s.loseMemory u).wf := by
  refine ⟨h.1, ?_⟩
  refine SMap.wfIf_filter_imp ?_ h.2
  intro k v hk hv
  have e : (s.loseMemory u).undefAt k = s.undefAt k := by
    have : s.memUnit k ≠ u := by simpa using hk
    show (SMap.get 0 (SMap.set 0 u (s.free + 1) s.undef) (s.memUnit k) != 0) = _
    rw [SMap.get_set_other _ _ _ this]; rfl
  rw [e]; exact hv

end Sys2Proof.Machine
end

