-- ==== Sys2Proof/Laws/WfBase.lean ====
section
/-!
SUPPORT. The shapes in which the canonical form passes through a definition.
-/

namespace Sys2Proof.Machine

/-- The canonical form of the parts it speaks of. -/
def Canonical (words : SMap Word) (mem : List Host.Cell) (undef : SMap Nat) (im : Image) : Prop :=
  State.wf { words := words, mem := mem, undef := undef, image := im }

theorem canonical_of {s : State} {im : Image} (h : s.wf) (g : im.ddrG = s.image.ddrG) (c : im.ddrCh = s.image.ddrCh) :
    Canonical s.words s.mem s.undef im := by
  refine ⟨h.1, ?_⟩
  have e : State.undefAt { words := s.words, mem := s.mem, undef := s.undef, image := im } = s.undefAt := by
    funext a
    simp [State.undefAt, State.memUnit, State.ddrChannelOf, State.ddrChannels, g, c]
  rw [e]; exact h.2

/-- The canonical form of a state written out; the kernel keeps both sides folded. -/
theorem wf_mk_eq {w : SMap Word} {m : List Host.Cell} {u : SMap Nat} {im : Image} {x2 : TimeBase} {x3 : SMap (Option Arm)} {x4 : TimeSync} {x5 : Journal} {x7 : Board} {x8 : Pair} {x9 : Nat} {x10 : SMap SceneState} {x11 : List Held} {x12 : List Launch} {x13 : SMap FeedState} {x14 : SMap (Nat × Nat)} {x15 : SMap (List EgFrame)} {x16 : SMap (List EgFrame)} {x17 : SMap Wire} {x18 : SMap Credit} {x19 : SMap GateLists} {x20 : SMap MergeState} {x21 : Bool} {x22 : SMap CellState} {x23 : SMap Drift} {x24 : Nat × Nat} {x25 : SMap (Option Window)} {x26 : SMap EvcState} {x27 : SMap Sampler} {x28 : SMap (List (List Nat))} {x29 : SMap (List (List Nat))} {x30 : SMap Injector} {x31 : SMap Nat} {x32 : SMap (List Recirc)} {x33 : SMap (List Crossing)} {x34 : List CapFrame} {x35 : List CapFrame} {x36 : List CapFrame} {x37 : SMap CapRing} {x38 : SMap Nat} {x39 : SMap Nat} {x40 : SMap (Nat × Nat)} {x41 : SMap SGate} {x42 : SMap Meter} {x43 : List BatchItem} {x44 : Option Update} {x45 : SMap RecState} {x46 : SMap RingState} {x47 : Transport} {x48 : SMap DmaChan} {x49 : SMap Nat} {x50 : List Drain} {x51 : Mram} {x52 : Boot} {x53 : Firmware} {x54 : Tests} {x55 : Power} {x56 : Contacts} {x57 : Saved} {x59 : List Output} {x60 : Nat} {x61 : List Instr}
    : State.wf (State.mk w m x2 x3 x4 x5 im x7 x8 x9 x10 x11 x12 x13 x14 x15 x16 x17 x18 x19 x20 x21 x22 x23 x24 x25 x26 x27 x28 x29 x30 x31 x32 x33 x34 x35 x36 x37 x38 x39 x40 x41 x42 x43 x44 x45 x46 x47 x48 x49 x50 x51 x52 x53 x54 x55 x56 x57 u x59 x60 x61) = Canonical w m u im :=
  propext ⟨fun h => h, fun h => h⟩

theorem ok_of {s : State} {im : Image} (h : s.wf) (g : im.ddrG = s.image.ddrG) (c : im.ddrCh = s.image.ddrCh) :
    Canonical s.words s.mem s.undef im := canonical_of h g c

theorem cutWf {p : Prop} (x : State) (h : x.wf) (k : x.wf → p) : p := k h
theorem cutWf2 {p : Prop} {α : Type} (x : α × State) (h : x.2.wf) (k : x.2.wf → p) : p := k h
theorem snd_wf {α : Type} {p : α × State} {a : α} {t : State} (e : p = (a, t)) (h : p.2.wf) : t.wf := by subst e; exact h
theorem fst_wf {α : Type} {p : State × α} {a : α} {t : State} (e : p = (t, a)) (h : p.1.wf) : t.wf := by subst e; exact h
theorem wf_foldl {α : Type} {f : State → α → State} {l : List α} {s : State} (hf : ∀ s x, s.wf → (f s x).wf) (h : s.wf) :
    (l.foldl f s).wf := by
  induction l generalizing s with
  | nil => exact h
  | cons a l ih => exact ih (hf _ _ h)
theorem wf_foldl2 {α β : Type} {f : β × State → α → β × State} {l : List α} {s : β × State}
    (hf : ∀ s x, s.2.wf → (f s x).2.wf) (h : s.2.wf) : (l.foldl f s).2.wf := by
  induction l generalizing s with
  | nil => exact h
  | cons a l ih => exact ih (hf _ _ h)

end Sys2Proof.Machine
end

