-- ==== Sys2Proof/WellFormed.lean ====
section
/-!
DEFINITION. Which commands are well formed: every operand lies in the range that its field or its kind of object has
(spec/00_scope.md, "Names of the module's parts"; R8, R311, R448). A well-formed command may still name an object that the
image does not build; its meaning then says what happens.
-/

namespace Sys2Proof

/-- A 64-bit word. -/
def isWord (n : Nat) : Bool := decide (n < 2 ^ 64)

/-- A device address: 44 bits (R448). -/
def isAddr (n : Nat) : Bool := decide (n < 2 ^ 44)

/-- A time input: a port by its lane, or a control lane. -/
def isInput (n : Nat) : Bool := decide (n < 512) || n == 0x200 || n == 0x201

/-- A signed byte. -/
def isInt8 (n : Int) : Bool := decide (-128 ≤ n) && decide (n < 128)

/-- Every operand is in its range. -/
def Instr.wf : Instr → Bool
  | .registerWrite q a w => decide (q < 14) && isAddr a && isWord w
  | .rwpValueWrite q a v => decide (q < 14) && isAddr a && isWord v
  | .rwpComplementWrite q a v => decide (q < 14) && isAddr a && isWord v
  | .rwpArmExpiry a => isAddr a
  | .dieLinkFlitReceive n k _ _ => decide (n < 8) && decide (k < 2)
  | .rootPllLoss => true
  | .timeBaseTick _ => true
  | .sliceTimeCompare n _ => decide (n < 8)
  | .sliceTimeReload n => decide (n < 8)
  | .tbAddendCommit v => isWord v
  | .tbRoleWrite role => decide (role < 8)
  | .syncReceive i domain seq _ _ _ _ log =>
    isInput i && decide (domain < 256) && decide (seq < 65536) && isInt8 log
  | .ppsInEdge _ => true
  | .holdoverTimeout => true
  | .stepAuth seq => isWord seq
  | .stepApply => true
  | .ppsOutPulse => true
  | .pdelayMeasurement l seq _ _ _ _ => decide (l < 512) && decide (seq < 65536)
  | .suspectEnd i => isInput i
  | .delayReqSend i => isInput i
  | .delayRespReceive i seq _ _ log => isInput i && decide (seq < 65536) && isInt8 log
  | .tpArm p => decide (p < 16)
  | .tpDisarm p => decide (p < 16)
  | .tpOutputCompare p => decide (p < 16)
  | .tpCaptureEdge p _ => decide (p < 16)
  | .tpCapSecRead p => decide (p < 16)
  | .tbNowSecRead => true
  | .scNowSecRead c => decide (c < 2048)
  | .tbSetGo => true
  | .flushPd i => isInput i
  | .clearFaulty i => isInput i
  | .physSyncSend l => decide (l < 512)
  | .announceReceive i domain prio1 quality prio2 gm steps _ =>
    isInput i && decide (domain < 256) && decide (prio1 < 256) && decide (quality < 4294967296)
      && decide (prio2 < 256) && isWord gm && decide (steps < 65536)
  | .push c kind tag => decide (c < 2048) && decide (kind < 8) && decide (tag < 65536)
  | .flush c tag => decide (c < 2048) && decide (tag < 65536)
  | .segNop c tag => decide (c < 2048) && decide (tag < 65536)
  | .segmentSwitch c => decide (c < 2048)
  | .scCellEnable c _ => decide (c < 2048)
  | .frameConversion x q => decide (x < 262144) && isWord q
  | .sceneSyncSend c l => decide (c < 2048) && decide (l < 512)
  | .sceneAnnounceSend c l => decide (c < 2048) && decide (l < 512)
  | .envelopeFrame l _ => decide (l < 512)
  | .envelopeHeartbeat l _ => decide (l < 512)
  | .envelopeEndOfStream l _ => decide (l < 512)
  | .envelopeGrantRequest l _ => decide (l < 512)
  | .grantAnswerSend x => decide (x < 262144)
  | .sourceTimeout n i => decide (n < 8) && decide (i < 512)
  | .grantPeriod n i => decide (n < 8) && decide (i < 512)
  | .grantEventSend n i => decide (n < 8) && decide (i < 512)
  | .lateTest x => decide (x < 262144)
  | .holdLimitExpiry x => decide (x < 262144)
  | .hmFeedRead => true
  | .hmFeedWrite => true
  | .clearCounts => true
  | .resetHold => true
  | .launchStage l => decide (l < 512)
  | .shadowOpen l => decide (l < 512)
  | .launch l => decide (l < 512)
  | .transmitComplete l => decide (l < 512)
  | .lnRwRead n => decide (n < 8)
  | .lnRwWrite n => decide (n < 8)
  | .configChange l tag => decide (l < 512) && decide (tag < 65536)
  | .cancel l tag => decide (l < 512) && decide (tag < 65536)
  | .gcCmdNop l tag => decide (l < 512) && decide (tag < 65536)
  | .configChangeTime l => decide (l < 512)
  | .gateEntryStart l _ => decide (l < 512)
  | .gateEnWrite l _ => decide (l < 512)
  | .gcListDataRead l => decide (l < 512)
  | .egressEnqueue n => decide (n < 8)
  | .transmitSelect l => decide (l < 512)
  | .preempt l => decide (l < 512)
  | .algoApply l k => decide (l < 512) && decide (k < 8)
  | .verifySend l => decide (l < 512)
  | .verifyFrameReceive l _ => decide (l < 512)
  | .restartVerify l => decide (l < 512)
  | .lldpSend l => decide (l < 512)
  | .lldpReceive l _ => decide (l < 512)
  | .lldpTtlExpiry l => decide (l < 512)
  | .fragmentReceive l smd count frag _ =>
    decide (l < 512) && decide (smd < 8) && decide (count < 4) && decide (frag < 4)
  | .queueSample l => decide (l < 512)
  | .commit c tag => decide (c < 2048) && decide (tag < 65536)
  | .clMxCancel c tag => decide (c < 2048) && decide (tag < 65536)
  | .clMxNop c tag => decide (c < 2048) && decide (tag < 65536)
  | .matrixChangeEffective c => decide (c < 2048)
  | .clCellEnable c _ => decide (c < 2048)
  | .matrixCycleStart c => decide (c < 2048)
  | .coldstartForward c => decide (c < 2048)
  | .substitution c ch cyc win => decide (c < 2048) && decide (ch < 2) && decide (cyc < 64) && decide (win < 256)
  | .cycleMark c m => decide (c < 2048) && decide (m < 16)
  | .clMarkCfgWrite n w => decide (n < 8) && isWord w
  | .clNodeCfgWrite n w => decide (n < 8) && isWord w
  | .clMxW1Read n => decide (n < 8)
  | .ingressFrame l _ _ _ => decide (l < 512)
  | .recircPass n p => decide (n < 8) && decide (p < 8)
  | .slowPathRecord => true
  | .cfRead n => decide (n < 8)
  | .add n => decide (n < 8)
  | .remove n => decide (n < 8)
  | .commitEpoch n => decide (n < 8)
  | .clearHits n => decide (n < 8)
  | .epochRetire n => decide (n < 8)
  | .stNop n tag => decide (n < 8) && decide (tag < 65536)
  | .stRead n tag => decide (n < 8) && decide (tag < 65536)
  | .stage n tag => decide (n < 8) && decide (tag < 65536)
  | .stCommit n tag => decide (n < 8) && decide (tag < 65536)
  | .stAbort n tag => decide (n < 8) && decide (tag < 65536)
  | .readCounts n tag => decide (n < 8) && decide (tag < 65536)
  | .unblock n tag => decide (n < 8) && decide (tag < 65536)
  | .batchApply n => decide (n < 8)
  | .lateApply n => decide (n < 8)
  | .stGrpRead n => decide (n < 8)
  | .stGrpStage n => decide (n < 8)
  | .sgConfigChange n g tag => decide (n < 8) && decide (g < 65536) && decide (tag < 65536)
  | .sgCancel n g tag => decide (n < 8) && decide (g < 65536) && decide (tag < 65536)
  | .sgClear n g tag => decide (n < 8) && decide (g < 65536) && decide (tag < 65536)
  | .sgNop n g tag => decide (n < 8) && decide (g < 65536) && decide (tag < 65536)
  | .sgConfigChangeTime n g => decide (n < 8) && decide (g < 65536)
  | .sgEntryStart n g => decide (n < 8) && decide (g < 65536)
  | .sgDataRead n => decide (n < 8)
  | .fmRead n => decide (n < 8)
  | .fmWrite n => decide (n < 8)
  | .clearRed n => decide (n < 8)
  | .frGenRead n => decide (n < 8)
  | .frGenWrite n => decide (n < 8)
  | .frGenReset n => decide (n < 8)
  | .frRecRead n => decide (n < 8)
  | .frRecWrite n => decide (n < 8)
  | .frRecReset n => decide (n < 8)
  | .frRecClearCounts n => decide (n < 8)
  | .recoveryResetTimer n i => decide (n < 8) && decide (i < 65536)
  | .latentErrorTest n i => decide (n < 8) && decide (i < 65536)
  | .latentBaseReset n i => decide (n < 8) && decide (i < 65536)
  | .heartbeatSend => true
  | .heartbeatReceive k _ => decide (k < 2)
  | .pairLinkTimeout k => decide (k < 2)
  | .pairWaitExpiry => true
  | .handover => true
  | .stateMessageSend type _ => decide (type < 256)
  | .stateMessageResend => true
  | .stateMessageReceive k _ => decide (k < 2)
  | .resync => true
  | .digestClose => true
  | .captureRecordWrite limit => decide (limit < 3)
  | .captureExport => true
  | .journalReport src code kind object detail =>
    decide (src < 256) && decide (code < 65536) && decide (kind < 256) && isWord object && isWord detail
  | .coalescerFlush src => decide (src < 256)
  | .eventSend => true
  | .eventResend => true
  | .ack q c seq => decide (q < 8) && decide (c < 8) && decide (seq < 4294967296)
  | .datagramReceive d => decide (d.lane < 2)
  | .controlLaneLoss k => decide (k < 2)
  | .readWord q a => decide (q < 8) && isAddr a
  | .writeWord q a v => decide (q < 8) && isAddr a && isWord v
  | .writePair q a v => decide (q < 8) && isAddr a && isWord v
  | .rmw q a mask v => decide (q < 8) && isAddr a && isWord mask && isWord v
  | .blockRead q a n => decide (q < 8) && isAddr a && decide (n < 65536)
  | .blockWrite q a ws => decide (q < 8) && isAddr a && ws.all isWord
  | .ringPush q r ws => decide (q < 8) && decide (r < 256) && ws.all isWord
  | .head q r n => decide (q < 8) && decide (r < 256) && decide (n < 65536)
  | .hello q flags st => decide (q < 8) && decide (flags < 65536) && decide (st < 4294967296)
  | .key q k => decide (q < 8) && decide (k.length = 32)
  | .start r => decide (r < 256)
  | .stop r => decide (r < 256)
  | .resume r => decide (r < 256)
  | .skip r => decide (r < 256)
  | .ringReset r => decide (r < 256)
  | .rgProdWrite r v => decide (r < 256) && isWord v
  | .rgConsWrite r v => decide (r < 256) && isWord v
  | .descriptorExecute r => decide (r < 256)
  | .txFrame r => decide (r < 256)
  | .entryComplete r => decide (r < 256)
  | .stallRelease rr => decide (rr < 256)
  | .ringEvent r => decide (r < 256)
  | .dmGo e c q => decide (e < 4) && decide (c < 32) && decide (q < 14)
  | .transferLoad e c => decide (e < 4) && decide (c < 32)
  | .transferStart e => decide (e < 4)
  | .transferComplete e c => decide (e < 4) && decide (c < 32)
  | .frameOut e c => decide (e < 4) && decide (c < 32)
  | .busError e c _ => decide (e < 4) && decide (c < 32)
  | .engineFault e addr _ => decide (e < 4) && isAddr addr
  | .dmEngClear e => decide (e < 4)
  | .clearHalt e c => decide (e < 4) && decide (c < 32)
  | .powerDownRequest kind i => decide (kind < 3) && decide (i < 16)
  | .drainLimitExpiry kind i _ => decide (kind < 3) && decide (i < 16)
  | .snapshot b tag q => decide (b < 16) && decide (tag < 65536) && decide (q < 14)
  | .clearBank b => decide (b < 16)
  | .evcApply n k => decide (n < 8) && decide (k < 64)
  | .bwWindowEnd l => decide (l < 512)
  | .sampleDrain n _ => decide (n < 8)
  | .resetEnd sel _ => decide (sel < 4)
  | .flashReadComplete _ _ => true
  | .verify tag _ => decide (tag < 65536)
  | .load tag _ => decide (tag < 65536)
  | .loadComplete => true
  | .selftestComplete _ => true
  | .calibrateComplete _ lost differ => lost.all (· < 16) && differ.all (· < 16)
  | .secverRaise v => isWord v
  | .anchorRevoke m => isWord m
  | .goService => true
  | .park => true
  | .wake => true
  | .diag => true
  | .exitDiag => true
  | .halt => true
  | .resetModule => true
  | .fence kind n => decide (kind < 2) && decide (n < 16)
  | .fenceDrainComplete n => decide (n < 8)
  | .unfence kind n => decide (kind < 2) && decide (n < 16)
  | .unfenceEffective n => decide (n < 8)
  | .rebuild n => decide (n < 8)
  | .buildComplete n _ => decide (n < 8)
  | .switch => true
  | .rollback => true
  | .fwCoreStartTimeout => true
  | .watchdog => true
  | .tcamScrub _ _ => true
  | .gateScrub _ _ => true
  | .streamCompare _ _ => true
  | .holdPatrol _ _ _ _ => true
  | .complementCheck _ _ => true
  | .amapCheck _ => true
  | .constCheck bad _ => bad.all isAddr
  | .serdesAdapt l _ => decide (l < 512)
  | .oscComp _ _ => true
  | .telemetry _ _ _ _ _ => true
  | .ddrScrub _ bad _ => bad.all isAddr
  | .aging _ _ => true
  | .selftestRotation _ _ => true
  | .request i t tag => decide (i < 256) && decide (t < 256) && decide (tag < 65536)
  | .testCancel ticket tag => decide (ticket < 65536) && decide (tag < 65536)
  | .testItemComplete ticket _ _ => decide (ticket < 65536)
  | .supplyInRange addr => decide (addr < 8)
  | .vinLow _ => true
  | .railFault kind i _ => decide (kind < 4) && decide (i < 16)
  | .vauxOutOfRange => true
  | .domainOff b => decide (b < 16)
  | .domainOn b => decide (b < 16)
  | .capEvaluate _ => true
  | .temperatureRead _ => true
  | .clearFaults => true
  | .statusWord => true
  | .statusTemperature => true
  | .readVin => true
  | .readIin => true
  | .readTemperature1 => true
  | .readPin => true
  | .pmbusRevision => true
  | .mfrId => true
  | .mfrModel => true
  | .pmbusUnsupported => true
  | .injectorArm l k w => decide (l < 512) && decide (k < 4) && isWord w
  | .injectorStart l k => decide (l < 512) && decide (k < 4)
  | .injectorRelease l k => decide (l < 512) && decide (k < 4)
  | .fiTskewWrite l w => decide (l < 512) && isWord w
  | .resetNAssert => true
  | .resetNRelease => true
  | .bypass => true
  | .idcode => true
  | .samplePreload => true
  | .extest => true
  | .clamp => true
  | .highz => true
  | .extestPulse => true
  | .extestTrain => true
  | .portLinkLoss l => decide (l < 512)
  | .portLinkUp l rate => decide (l < 512) && decide (rate < 8)
  | .controlLaneUp k => decide (k < 2)
  | .pdelayReqSend l => decide (l < 512)
  | .physAnnounceSend l => decide (l < 512)
  | .bootPllLockTimeout => true
  | .tapTestLogicReset => true
  | .ddrUnfenceComplete c => decide (c < 16)

end Sys2Proof
end

