-- ==== Sys2Proof/Tests/Slice0.lean ====
section
/-!
SUPPORT. Tests: witnesses that the hypotheses of each statement hold together, ill-formed terms that the check refuses, and
small runs. They are checked one after the other, so that their evaluations do not claim a thread each.
-/

section
set_option Elab.async false

open Sys2Proof Sys2Proof.Machine

/-! ## A small demonstration state -/

/-- Port of four lanes from `l`, which may run cells. -/
def demoPort (l : Nat) : PortRec := ⟨l, 4, 31, false, true, false, 1522, 0, 0x020000000001 + l⟩

/-- A map entry that gives slots 0 to 7 every right over everything. -/
def demoGrant : AmapRec :=
  let w0 := 0xFF * 2 ^ 48 + 0xF * 2 ^ 44
  let w1 := 2 ^ 44 - 1
  ⟨w0, w1, 2 ^ 64 - 1 - w0, 2 ^ 64 - 1 - w1, false⟩

/-- Two slices, one memory channel and three ports. -/
def demoImage : Image :=
  { loaded := true, slices := 3, ddrCh := 1, clocks := 2, ports := [demoPort 0, demoPort 8, demoPort 64],
    amap := [demoGrant] }

/-- The module in mode `m`, powered, with the demonstration image and every link up. -/
def demo (m : Nat) : State :=
  let s : State := { State.reset with image := demoImage, time := { State.reset.time with clk := 5000000000, now := 0x500000000000000000 } }
  let s := (((s.put A.md MD_STATUS_MODE m).put A.pw PW_STATUS_RAILS_GOOD 1).put A.pw PW_STATUS_VAUX_OK 1).put A.pw
    PW_STATUS_VIN_OK 1
  let s := ((s.put (A.lnp 0) LN_PORT_STATUS_LINK_UP 1).put (A.lnp 8) LN_PORT_STATUS_LINK_UP 1).put (A.lnp 64)
    LN_PORT_STATUS_LINK_UP 1
  let s := (s.put (A.lnp 0) LN_PORT_MAXFRAME_BYTES 1522).put (A.lnp 8) LN_PORT_MAXFRAME_BYTES 1522
  let s := ((s.put A.md (MD_SLICE_STATE_STATE 0) 0).put A.md (MD_SLICE_STATE_STATE 1) 0).put A.sy SY_AMAP_LOCK_LOCKED 1
  ((s.put A.sc SC_INFO_CELLS 2).put (A.lnp 0) LN_PORT_TIMING_LANES 4).put (A.lnp 0) LN_PORT_TIMING_LANE_RATE 5

/-! ## Witnesses: the hypotheses of each statement hold together -/

theorem witness_EmptyQueueIdles : State.reset.pending = [] := by decide +kernel

theorem witness_EveryStepKeepsCanonicalForm : State.reset.wf ∧ ∃ t, step State.reset = .next t := ⟨⟨by decide +kernel, by decide +kernel⟩, _, rfl⟩

theorem witness_RegisterWriteFollowsAccessCodes :
    (∃ f, (demo 6).registerTurn A.xp = true ∧ findReg A.xp = some f ∧ f.reg.rwp = 0 ∧ pairBelow A.xp = none ∧
      (demo 6).exists? f = true ∧ f.reg.inRange f.reg.rst = true ∧ sliceOfAddr A.xp = none ∧ spanOf A.xp = some 0x20) ∧
    (∃ f, (demo 6).registerTurn (A.fd 1) = true ∧ findReg (A.fd 1) = some f ∧ f.reg.rwp = 0 ∧ pairBelow (A.fd 1) = none ∧
      (demo 6).exists? f = true ∧ f.reg.inRange f.reg.rst = true ∧ sliceOfAddr (A.fd 1) = some 1 ∧
      A.fd 1 / 0x100000 % 16 = 11) :=
  ⟨⟨_, by decide +kernel, rfl, by decide +kernel⟩, ⟨_, by decide +kernel, rfl, by decide +kernel⟩⟩

/-- PW_CAP, armed by requester 3 with 700 W one nanosecond ago. -/
def demoArmed : State := (demo 6).setArm 0x3000008 (some ⟨700, 3, 4999999999⟩)

theorem witness_PairIsArmedAndCommitted :
    (demo 6).registerTurn 0x3000008 = true ∧ (∃ f, pairAt 0x3000008 = some f ∧ (demo 6).exists? f = true) ∧
    (∃ f x, demoArmed.registerTurn (0x3000008 + 8) = true ∧ findReg (0x3000008 + 8) = none ∧ pairAt 0x3000008 = some f ∧
      demoArmed.arm 0x3000008 = some x ∧ demoArmed.exists? f = true ∧ demoArmed.since x.since ≤ armTicks ∧ x.requester = 3 ∧
      (2 ^ 64 - 1 - 700) % 2 ^ 64 + x.value = 2 ^ 64 - 1 ∧ f.reg.inRange x.value = true ∧ sliceOfAddr 0x3000008 = none ∧
      (f.kind = .scCell → (0x3000008 - A.scc 0) % 0x800 ≠ 0xA0) ∧
      0x3000008 ∉ [A.tb + 0x40, A.tb + 0x90, A.sy + 0x40, A.sy + 0x58]) :=
  ⟨by decide +kernel, ⟨_, rfl, by decide +kernel⟩, ⟨_, _, by decide +kernel, by decide +kernel, rfl, rfl, by decide +kernel⟩⟩

theorem witness_PairIsRejected :
    (demo 6).arm 0x3000008 = none ∧
    (∃ x, demoArmed.arm 0x3000008 = some x ∧ demoArmed.since x.since ≤ armTicks ∧ x.requester ≠ 4) ∧
    (∃ x, demoArmed.arm 0x3000008 = some x ∧ 5 % 2 ^ 64 + x.value ≠ 2 ^ 64 - 1) ∧
    (∃ x, ((demo 6).setArm 0x3000008 (some ⟨700, 3, 4999000000⟩)).arm 0x3000008 = some x ∧ armTicks ≤ (demo 6).since x.since) :=
  ⟨by decide +kernel, ⟨_, rfl, by decide +kernel⟩, ⟨_, rfl, by decide +kernel⟩, ⟨_, rfl, by decide +kernel⟩⟩

theorem witness_ClockAndLinkEvents :
    ((demo 6).isSlice 1 = true ∧ ((demo 6).put (A.sd 1) SD_LINK_CT_UP 1).on (A.sd 1) SD_LINK_CT_UP = true) ∧
    ((demo 6).mode ≠ 0 ∧ (demo 6).mode ≠ 11) ∧ 0 ∉ (demo 6).sync.reloading ∧
    1 ∈ ({ demo 6 with sync := { (demo 6).sync with reloading := [1] } } : State).sync.reloading := by decide +kernel

theorem witness_TimeBaseAdvances :
    (demo 6).mode ≠ 0 ∧ (demo 6).mode ≠ 11 ∧ (demo 6).sync.setPending = none ∧ (demo 6).fwState ≠ 2 ∧ (demo 6).fwState ≠ 4 ∧
    (demo 6).get A.tb TB_CTRL_ROLE = (demo 6).sync.role ∧
    (∀ p ∈ (demo 6).image.ports, ((demo 6).gateLists p.lane).enabled = (demo 6).on (A.gcp p.lane) GC_PORT_CTRL_GATE_EN) := by
  decide +kernel

/-- A unit whose port 0 takes Sync, follows a lost input, and has a step pending and armed. -/
def demoTime : State :=
  let s := ((demo 5).put (A.tbp 0) TB_PORT_CTRL_PTP1588_EN 1).put A.tb TB_PPS_CTRL_IN_EN 1
  let s := ((s.put A.tb TB_STATUS_STATE 2).put A.tb TB_CTRL_HOLDOVER_SYNCS 1).showStep true true
  { s.put A.tb TB_PPS_CTRL_OUT_EN 1 with sync := { s.sync with ppsSec := some 3 } }

theorem witness_SyncGivesOffset :
    (demoTime.takesSync 0 = true ∧ demoTime.sync.stepClk = none ∧ demoTime.rxSkew 0 false = 0) ∧
    (demoTime.on A.tb TB_PPS_CTRL_IN_EN = true ∧ demoTime.sync.secondsKnown = false) ∧ demoTime.servoState = 2 ∧
    (let i := demoTime.get A.tb TB_LAST_SEQ_INPUT
     demoTime.get A.tb TB_CTRL_HOLDOVER_SYNCS * demoTime.inputNs i ≤ demoTime.since demoTime.sync.lastGood ∧
     ((demoTime.setInput i { demoTime.input i with stale := true }).selectInput).activeInput = inNone) := by decide +kernel

theorem witness_TimeSteps :
    demoTime.stepPending = true ∧ demoTime.sync.autoStep = false ∧ 5 ≠ demoTime.get A.tb TB_STEP_STATUS_SEQ ∧
    demoTime.on A.tb TB_STEP_STATUS_ARMED = true ∧ (demo 6).serving = true ∧ demoTime.serving = false := by decide +kernel

/-- Pin 0 is a pulse output, pin 1 captures rising edges with one stamp queued, pin 2 the same with all sixteen, pin 3 waits
for its target. -/
def demoPins : State :=
  let s := (((demo 6).put (A.tp 0) TP_CTRL_MODE 1).put (A.tp 0) TP_WIDTH_WIDTH 8).put (A.tp 0) TP_PERIOD_PERIOD 100
  let s := ((s.put (A.tp 1) TP_CTRL_MODE 3).put (A.tp 1) TP_CTRL_CAP_EDGE 1).put (A.tp 3) TP_CTRL_MODE 1
  let s := (s.put (A.tp 2) TP_CTRL_MODE 3).put (A.tp 2) TP_CTRL_CAP_EDGE 1
  ((s.setPin 1 { caps := [77] }).setPin 2 { caps := List.replicate 16 5 }).setPin 3 { target := some 9 }

theorem witness_TimePins :
    (demoPins.get (A.tp 0) TP_CTRL_MODE = 1 ∧ 8 ≤ demoPins.get (A.tp 0) TP_WIDTH_WIDTH ∧
      100 ≤ demoPins.get (A.tp 0) TP_PERIOD_PERIOD) ∧
    ((demoPins.pin 3).target = some 9 ∧ 9 ≤ demoPins.nowQ ∧ demoPins.pinsDrive = true ∧
      demoPins.get (A.tp 3) TP_CTRL_MODE ≠ 2) ∧
    (demoPins.get (A.tp 1) TP_CTRL_MODE = 3 ∧ capSelects (demoPins.get (A.tp 1) TP_CTRL_CAP_EDGE) true = true ∧
      (demoPins.pin 1).caps.length < 16 ∧ (demoPins.pin 1).caps = 77 :: []) ∧
    (demoPins.get (A.tp 2) TP_CTRL_MODE = 3 ∧ capSelects (demoPins.get (A.tp 2) TP_CTRL_CAP_EDGE) true = true ∧
      16 ≤ (demoPins.pin 2).caps.length) ∧
    (demoTime.on A.tb TB_PPS_CTRL_OUT_EN = true ∧ demoTime.pinsDrive = true ∧
      demoTime.sync.ppsSec ≠ some (secOf demoTime.nowQ) ∧ demoTime.sync.ppsSec ≠ none ∧ demoTime.sync.ppsAt = none) := by
  decide +kernel

/-- Port 0 is a gPTP port with an open exchange, and input 0x200 a PTP input with one; port 8 is SUSPECT. -/
def demoInputs : State :=
  let s := ((demo 6).put (A.tbp 0x200) TB_PORT_CTRL_PTP1588_EN 1).put (A.tbp 8) TB_PORT_STATUS_INPUT_STATE 2
  (((s.setInput 0 { reqAt := some 40, reqSeq := 7 }).setInput 0x200 { reqAt := some 50, reqSeq := 3, msOff := some 2 }).put
    (A.tbp 0) TB_PORT_CTRL_ROLE_PHYS 1)

theorem witness_PathDelayAndInputs :
    (demoInputs.gptpPort 0 = true ∧ (demoInputs.input 0).reqAt = some 40 ∧ (demoInputs.input 0).reqSeq = 7 ∧
      demoInputs.rxSkew 0 true = 0) ∧
    (demoInputs.isInput 0x200 = true ∧ demoInputs.on (A.tbp 0x200) TB_PORT_CTRL_PTP1588_EN = true ∧
      (demoInputs.input 0x200).reqSeq = 3 ∧ (demoInputs.input 0x200).reqAt = some 50 ∧
      (demoInputs.input 0x200).msOff = some 2) ∧
    (demoInputs.dueAfter (demoInputs.input 0).delayAt (logNs (logOf (demoInputs.get (A.tbp 0) TB_PORT_CTRL_LOG_PDELAY))) =
      true) ∧
    (demoInputs.dueAfter (demoInputs.input 0x200).delayAt (logNs (demoInputs.input 0x200).logDelay) = true) ∧
    (demoInputs.isInput 8 = true ∧ demoInputs.get (A.tbp 8) TB_PORT_STATUS_INPUT_STATE = 2 ∧
      16 * demoInputs.inputNs 8 ≤ demoInputs.since (demoInputs.input 8).suspectAt ∧
      (demoInputs.input 8).history.length < 8) := by decide +kernel

theorem witness_PhysicalTimeMessages :
    (demoInputs.masterPort 0 = true ∧ demoInputs.sync.role ≠ 2 ∧
      demoInputs.dueAfter (demoInputs.input 0).syncAt (logNs (logOf (demoInputs.get (A.tbp 0) TB_PORT_CTRL_LOG_SYNC))) =
        true ∧
      demoInputs.dueAfter (demoInputs.input 0).announceAt 1000000000 = true) ∧
    ({ demoInputs with sync := { demoInputs.sync with role := 2 } } : State).sync.role = 2 ∧
    ({ demoInputs with sync := { demoInputs.sync with role := 2 } } : State).sync.extPortCfg = false := by decide +kernel

/-- Scene cell 0 runs a strict segment since instant 0 and holds one in its queue beyond the horizon; cell 1 is enabled without a
segment. -/
def demoScene : State :=
  let s := (((demo 6).put (A.scc 0) SC_CELL_CTRL_EN 1).put (A.scc 0) SC_CELL_CTRL_GPTP_EN 1).put (A.scc 0) SC_STATUS_STATE 1
  let s := { s with image := { s.image with cells := 2 } }
  let s := ((s.put (A.scc 0) SC_STG_RATE_RATE 0x100000000).put (A.scc 0) SC_CUR_RATE_RATE 0x100000000).put (A.scc 0)
    SC_STG_PHYS_SEC_SEC 2000
  (s.setQueueSegs 0 [{ pa := 1000 * secQ, sa := 1000 * secQ, rate := 0x100000000, epoch := 0 }]).put (A.scc 1)
    SC_CELL_CTRL_EN 1

/-- The same on the Mirror unit of a pair. -/
def demoMirror : State := ((demoScene.put A.up UP_CTRL_EN 1).put A.up UP_STATUS_ROLE 2)

theorem witness_SegmentCommandsReport :
    (demoScene.isScene 1 = true ∧ demoScene.pushStatus 1 0 ≠ stOK) ∧
    (demoScene.isScene 0 = true ∧ demoScene.pushStatus 0 0 = stOK) ∧
    (demoMirror.isScene 0 = true ∧ demoMirror.mirrorRole = true) ∧
    (demoScene.mirrorRole = false ∧ ∀ g ∈ demoScene.queueSegs 1, g.pa ≤ demoScene.nowQ + demoScene.horizonQ 1) ∧
    ((demoScene.queueSegs 0).filter (fun g => decide (g.pa ≤ demoScene.nowQ + demoScene.horizonQ 0))).length <
      (demoScene.queueSegs 0).length := by decide +kernel

theorem witness_SceneClockRuns :
    (let s := demoScene.setQueueSegs 1 [{ pa := secQ, sa := 0, rate := 0x100000000, epoch := 4 }]
     s.queueSegs 1 = { pa := secQ, sa := 0, rate := 0x100000000, epoch := 4 } :: [] ∧ secQ ≤ s.nowQ ∧
      (s.convertDue 1).curSeg 1 = none) ∧
    (∀ g ∈ (demoScene.queueSegs 0).head?, demoScene.nowQ < g.pa) ∧ demoScene.servesScene 0 8 = true := by decide +kernel

/-- A frame of stream 5 with sequence number `q` for scene time `x`. -/
def demoHeld (q x : Nat) : Held :=
  { lane := 8, stream := 5, clock := 0, seq := q, epoch := 0, scene := x, inner := List.replicate 60 1, rewrite := 0, age := 0,
    orig := 0, noRepeat := false, launchCells := 1, borrowed := 0 }

/-- Stream 5 is a replay stream to port 8 that source entry 0 of slice 0 feeds; it awaits sequence number 1. Frame 1 is due,
frame 2 is beyond the horizon. -/
def demoFeed : State :=
  let s := (demoScene.put (A.tstream 0 5) (ST_W_W 0) (2 ^ 63 + 2 ^ 61 + 0x77)).put (A.tstream 0 5) (ST_W_W 1) (8 * 2 ^ 52)
  let s := ((s.put (A.tfeed 5) HM_FEED_W0_EN 1).put (A.tfeed 5) HM_FEED_W4_STATE 1).put (A.tfeed 5) HM_FEED_W3_NEXT_SEQ 1
  let s := ((s.put (A.fds 0 0) FD_SRC_CTRL_EN 1).put (A.fds 0 0) FD_SRC_CTRL_IPV6 0).put (A.fds 0 0) FD_SRC_IP_LO_ADDR
    0x0A000001
  let s := (((s.put (A.fds 0 0) FD_SRC_CTRL_ANY_INGRESS 1).put (A.fds 0 0) FD_SRC_STATUS_UP 1).put (A.fd 0) FD_CTRL_EN 1).put (A.fd 0) FD_CTRL_IPV4_EN 1
  let s := (s.put (A.ln 0) LN_INFO_PROFILES 4).put (A.trwprof 0 0) LN_RW_W0_W0 (2 ^ 63)
  { s with held := [demoHeld 1 secQ, demoHeld 2 (900 * secQ)] }

theorem witness_FramesConvertWithinHorizon :
    (∃ h p, demoFeed.heldSeq 5 2 = some h ∧ demoFeed.launchAt h = some p ∧
      demoFeed.nowQ + demoFeed.horizonQ h.clock < p) ∧
    (∃ h p, demoFeed.heldSeq 5 1 = some h ∧ (demoFeed.scene h.clock).stopped = false ∧ demoFeed.launchAt h = some p ∧
      p ≤ demoFeed.nowQ + demoFeed.horizonQ h.clock ∧ 1 ≤ demoFeed.nextSeq 5) :=
  ⟨⟨demoHeld 2 (900 * secQ), 900 * secQ, by decide +kernel⟩, ⟨demoHeld 1 secQ, secQ, by decide +kernel⟩⟩

/-- An envelope of KIND `k` for STREAM_ID 0x77 from 10.0.0.1. -/
def demoEnvelope (k : Nat) (payload : List Byte) : List Byte :=
  let h := be 2 0x1000 ++ be 1 12 ++ be 1 k ++ be 4 0x77 ++ be 8 3 ++ be 2 0 ++ be 6 500 ++ be 4 0 ++ be 2 0 ++
    be 2 payload.length ++ be 2 0 ++ be 2 0 ++ be 4 0 ++ be 4 0
  let ip := be 2 0x4500 ++ be 2 (76 + payload.length) ++ be 4 0 ++ be 2 0x4011 ++ be 2 0 ++ be 4 0x0A000001 ++ be 4 0x0A000002
  let udp := be 2 9 ++ be 2 (demoFeed.get (A.fd 0) FD_CTRL_ENV_PORT) ++ be 2 (56 + payload.length) ++ be 2 0
  withFcs (be 6 0x020000000001 ++ be 6 0x020000000099 ++ be 2 0x0800 ++ ip ++ udp ++ h ++ be 4 (crc32c h) ++ payload)

/-- The envelope of KIND `k` is recognised on port 0, and the admission answers `r`. -/
def demoAdmission (k : Nat) (payload : List Byte) (r : Fld ⊕ Nat) : Bool :=
  let b := demoEnvelope k payload
  match demoFeed.envelopeOf 0 b k with
  | some e => (demoFeed.countRx 0 b.length).admission 0 e == r
  | none => false

set_option maxRecDepth 20000 in
theorem witness_EnvelopesAreCheckedAndCounted :
    demoAdmission 0x00 (List.replicate 60 0) (.inr 5) = true ∧ demoAdmission 0x01 [] (.inr 5) = true ∧
    demoAdmission 0x02 [] (.inr 5) = true ∧ demoAdmission 0x11 [] (.inr 5) = true ∧
    demoAdmission 0x00 [] (.inl FD_CNT_BAD_LEN_COUNT) = true ∧ demoFeed.envelopeOf 0 [] 0x00 = none := by decide +kernel

theorem witness_GrantsAndSources :
    (demoFeed.on (A.fds 0 0) FD_SRC_STATUS_UP = true ∧ demoFeed.on (A.fds 0 0) FD_SRC_CTRL_EN = true) ∧
    (let s := demoFeed.setFeed 5 { demoFeed.feed 5 with reqDue := true }
     (s.feed 5).reqDue = true ∧ s.feedOn 5 = true ∧
      ((s.setFeed 5 { s.feed 5 with reqDue := false }).formGrant 5).isSome = true) ∧
    (demoFeed.grantsRun 0 0 = true ∧ demoFeed.on (A.fds 0 0) FD_SRC_CTRL_RANGE_OK = false ∧
      demoFeed.grantInterval 0 0 ≤ demoFeed.since (SMap.get (0, 0) demoFeed.sources (0 * 512 + 0)).2) ∧
    (let s : State := { demoFeed with sources := SMap.set (0, 0) 0 (0, 5000000000) demoFeed.sources }
     s.since (SMap.get (0, 0) s.sources (0 * 512 + 0)).2 < s.grantInterval 0 0) := by decide +kernel

theorem witness_LateTestsAndHolds :
    (let s := { demoFeed with held := [] }.setFeed 5 { announced := some (1, 0, secQ) }
     s.feedOn 5 = true ∧ s.feedMode 5 = 1 ∧ s.heldSeq 5 (s.nextSeq 5) = none ∧ s.slotOf 5 = some (0, secQ) ∧
      s.physOf (s.feedClock 5) 0 secQ = some secQ) ∧
    (let s := (demoFeed.setFeed 5 { holdingAt := some 9 }).put (A.tfeed 5) HM_FEED_W4_STATE 2
     (s.feed 5).holdingAt = some 9 ∧ s.feedMode 5 = 2) := by decide +kernel

theorem witness_FeedTableCommands :
    (demo 6).feedWindowOk = true ∧ ((demo 6).put A.hm HM_FEED_W0_LATE_POLICY 3).feedWindowOk = false ∧
    (demo 6).feedOn (demo 6).feedIdx = ((demo 6).copyWords (A.tfeed (demo 6).feedIdx) A.hm 0x40 3).feedOn (demo 6).feedIdx := by
  decide +kernel

theorem witness_HorizonIsWrittenOnlyWhileDisabled :
    (∃ f, findReg (A.scc 0 + SC_HORIZON_NS.off) = some f ∧ f.kind = .scCell ∧ f.idx = [0] ∧ f.reg.rwp = 0 ∧
      f.reg.inRange 32000 = true ∧ f.reg.after ((demo 6).word (A.scc 0 + SC_HORIZON_NS.off)).toNat 32000 = 32000) ∧
    (∃ f, findReg (A.scc 2047 + SC_HORIZON_NS.off) = some f ∧ f.kind = .scCell ∧ f.idx = [2047] ∧ f.reg.rwp = 0 ∧
      f.reg.inRange 2000 = true) ∧
    (demoScene.xpServes = true ∧ demoScene.mode ≠ 11 ∧ demoScene.isScene 0 = true ∧
      demoScene.on (A.scc 0) SC_CELL_CTRL_EN = true) ∧
    ((demo 6).on (A.scc 0) SC_CELL_CTRL_EN = false ∧ (demo 6).horizonOk 0 32000 = true) ∧
    (∀ s ∈ [demoScene, demo 6], s.busCheck 0 .write (A.scc 0 + SC_HORIZON_NS.off) 1 = (stOK, s)) :=
  ⟨⟨_, rfl, by decide +kernel⟩, ⟨_, rfl, by decide +kernel⟩, by decide +kernel, by decide +kernel, by decide +kernel⟩

theorem witness_MirrorRefusesSegmentCommands : demoMirror.isScene 0 = true ∧ demoMirror.mirrorRole = true := by decide +kernel

/-- Stream frame 1 waits to be staged on port 8, frame 2 is staged there and due, frame 3 is for later on port 64; profile 1 is
not valid. -/
def demoLaunch : State :=
  let s := (demoFeed.put (A.lnp 8) LN_PORT_CTRL_LAUNCH_EN 1).put (A.ln 0) LN_RW_IDX_INDEX 1
  { s with launches := [{ held := demoHeld 2 secQ, t0 := secQ, staged := some (List.replicate 64 2) },
      { held := demoHeld 1 secQ, t0 := secQ },
      { held := { demoHeld 3 (900 * secQ) with lane := 64 }, t0 := 900 * secQ },
      { held := { demoHeld 4 secQ with lane := 0, rewrite := 1 }, t0 := secQ }] }

theorem witness_LaunchesStageAndStart :
    (demoLaunch.datapath = true ∧ demoLaunch.injectionOn = false ∧
      ∃ x, demoLaunch.launches.find? (Launch.unstaged 8) = some x ∧ demoLaunch.profValid (sliceOf 8) x.held.rewrite = true ∧
        (demoLaunch.rewrite 8 x.held).length ≤ demoLaunch.get (A.lnp 8) LN_PORT_MAXFRAME_BYTES) ∧
    (let s := demoLaunch.put (A.lnp 8) LN_PORT_MAXFRAME_BYTES 40
     ∃ x, s.launches.find? (Launch.unstaged 8) = some x ∧ s.profValid (sliceOf 8) x.held.rewrite = true ∧
      s.get (A.lnp 8) LN_PORT_MAXFRAME_BYTES < (s.rewrite 8 x.held).length) ∧
    (∃ x, demoLaunch.launches.find? (Launch.unstaged 0) = some x ∧ demoLaunch.profValid (sliceOf 0) x.held.rewrite = false) ∧
    (∃ x, (demoLaunch.portLaunches 64).head? = some x ∧ demoLaunch.nowQ < x.t0) ∧
    (∃ x, (demoLaunch.portLaunches 0).head? = some x ∧ x.t0 ≤ demoLaunch.nowQ ∧ (demoLaunch.missCause 0 x).isSome = true) ∧
    (∃ x, (demoLaunch.portLaunches 8).head? = some x ∧ demoLaunch.missCause 8 x = none ∧ x.staged.isSome = true ∧
      (demoLaunch.wire 8).tx = none ∧ x.held.dropLate = false ∧
      max (max x.t0 (demoLaunch.wire 8).freeAt) (max x.stagedAt x.released) ≤ demoLaunch.nowQ) :=
  ⟨⟨by decide +kernel, by decide +kernel, { held := demoHeld 1 secQ, t0 := secQ }, by decide +kernel⟩,
    ⟨{ held := demoHeld 1 secQ, t0 := secQ }, by decide +kernel⟩,
    ⟨{ held := { demoHeld 4 secQ with lane := 0, rewrite := 1 }, t0 := secQ }, by decide +kernel⟩,
    ⟨{ held := { demoHeld 3 (900 * secQ) with lane := 64 }, t0 := 900 * secQ }, by decide +kernel⟩,
    ⟨{ held := { demoHeld 4 secQ with lane := 0, rewrite := 1 }, t0 := secQ }, by decide +kernel⟩,
    ⟨{ held := demoHeld 2 secQ, t0 := secQ, staged := some (List.replicate 64 2) }, by decide +kernel⟩⟩

/-- A preemptable frame of 400 bytes on the wire of port 8 since `start`, until `stop`. -/
def demoTx (start stop : Nat) : Tx :=
  { frame := { bytes := List.replicate 400 0 }, cls := 0, express := false, start := start, stop := stop }

theorem witness_FramesLeaveTheWire :
    (let s := (demo 6).setWire 8 { tx := some (demoTx 0 (900 * secQ)) }
     (s.wire 8).tx = some (demoTx 0 (900 * secQ)) ∧ s.nowQ < (demoTx 0 (900 * secQ)).stop) ∧
    (let s := (demo 6).setWire 8 { tx := some (demoTx 0 1) }
     s.isPort 8 = true ∧ (s.wire 8).tx = some (demoTx 0 1) ∧ (demoTx 0 1).stop ≤ s.nowQ ∧ (demoTx 0 1).dropped = false ∧
      s.ownSkew 8 (demoTx 0 1).frame.own = 0) := by decide +kernel

theorem witness_RewriteProfiles :
    (demoLaunch.isSlice 0 = true ∧ demoLaunch.rwIndex 0 = some 1 ∧ profOk (demoLaunch.get (A.ln 0) LN_RW_W0_W0)
      (demoLaunch.get (A.ln 0) LN_RW_W2_W2) (demoLaunch.get (A.ln 0) LN_RW_W3_W3) = true) ∧
    (demo 6).rwIndex 0 = none ∧ (demoLaunch.put (A.ln 0) LN_RW_W3_W3 1).rwIndex 0 = some 1 ∧
    profOk 0 0 ((demoLaunch.put (A.ln 0) LN_RW_W3_W3 1).get (A.ln 0) LN_RW_W3_W3) = false := by decide +kernel

/-- Gate lists of two entries of 600 ns in a cycle of 1200 ns. -/
def demoGates : GateSet := { base := 0, cycle := 1200, ext := 0, entries := [2 ^ 40 + 600, 600] }

/-- Port 8 has the demonstration list in its admin bank, and `g` as its lists. -/
def demoGateState (g : GateLists) : State :=
  let s := ((demo 6).put (A.gcp 8) GC_ADMIN_CYCLE_NS 1200).put (A.gcp 8) GC_ADMIN_LEN_LEN 2
  (s.put (A.gcp 8) GC_ADMIN_BASE_SEC_SEC 2000).setGateLists 8 { g with admin := [(0, 2 ^ 40 + 600), (1, 600)] }

theorem witness_GateCommands :
    (let s := demoGateState {}
     s.isPort 8 = true ∧ (s.gateLists 8).pending = none ∧
      commitStatus (s.gateAdmin 8) 4096 (fun e => decide (geOp e ≤ 2)) (s.gateLists 8).pending s.nowQ = stOK) ∧
    commitStatus ((demo 6).gateAdmin 8) 4096 (fun e => decide (geOp e ≤ 2)) ((demo 6).gateLists 8).pending (demo 6).nowQ ≠ stOK ∧
    (let s := demoGateState { pending := some (demoGates, (demo 6).nowQ) }
     (s.gateLists 8).pending = some (demoGates, (demo 6).nowQ) ∧ (demo 6).nowQ < s.nowQ + nsQ 2000) ∧
    (let s := demoGateState { pending := some (demoGates, 2000 * secQ) }
     (s.gateLists 8).pending = some (demoGates, 2000 * secQ) ∧ s.nowQ + nsQ 2000 ≤ 2000 * secQ) := by decide +kernel

theorem witness_GateListsRun :
    (let s := demoGateState { pending := some (demoGates, 2000 * secQ) }
     (s.gateLists 8).pending = some (demoGates, 2000 * secQ) ∧ s.nowQ < 2000 * secQ) ∧
    (let s := demoGateState { pending := some (demoGates, secQ) }
     s.isPort 8 = true ∧ (s.gateLists 8).pending = some (demoGates, secQ) ∧ secQ ≤ s.nowQ ∧ (s.gateLists 8).oper = none) ∧
    (let s := demoGateState { oper := some demoGates, enabled := true }
     (s.operEntry 8).isSome = true ∧ (s.gateLists 8).enabled = true ∧ (s.gateLists 8).entryAt = none) := by decide +kernel

theorem witness_TransmissionIsSelected :
    (((demo 6).setWire 8 { tx := some (demoTx 0 1) }).wire 8).tx.isSome = true ∧
    ((demo 6).isPort 8 = true ∧ ((demo 6).wire 8).tx = none ∧ ((demo 6).wire 8).freeAt ≤ (demo 6).nowQ ∧
      (demo 6).linkUp 8 = true) ∧
    (∀ x ∈ SMap.get [] (demo 6).crossing 0, (demo 6).nowQ < (if x.left then x.due else (demo 6).halfQ x)) ∧
    (let x : Crossing := { bytes := [], lanes := [8], cls := 0, left := true }
     let s : State := { demo 6 with crossing := [(0, [x])] }
     SMap.get [] s.crossing 0 = x :: [] ∧ (if x.left then x.due else s.halfQ x) ≤ s.nowQ) := by decide +kernel

/-- Port 8 runs preemption with a verified partner, sends a preemptable frame, and holds the MAC. -/
def demoPreempt : State :=
  let s := (((demo 6).put (A.pep 8) PE_PORT_CTRL_EN 1).put (A.pep 8) PE_PORT_CTRL_PEER_ASSUME 1).put (A.pep 8)
    PE_PORT_CTRL_VERIFY_DIS 1
  let s := (s.put (A.pep 8) PE_PORT_STATUS_ACTIVE 1).put (A.gcp 8) GC_STATUS_MAC_HOLD 1
  s.setWire 8 { tx := some (demoTx s.nowQ (900 * secQ)) }

theorem witness_FramesArePreempted :
    (let s := (demo 6).setWire 8 { tx := some (demoTx 0 1) }
     (s.wire 8).tx = some (demoTx 0 1) ∧ s.peActive 8 = false) ∧
    (let x := demoTx demoPreempt.nowQ (900 * secQ)
     demoPreempt.isPort 8 = true ∧ (demoPreempt.wire 8).tx = some x ∧ x.express = false ∧ demoPreempt.peActive 8 = true ∧
      demoPreempt.peWanted 8 = true ∧ demoPreempt.shadowPreempts 8 = false ∧
      (demoPreempt.gatePreempts 8 x.cls || demoPreempt.macHold 8 ||
        (demoPreempt.pick 8 (demoPreempt.macClasses 8 true)).isSome) = true ∧
      x.sent + demoPreempt.fragBytes 8 x + 64 ≤ x.frame.bytes.length) := by decide +kernel

/-- An LLDP frame with a TTL of 20 s and the capabilities of preemption. -/
def demoLldp : List Byte :=
  List.replicate 14 0 ++ be 2 (3 * 512 + 2) ++ be 2 20 ++ be 2 (127 * 512 + 6) ++ be 4 0x00120F07 ++ be 2 7 ++ be 2 0 ++ be 4 0

theorem witness_VerificationOfPreemption :
    (let s := demoPreempt.put (A.pep 8) PE_PORT_STATUS_VERIFY_STATUS 2
     s.get (A.pep 8) PE_PORT_STATUS_VERIFY_STATUS = 2 ∧ s.peReady 8 = true ∧ s.isPairLink 8 = false ∧
      (s.merge 8).verifies = 0) ∧
    (let s := (demoPreempt.put (A.pep 8) PE_PORT_CTRL_LLDP_EN 1).setMerge 8 { lldpAt := some 0 }
     s.on (A.pep 8) PE_PORT_CTRL_LLDP_EN = true ∧ s.linkUp 8 = true ∧ s.isPairLink 8 = false ∧
      (s.merge 8).lldpDue = false ∧ (s.merge 8).lldpAt = some 0) ∧
    lldpScan (demoLldp.take (demoLldp.length - 4)) demoLldp.length 14 (none, none) = (some 20, some 7) ∧
    (demoPreempt.put (A.pep 8) PE_PORT_STATUS_PEER_SEEN 1).on (A.pep 8) PE_PORT_STATUS_PEER_SEEN = true := by decide +kernel

theorem witness_FragmentsAreReassembled :
    (let s := demoPreempt.setMerge 8 { rx := some ([1], 2, 3, 4) }
     s.isPort 8 = true ∧ s.linkUp 8 = true ∧ s.on (A.pep 8) PE_PORT_CTRL_EN = true ∧
      (s.bump (A.pep 8) PE_CNT_FRAG_RX_COUNT).on (A.pep 8) PE_PORT_CTRL_EN = true ∧
      ((s.bump (A.pep 8) PE_CNT_FRAG_RX_COUNT).merge 8).rx = some ([1], 2, 3, 4)) ∧
    ((demoPreempt.bump (A.pep 8) PE_CNT_FRAG_RX_COUNT).merge 8).rx = none ∧
    (demo 6).on (A.shp 8) SH_PORT_CTRL_QS_EN = false ∧
    (let s := ((demo 6).put (A.shp 8) SH_PORT_CTRL_QS_EN 1).setMerge 8 { qsCfg := some (1, 255), qsAt := (demo 6).nowQ }
     s.on (A.shp 8) SH_PORT_CTRL_QS_EN = true ∧ (s.merge 8).qsCfg = some (1, 255) ∧
      s.nowQ / nsQ (max 1 1 * 1000) * nsQ (max 1 1 * 1000) ≤ (s.merge 8).qsAt) ∧
    (let s := ((demo 6).put (A.shp 8) SH_PORT_CTRL_QS_EN 1).setMerge 8 { qsCfg := some (1, 255) }
     (s.merge 8).qsAt < s.nowQ / nsQ (max 1 1 * 1000) * nsQ (max 1 1 * 1000)) := by decide +kernel

theorem witness_PortLinksComeAndGo : (demo 6).isPort 8 = true ∧ (demo 6).port? 8 = some (demoPort 8) := by decide +kernel

/-- Cell 0 runs a matrix of one cycle of 1 ms with a window of channel A, one cycle after its base; channel A's last frame of the
window is stored for port 8. -/
def demoCell (x : CellState) : State :=
  let s := { demo 6 with image := { (demo 6).image with cells := 1 } }
  let b := s.cellBase 0
  ((s.put b CL_CELL_CTRL_EN 1).put b CL_STATUS_STATE 2).setCell 0 { x with
    oper := [{ len := 1000000, wins := [(2 ^ 60 + 2 * 2 ^ 54 + 100000, 64 * 2 ^ 36)] }] }

/-- The cell half a cycle into its second cycle, with stored frames. -/
def demoCycling : State :=
  let t := (demo 6).nowQ - nsQ 500000
  let y : Stored := { chan := 0, cyc := 0, win := 0, bytes := List.replicate 60 0, stream := 5, ports := [8] }
  demoCell { base := some (t - nsQ 1000000), cycleAt := some t, store := [y] }

theorem witness_MatrixCommands :
    (let s := demoCell { hdr := 0 }
     (s.homeSlice 0).isSome = true ∧ s.matrixFail 0 (s.adminMatrix 0) = some (stBadValue, 0, 0)) ∧
    (let s := demoCell { pending := some ([], (demo 6).nowQ) }
     s.matrixFail 0 (s.adminMatrix 0) = none ∧ (s.cell 0).pending = some ([], (demo 6).nowQ) ∧
      (demo 6).nowQ < s.toCell 0 s.nowQ + nsQ 2000) ∧
    (demoCycling.matrixFail 0 (demoCycling.adminMatrix 0) = none ∧ (demoCycling.cell 0).pending = none ∧
      (demoCycling.matrixResult 0 7 stOK 0 0 false).cellOn 0 = true ∧ (demoCycling.cell 0).base.isSome = true) ∧
    (let s := demoCell { pending := some ([], 2000 * secQ) }
     (s.cell 0).pending = some ([], 2000 * secQ) ∧ s.toCell 0 s.nowQ + nsQ 2000 ≤ 2000 * secQ) := by decide +kernel

theorem witness_CellsRun :
    ((demoCycling.cell 0).base.isSome = true ∧ demoCycling.cellOn 0 = true ∧
      ∀ u ∈ (demoCycling.cell 0).cycleAt,
        demoCycling.toCell 0 demoCycling.nowQ < u + nsQ (matrixLen (demoCycling.cell 0).oper)) ∧
    (let s := demoCell { base := some 0, cycleAt := some 0 }
     (s.homeSlice 0).isSome = true ∧ (s.cell 0).base = some 0 ∧ (s.cell 0).cycleAt = some 0 ∧ s.cellOn 0 = true ∧
      0 + nsQ (matrixLen (s.cell 0).oper) ≤ s.toCell 0 s.nowQ) ∧
    (let s := demoCycling.setMark 0 15 { cfg := 1000000 }
     (s.mark 0 15).next = none ∧ ∀ t ∈ (s.cell 0).cycleAt, ((markInstants (s.mark 0 15).cfg (s.cell 0).oper 0 t).filter
        (fun u => decide (u ≤ s.toCell 0 s.nowQ ∧ (s.mark 0 15).firedAt < u))).getLast? = none) ∧
    (let w := 2 ^ 63 + 2 ^ 62 + 1000
     let s := demoCycling.setMark 0 0 { cfg := w }
     (s.mark 0 0).next = none ∧ s.get (s.cellBase 0) CL_STATUS_STATE = 2 ∧ (s.mark 0 0).cfg = w ∧
      ∀ t ∈ (s.cell 0).cycleAt, (((markInstants w (s.cell 0).oper 0 t).filter
        (fun u => decide (u ≤ s.toCell 0 s.nowQ ∧ (s.mark 0 0).firedAt < u))).getLast?).isSome = true) ∧
    (demoCycling.isHome 0 (bitsOf (2 ^ 63) 62 52) = true ∧ demoCycling.cellOn (bitsOf (2 ^ 63) 62 52) = true) ∧
    (let s := { demo 6 with image := { (demo 6).image with cells := 1 } }
     s.get (A.cl 0) CL_NODE_SEL_NODE < 65536 ∧
      s.isHome 0 (s.get (A.tnode (s.get (A.cl 0) CL_NODE_SEL_NODE)) CL_NODE_CFG_CELL) = true ∧
      s.cellOn (s.get (A.tnode (s.get (A.cl 0) CL_NODE_SEL_NODE)) CL_NODE_CFG_CELL) = false) := by decide +kernel

/-- A coldstart frame of rank 3. -/
def demoCold : CsFrame := { rank := 3, node := 1, frame := { lane := 8, bytes := List.replicate 64 0, at_ := 1 } }

theorem witness_ColdstartAndSubstitution :
    (let s := demoCell { csOpen := some (2000 * secQ) }
     (s.cell 0).csOpen = some (2000 * secQ) ∧ s.nowQ < 2000 * secQ) ∧
    (let s := demoCell { csOpen := some 0, csFrames := [demoCold] }
     let b := s.cellBase 0
     (s.homeSlice 0).isSome = true ∧ (s.cell 0).csOpen = some 0 ∧ (s.cell 0).csFrames = [demoCold] ∧ demoCold.rank < 8 ∧
      bestCold [demoCold] = some demoCold ∧ s.authority = true ∧ s.cellOn 0 = true ∧
      0 + nsQ (s.get b CL_CS_CTRL_CS_LEN_NS) + nsQ (s.get b CL_CS_CTRL_CS_RELAY_NS) ≤ s.nowQ) ∧
    ((demoCycling.homeSlice 0).isSome = true ∧
      (match demoCycling.unstarted 0 0 0 0, (demoCycling.cell 0).store.find? (fun y => y.chan == 0 && y.cyc == 0 && y.win == 0) with
      | some i, some y => decide (y.count < winSubst i.words)
      | _, _ => false) = true) ∧
    (let s := demoCycling.setCell 0 { demoCycling.cell 0 with
      store := [{ chan := 0, cyc := 0, win := 0, bytes := [], stream := 5, count := 2 }] }
     (match s.unstarted 0 0 0 0, (s.cell 0).store.find? (fun y => y.chan == 0 && y.cyc == 0 && y.win == 0) with
      | some i, some y => decide (winSubst i.words ≤ y.count)
      | _, _ => false) = true) := by decide +kernel

/-- A frame on its second pass. -/
def demoRecirc (epoch : Nat) : Recirc := { lane := 0, bytes := List.replicate 64 0, sof := 1, epoch := epoch }

theorem witness_FramesEnterThePipelines :
    ((demo 6).isPort 1 = false ∧ (demo 6).isPort 8 = true ∧ (demo 6).linkUp 8 = true ∧ (demo 6).injectionOn = false) ∧
    SMap.get [] (demo 6).recirc (0 * 8 + 7) = [] ∧
    ((demo 6).isSlice 0 = true ∧
      SMap.get [] ({ demo 6 with recirc := [(7, [demoRecirc 1])] } : State).recirc (0 * 8 + 7) = demoRecirc 1 :: []) ∧
    (demo 6).slow = [] := by decide +kernel

theorem witness_RuleSetCommands :
    ((demo 6).isSlice 1 = true ∧ ((demo 6).put (A.cf 1) CF_EPOCH_RETIRING 1).on (A.cf 1) CF_EPOCH_RETIRING = true ∧
      ((demo 6).put (A.cf 1) CF_EPOCH_RETIRING 1).epochClear 1 (1 - (demo 6).get (A.cf 1) CF_EPOCH_CURRENT) = true) ∧
    (let s : State := { (demo 6).put (A.cf 1) CF_EPOCH_RETIRING 1 with recirc := [(8, [demoRecirc 0, demoRecirc 1])] }
     s.epochClear 1 (1 - s.get (A.cf 1) CF_EPOCH_CURRENT) = false) ∧
    ((demo 6).on (A.cf 1) CF_EPOCH_RETIRING = false ∧ (demo 6).slotWidth 1 ((demo 6).cfSlot 1) = none) ∧
    (let s := ((demo 6).put (A.cf 1) (CF_TABLE_VALID 0) 1).put (A.cf 1) (CF_TABLE_SIZE 0) 16
     (s.slotWidth 1 (s.cfSlot 1)).isSome = true ∧ s.get (A.ttcam 1 (s.cfSlot 1)) CF_EIN_IN = 0 ∧
      ∀ w ∈ s.slotWidth 1 (s.cfSlot 1), (s.wide (A.cf 1) CF_EM_MASK % 2 ^ keyBits w) &&& keyReserved w = 0 ∧
        actionOk (s.get (A.cf 1) CF_EA_ACTION) = true) := by decide +kernel

/-- One entry is staged: a replay entry that is not valid, index 9. -/
def demoBatch : State := { demo 6 with batch := [⟨false, 9, [0, 0, 0, 0]⟩] }

theorem witness_StreamTableCommands :
    ((demo 6).isSlice 0 = true ∧ (demo 6).batch = []) ∧
    (demoBatch.batch ≠ [] ∧ demoBatch.batchFail = none ∧ demoBatch.liveSlices ≠ []) ∧
    (let s : State := { demoBatch with update := some ⟨[], 1, 7, [1]⟩ }
     s.batchFail = some (stChangeLocked, 0) ∧ s.update = some ⟨[], 1, 7, [1]⟩ ∧ 1 ∈ [1] ∧ ∀ u ∈ s.update, 0 ∉ u.slices) := by
  decide +kernel

theorem witness_StreamGateCommands :
    (((demo 6).sgate 0 3).lists.pending = none ∧ (demo 6).isSlice 0 = true) ∧
    (let s := (demo 6).setSgLists 0 3 { pending := some (demoGates, secQ) }
     (s.sgate 0 3).lists.pending = some (demoGates, secQ)) ∧
    (let s := ((demo 6).setSgLists 0 3 { oper := some demoGates }).put (A.tsgate 0 3) ST_SG_CTRL_EN 1
     (s.sgEntryAt 0 3 s.nowQ).isSome = true ∧ (s.sgate 0 3).lists.entryAt = none) := by decide +kernel

/-- Recovery 4 of slice 0 runs, holds a sequence and tests for latent errors. -/
def demoRecovery : State :=
  let b := A.trecf 0 4
  ((((demo 6).put b FR_REC_W0_EN 1).put b FR_REC_W2_VALID 1).put b FR_REC_W0_LAT_EN 1).put (A.fr 0) FR_REC_IDX_INDEX 4

theorem witness_ReplicationTables :
    (demoRecovery.isSlice 0 = true ∧ demoRecovery.on (A.trecf 0 4) FR_REC_W0_EN = true ∧
      demoRecovery.on (A.trecf 0 4) FR_REC_W2_VALID = true) ∧
    (demoRecovery.on (A.trecf 0 4) FR_REC_W0_LAT_EN = true ∧
      demoRecovery.get (A.trecf 0 4) FR_REC_W1_LAT_PERIOD_MS * 1000000 ≤ demoRecovery.since (demoRecovery.rec_ 0 4).testAt) := by
  decide +kernel

theorem witness_RecoveryResetsWithoutFrames :
    demoRecovery.isSlice 0 = true ∧ demoRecovery.on (A.trecf 0 4) FR_REC_W0_EN = true ∧
    demoRecovery.on (A.trecf 0 4) FR_REC_W2_VALID = true ∧
    demoRecovery.get (A.trecf 0 4) FR_REC_W0_RESET_MS * 1000000 ≤ demoRecovery.since (demoRecovery.rec_ 0 4).passAt ∧
    demoRecovery.get (A.fr 0) FR_REC_IDX_INDEX = 4 := by decide +kernel

/-- The authority of a running pair over port 64, which hears its partner. -/
def demoPair : State :=
  let s := { demo 6 with image := { (demo 6).image with pa := some 64 } }
  ((s.put A.up UP_CTRL_EN 1).put A.up UP_STATUS_ROLE 1).put A.up UP_STATUS_LINK_A_UP 1

theorem witness_PairHeartbeats :
    ((demo 6).pairLane 0 = none ∧ (demo 6).pairRuns = false) ∧
    ((demoPair.pairLane 0).isSome = true ∧ demoPair.pairRuns = true ∧ (demoPair.pairLink 0).got = false) ∧
    (let s : State := { (demo 6).put A.up UP_STATUS_ROLE 0 with pair := { (demo 6).pair with waitFrom := some 3 } }
     s.pair.waitFrom = some 3 ∧ s.role = 0 ∧ s.heard = false) ∧
    (let s := demoPair.put A.up UP_HANDOVER_MS_INDEX demoPair.nowMs
     s.handoverMs ≠ 0xFFFFFFFF ∧ s.on A.up UP_CTRL_EN = true ∧ idxSub s.nowMs s.handoverMs < 2 ^ 31 ∧ s.role = 1) ∧
    demoPair.handoverMs = 0xFFFFFFFF ∧ demoPair.heartbeat.pair.leaving = none ∧
    (let s : State := { demoPair with pair := { demoPair.pair with leaving := some (9, 0, 3) } }
     s.heartbeat.pair.leaving = some (9, 0, 1 + 2) ∧ s.heartbeat.pair.instant ≠ s.pair.instant) := by decide +kernel

theorem witness_PairStateMessages :
    (demo 6).pairRuns = false ∧ (demoPair.pairRuns = true ∧ demoPair.role = 1 ∧ demoPair.heard = true) ∧
    (let s : State := { demoPair with pair := { demoPair.pair with sceneDue := [1] } }
     1 ∈ s.pair.sceneDue ∧ s.isScene 1 = true) ∧
    ((demoPair.put A.up UP_STATUS_ROLE 2).role = 2 ∧ ((demoPair.put A.up UP_STATUS_ROLE 2).pairLane 0).isSome = true) ∧
    1500000 ≤ demoPair.nowNs := by decide +kernel

/-- A captured frame of profile 1 on port 8. -/
def demoCapture : CapFrame := { lane := 8, bytes := List.replicate 64 0, at_ := 1, profile := 1 }

theorem witness_CapturesAndReports :
    ((demo 6).captures = [] ∧ (demo 6).exports = [] ∧ (demo 6).mode ≠ 0) ∧
    ({ demo 6 with captures := [demoCapture], exports := [demoCapture] } : State).captures = demoCapture :: [] ∧
    ({ demo 6 with captures := [demoCapture], exports := [demoCapture] } : State).exports = demoCapture :: [] := by
  decide +kernel

theorem witness_ControlOperationsAnswer :
    ((demo 6).xpServes = true ∧ (demo 6).mode ≠ 11) ∧ ((demo 11).xpServes = true ∧ (demo 11).mode = 11 ∧ 0 ≠ A.md + 8) ∧
    (List.replicate 32 (0 : Byte)).length = 32 ∧ (List.replicate 32 7).length % 8 = 0 ∧ State.reset.xpServes = false := by
  decide +kernel

/-- Both control lanes are up and slot 0 sends its events on lane 0; one event waits. -/
def demoEvents : State :=
  let s := ((demo 6).put (A.xpl 0) XP_LANE_CFG_LINK_UP 1).put (A.xpl 1) XP_LANE_CFG_LINK_UP 1
  { s with journal := { s.journal with events := [⟨4, 0, []⟩], unacked := [⟨0, 0, 5, 0, ⟨4, 1, []⟩⟩] } }

theorem witness_TransportCarriesEvents :
    (demoEvents.journal.events = ⟨4, 0, []⟩ :: [] ∧ demoEvents.xpServes = true) ∧
    ((demoEvents.journal.unacked.filter (fun e =>
      e.slot == 0 && e.chan == 0 && decide ((5 % 2 ^ 32 + 2 ^ 32 - e.dseq) % 2 ^ 32 < 2 ^ 31))).getLast?).isSome = true ∧
    (demoEvents.on (A.xpl 0) XP_LANE_CFG_LINK_UP = true ∧ demoEvents.on (A.xpl 1) XP_LANE_CFG_LINK_UP = true) ∧
    (demo 6).on (A.xpl 1) XP_LANE_CFG_LINK_UP = false := by decide +kernel

theorem witness_RingCommandsAndIndices :
    (demo 6).ringIdle 255 = true ∧ ((demo 6).put (A.rgr 255) RG_STATE_STATE 1).ringIdle 255 = false ∧
    (demo 6).isResult 255 = false ∧
    (let s := ((((demo 6).put (A.rgr 3) RG_BASE_DA 0x40000000).put (A.rgr 3) RG_CFG_KIND 1).put (A.rgr 3) RG_STATE_STATE 1).put (A.rgr 3) RG_CFG_LOG2_SIZE 4
     s.isResult 3 = true ∧ s.ringFree 3 ≠ 0 ∧ (s.ring 3).holding = none) := by decide +kernel

/-- Ring 2 is a WORK ring of the transmitter that runs; its pushed entry is `ws`. -/
def demoRing (ws : List Nat) : State :=
  (((demo 6).put (A.rgr 2) RG_STATE_STATE 1).put (A.rgr 2) RG_CFG_ENGINE_KIND 2).setRing 2 { push := [(0, ws)] }

theorem witness_RingEntriesRun :
    (let s := demoRing [0]
     s.isResult 2 = false ∧ s.ringState 2 = 1 ∧ (s.ring 2).running = none ∧ (s.ring 2).stopping = false ∧
      (s.fetchEntry 2).isSome = true) ∧
    (let e : Running := ⟨true, 0, [16 * 2 ^ 56]⟩
     let s := (demoRing []).setRing 2 { running := some e }
     (s.ring 2).running = some e ∧ (s.ring 2).finished = none ∧ bitsOf (e.words.getD 0 0) 63 56 = 16 ∧
      s.get (A.rgr 2) RG_CFG_ENGINE_KIND = 2 ∧ s.entryOpen 2 = true) ∧
    (let e : Running := ⟨true, 0, [0]⟩
     let s := (demoRing []).setRing 2 { running := some e, finished := some (stOK, 64, 0) }
     (s.ring 2).running = some e ∧ (s.ring 2).finished = some (stOK, 64, 0)) := by decide +kernel

/-- Channel 31 of engine 3 is in state `st` with a transfer of operation `op`, three units. -/
def demoDma (st op : Nat) : State :=
  let s := ((demo 6).put (A.dmc 3 31) DM_CH_STATUS_STATE st).put (A.dme 3) DM_ENG_CTRL_EN 1
  s.setChan 3 31 { words := [op * 2 ^ 56, 0, 0, 3], frames := 3 }

theorem witness_TransfersRun :
    ((demo 6).boundRing 3 31 = none ∧ (demo 6).nextChan 0 = none) ∧
    ((demoDma 1 1).moverFree 3 = true ∧ (demoDma 1 1).nextChan 3 = some 31 ∧ dmaOp ((demoDma 1 1).chan 3 31).words ≠ 4) ∧
    ((demoDma 2 1).chanState 3 31 = 2 ∧ dmaOp ((demoDma 2 1).chan 3 31).words = 1) ∧
    dmaOp ((demoDma 2 3).chan 3 31).words = 3 ∧ dmaOp ((demoDma 2 4).chan 3 31).words = 4 ∧
    (dmaOp ((demoDma 2 5).chan 3 31).words = 5 ∧
      ((demoDma 2 5).chan 3 31).frames = dmaLen ((demoDma 2 5).chan 3 31).words) ∧
    ((demo 6).chansIn 0 2 = [] ∧ (demo 6).chansIn 0 1 = [] ∧ (∀ c ∈ List.range 32, (demo 6).boundRing 0 c = none) ∧
      (demo 6).drains = []) ∧
    ((demo 6).put A.pw PW_DOMAIN_SLICES 3).domainOn 0 0 = true ∧
    (({ demo 6 with drains := [⟨0, 1, 0, false⟩] } : State).drains.find? (fun d => d.kind == 0 && d.index == 1)).isSome =
      true := by decide +kernel

/-- The next frame of a FRAME_OUT of five lies in control SRAM, `n` bytes long, for port 8, which has relay cells. -/
def demoFrameOut (n : Nat) : State :=
  let s := (demo 6).setChan 3 31 { words := [5 * 2 ^ 56, 0x40000000, 8 * 2 ^ 55, 5], frames := 3 }
  ((s.put (A.hmp 8) HM_PART_SIZE_RELAY 64).setMemWord 0x40000000 n).put (A.dmc 3 31) DM_CH_STATUS_STATE 2

theorem witness_TransfersRun_frames :
    (∀ n ∈ [59, 60], (demoFrameOut n).chanState 3 31 = 2 ∧ dmaOp ((demoFrameOut n).chan 3 31).words = 5 ∧
      ((demoFrameOut n).chan 3 31).frames ≠ dmaLen ((demoFrameOut n).chan 3 31).words ∧
      (demoFrameOut n).frameLen (dmaSrc ((demoFrameOut n).chan 3 31).words + ((demoFrameOut n).chan 3 31).offset) = n) ∧
    (cellsFor 64 ≤ (demoFrameOut 60).relayFree (dmaLane ((demoFrameOut 60).chan 3 31).words) ∧
      (demoFrameOut 60).sliceServes (sliceOf (dmaLane ((demoFrameOut 60).chan 3 31).words)) = true) := by decide +kernel

theorem witness_ShadowBanksAndMonitors :
    (((demo 6).put A.ms MS_SNAP_SHAPE_WORDS_PER 0).snapStatus 0).1 ≠ stOK ∧
    (let s := (((demo 6).put A.ms MS_SNAP_SRC_DA A.pw).put A.ms MS_SNAP_SHAPE_WORDS_PER 2).put A.ms MS_SNAP_SHAPE_INSTANCES 1
     (s.snapStatus 0).1 = stOK) ∧
    (let s : State := { demo 6 with evcs := [(64 + 63, ⟨5, some 0⟩)] }
     s.isSlice 1 = true ∧ (s.evc 1 63).due = some 0) ∧
    (let w : Window := { cfg := 0, start := 0 }
     let s := (demo 6).setWindow 8 (some w)
     s.isPort 8 = true ∧ s.window 8 = some w) ∧
    SMap.get [] ({ demo 6 with lsBuf := [(0, [[1]])] } : State).lsBuf 0 = [1] :: [] := by decide +kernel

/-- The module in Reset with RESET_N high and its power good. -/
def demoReset : State := { demo 0 with contacts := { (demo 0).contacts with resetN := true } }

/-- Findings of every boot item, nothing faulty. -/
def demoFindings : List Finding := (demo 3).bootItems.map (fun e => ⟨e.1, e.2, 1, [], 4, 0, 1⟩)

theorem witness_BootBringsTheModuleUp :
    (demoReset.mode = 0 ∧ demoReset.contacts.resetN = true ∧ demoReset.contacts.held = false ∧
      demoReset.on A.pw PW_STATUS_RAILS_GOOD = true ∧ demoReset.on A.pw PW_STATUS_VAUX_OK = true) ∧ (demo 6).mode ≠ 0 ∧
    (let s : State := { demo 1 with boot := { (demo 1).boot with flash := true } }
     s.mode = 1 ∧ s.boot.flash = true) ∧
    (let s := (demo 6).put A.im IM_STAGE_BASE_DA 0x40000000
     s.imReady = true ∧ imgKind s.staged ≠ 2) ∧
    ((demo 6).put A.im IM_STAGE_BASE_DA 0).imReady = false ∧
    (let l : Loading := ⟨demoImage, 0, [], []⟩
     let s : State := { demo 2 with boot := { (demo 2).boot with next := some l } }
     s.boot.next = some l ∧ s.mode = 2) ∧
    ((demo 3).mode = 3 ∧ (demo 3).bootItems.all (fun e => (findingOf demoFindings e).isSome) = true) ∧
    ((demo 4).mode = 4 ∧ (demo 4).get A.md MD_STATUS_PREV_MODE ≠ 3) := by decide +kernel

theorem witness_ModeCommands :
    ((demo 6).mode ≠ 5 ∧ (demo 9).mayLeave = false ∧ (demo 6).mode ≠ 9 ∧ (demo 6).mode ≠ 10 ∧ (demo 11).mode = 11) ∧
    ((demo 5).mode = 5 ∧ (demo 6).mayLeave = true ∧ (demo 9).mode = 9 ∧ (demo 10).mode = 10 ∧ (demo 6).mode ≠ 0 ∧
      (demo 6).mode ≠ 11) ∧
    (let s := (demo 6).put A.md MD_FW_STATUS_STATE 2
     let t : State := { s with firmware := { s.firmware with parts := [0] } }
     t.fwState = 2 ∧ t.fwNext = some (.core 15)) := by decide +kernel

theorem witness_FencesAndRebuilds :
    (let s : State := { demo 6 with boot := { (demo 6).boot with unfencing := [(1, 3)], retraining := [0], builds := [(1, none)] } }
     s.boot.unfencing.find? (fun e => e.1 == 1) = some (1, 3) ∧ 0 ∈ s.boot.retraining ∧
      s.boot.builds.find? (fun e => e.1 == 1) = some (1, none)) ∧
    (let s : State := { (demo 6).put A.md (MD_SLICE_STATE_STATE 1) 1 with drains := [⟨0, 1, 0, true⟩] }
     s.isSlice 1 = true ∧ s.touched 0 1 = false ∧
      s.drains.any (fun (d : Drain) => d.kind == 0 && d.index == 1 && d.fence) = true ∧ s.sliceState 1 = 1) := by
  decide +kernel

theorem witness_BackgroundTasksRun :
    ((demo 6).isPort 8 = true ∧ (demo 6).linkUp 8 = true ∧ (demo 6).sliceFenced (sliceOf 8) = false) ∧
    (∀ e ∈ [(9, 120)], e.1 < 10) ∧ (demo 6).nextRotation.isSome = true ∧ (demo 6).taskRuns 0 = true := by decide +kernel

theorem witness_TestItemsAndInjectors :
    (let x : TestItem := { ticket := 7, item := 1, target := 0, origin := 0 }
     let s : State := { demo 6 with tests := { (demo 6).tests with queue := [x], running := [x] } }
     s.tests.queue.find? (fun x => x.ticket == 7) = some x ∧
      s.tests.running.find? (fun x => x.ticket == 7 && x.item == 1 && x.target == 0) = some x ∧
      s.tests.queue.find? (fun x => x.ticket == 8) = none ∧
      s.tests.running.find? (fun x => x.ticket == 8 && x.origin == 0) = none) ∧
    ((demo 6).isPort 8 = true ∧ (demo 6).injectionOn = false) ∧
    (let s := { demo 6 with image := { (demo 6).image with flags := 1 } }
     let b := A.fii 8 3
     let t := (s.put b FI_INJ_CTRL_ARM 1).put b FI_INJ_CTRL_START_EN 1
     s.injectionOn = true ∧ injCtrlOk (2 ^ 24 + 1) = true ∧ (2 ^ 24 + 1).testBit 0 = true ∧
      t.on b FI_INJ_CTRL_ARM = true ∧ t.on b FI_INJ_CTRL_START_EN = true) ∧
    (∀ e ∈ [(0, true), ((demo 6).nowQ, false)],
      let h : InjHeld := ⟨[], e.1, none, 0, none, none, false, true⟩
      let s := ((demo 6).put (A.fii 8 3) FI_INJ_PARAM_DELAY_NS 5).setInjector 8 3 { held := some h }
      (s.injector 8 3).held = some h ∧ s.heldDue 8 3 h = e.2) := by decide +kernel

theorem witness_PowerManagerActs :
    (let u := ((demo 6).put A.pw PW_STATUS_VIN_OK 0).latchWord (2 ^ 3 + 2 ^ 13)
     u.mode ≠ 0 ∧ ((u.raise A.pw PW_EVENT_FLAGS 5).powerOffSlices).mode ≠ 11) ∧
    (demo 6).mode ≠ 0 ∧ (demo 6).on A.pw PW_STATUS_VAUX_OK = true ∧
    State.reset.on A.pw PW_STATUS_VAUX_OK = false := by decide +kernel

theorem witness_ContactsAndTestPort :
    (demo 6).tapRuns = true ∧ (demo 6).contacts.resetN = false ∧ demoReset.tapRuns = true ∧
    demoReset.contacts.resetN = true := by decide +kernel

/-! ## Well-formedness: each check refuses a term that violates it alone, and takes the last value in range -/

/-- A datagram with nothing in it. -/
def demoDatagram : Datagram := ⟨0, 0, 0, false, [], [], false⟩

/-- What the cryptographic units find in no image. -/
def demoCrypto : Crypto := ⟨false, [], [], []⟩

theorem illFormed_0 : ∀ c ∈ ([
    .registerWrite 14 0 0, .registerWrite 0 (2 ^ 44) 0, .registerWrite 0 0 (2 ^ 64), .rwpValueWrite 14 0 0,
     .rwpValueWrite 0 (2 ^ 44) 0, .rwpValueWrite 0 0 (2 ^ 64), .rwpComplementWrite 14 0 0,
     .rwpComplementWrite 0 (2 ^ 44) 0, .rwpComplementWrite 0 0 (2 ^ 64), .rwpArmExpiry (2 ^ 44),
     .dieLinkFlitReceive 8 0 0 none, .dieLinkFlitReceive 0 2 0 none, .sliceTimeCompare 8 0, .sliceTimeReload 8,
     .tbAddendCommit (2 ^ 64), .tbRoleWrite 8, .syncReceive 0x202 0 0 0 0 0 0 0, .syncReceive 0 256 0 0 0 0 0 0,
     .syncReceive 0 0 65536 0 0 0 0 0, .syncReceive 0 0 0 0 0 0 0 128, .stepAuth (2 ^ 64),
     .pdelayMeasurement 512 0 0 0 0 none, .pdelayMeasurement 0 65536 0 0 0 none, .suspectEnd 0x202,
     .delayReqSend 0x202, .delayRespReceive 0x202 0 0 0 0, .delayRespReceive 0 65536 0 0 0,
     .delayRespReceive 0 0 0 0 128, .tpArm 16, .tpDisarm 16, .tpOutputCompare 16, .tpCaptureEdge 16 false,
     .tpCapSecRead 16, .scNowSecRead 2048, .flushPd 0x202, .clearFaulty 0x202, .physSyncSend 512,
     .announceReceive 0x202 0 0 0 0 0 0 0, .announceReceive 0 256 0 0 0 0 0 0, .announceReceive 0 0 256 0 0 0 0 0] : List Instr), c.wf = false := by decide +kernel

theorem illFormed_1 : ∀ c ∈ ([
    .announceReceive 0 0 0 4294967296 0 0 0 0, .announceReceive 0 0 0 0 256 0 0 0,
     .announceReceive 0 0 0 0 0 (2 ^ 64) 0 0, .announceReceive 0 0 0 0 0 0 65536 0, .push 2048 0 0, .push 0 8 0,
     .push 0 0 65536, .flush 2048 0, .flush 0 65536, .segNop 2048 0, .segNop 0 65536, .segmentSwitch 2048,
     .scCellEnable 2048 false, .frameConversion 262144 0, .frameConversion 0 (2 ^ 64), .sceneSyncSend 2048 0,
     .sceneSyncSend 0 512, .sceneAnnounceSend 2048 0, .sceneAnnounceSend 0 512, .envelopeFrame 512 [],
     .envelopeHeartbeat 512 [], .envelopeEndOfStream 512 [], .envelopeGrantRequest 512 [], .grantAnswerSend 262144,
     .sourceTimeout 8 0, .sourceTimeout 0 512, .grantPeriod 8 0, .grantPeriod 0 512, .grantEventSend 8 0,
     .grantEventSend 0 512, .lateTest 262144, .holdLimitExpiry 262144, .launchStage 512, .shadowOpen 512, .launch 512,
     .transmitComplete 512, .lnRwRead 8, .lnRwWrite 8, .configChange 512 0, .configChange 0 65536] : List Instr), c.wf = false := by decide +kernel

theorem illFormed_2 : ∀ c ∈ ([
    .cancel 512 0, .cancel 0 65536, .gcCmdNop 512 0, .gcCmdNop 0 65536, .configChangeTime 512,
     .gateEntryStart 512 false, .gateEnWrite 512 false, .gcListDataRead 512, .egressEnqueue 8, .transmitSelect 512,
     .preempt 512, .algoApply 512 0, .algoApply 0 8, .verifySend 512, .verifyFrameReceive 512 false,
     .restartVerify 512, .lldpSend 512, .lldpReceive 512 [], .lldpTtlExpiry 512, .fragmentReceive 512 0 0 0 [],
     .fragmentReceive 0 8 0 0 [], .fragmentReceive 0 0 4 0 [], .fragmentReceive 0 0 0 4 [], .queueSample 512,
     .commit 2048 0, .commit 0 65536, .clMxCancel 2048 0, .clMxCancel 0 65536, .clMxNop 2048 0, .clMxNop 0 65536,
     .matrixChangeEffective 2048, .clCellEnable 2048 false, .matrixCycleStart 2048, .coldstartForward 2048,
     .substitution 2048 0 0 0, .substitution 0 2 0 0, .substitution 0 0 64 0, .substitution 0 0 0 256,
     .cycleMark 2048 0, .cycleMark 0 16] : List Instr), c.wf = false := by decide +kernel

theorem illFormed_3 : ∀ c ∈ ([
    .clMarkCfgWrite 8 0, .clMarkCfgWrite 0 (2 ^ 64), .clNodeCfgWrite 8 0, .clNodeCfgWrite 0 (2 ^ 64), .clMxW1Read 8,
     .ingressFrame 512 [] false false, .recircPass 8 0, .recircPass 0 8, .cfRead 8, .add 8, .remove 8, .commitEpoch 8,
     .clearHits 8, .epochRetire 8, .stNop 8 0, .stNop 0 65536, .stRead 8 0, .stRead 0 65536, .stage 8 0,
     .stage 0 65536, .stCommit 8 0, .stCommit 0 65536, .stAbort 8 0, .stAbort 0 65536, .readCounts 8 0,
     .readCounts 0 65536, .unblock 8 0, .unblock 0 65536, .batchApply 8, .lateApply 8, .stGrpRead 8, .stGrpStage 8,
     .sgConfigChange 8 0 0, .sgConfigChange 0 65536 0, .sgConfigChange 0 0 65536, .sgCancel 8 0 0,
     .sgCancel 0 65536 0, .sgCancel 0 0 65536, .sgClear 8 0 0, .sgClear 0 65536 0] : List Instr), c.wf = false := by decide +kernel

theorem illFormed_4 : ∀ c ∈ ([
    .sgClear 0 0 65536, .sgNop 8 0 0, .sgNop 0 65536 0, .sgNop 0 0 65536, .sgConfigChangeTime 8 0,
     .sgConfigChangeTime 0 65536, .sgEntryStart 8 0, .sgEntryStart 0 65536, .sgDataRead 8, .fmRead 8, .fmWrite 8,
     .clearRed 8, .frGenRead 8, .frGenWrite 8, .frGenReset 8, .frRecRead 8, .frRecWrite 8, .frRecReset 8,
     .frRecClearCounts 8, .recoveryResetTimer 8 0, .recoveryResetTimer 0 65536, .latentErrorTest 8 0,
     .latentErrorTest 0 65536, .latentBaseReset 8 0, .latentBaseReset 0 65536, .heartbeatReceive 2 [],
     .pairLinkTimeout 2, .stateMessageSend 256 0, .stateMessageReceive 2 [], .captureRecordWrite 3,
     .journalReport 256 0 0 0 0, .journalReport 0 65536 0 0 0, .journalReport 0 0 256 0 0,
     .journalReport 0 0 0 (2 ^ 64) 0, .journalReport 0 0 0 0 (2 ^ 64), .coalescerFlush 256, .ack 8 0 0, .ack 0 8 0,
     .ack 0 0 4294967296, .datagramReceive { demoDatagram with lane := 2 }] : List Instr), c.wf = false := by decide +kernel

theorem illFormed_5 : ∀ c ∈ ([
    .controlLaneLoss 2, .readWord 8 0, .readWord 0 (2 ^ 44), .writeWord 8 0 0, .writeWord 0 (2 ^ 44) 0,
     .writeWord 0 0 (2 ^ 64), .writePair 8 0 0, .writePair 0 (2 ^ 44) 0, .writePair 0 0 (2 ^ 64), .rmw 8 0 0 0,
     .rmw 0 (2 ^ 44) 0 0, .rmw 0 0 (2 ^ 64) 0, .rmw 0 0 0 (2 ^ 64), .blockRead 8 0 0, .blockRead 0 (2 ^ 44) 0,
     .blockRead 0 0 65536, .blockWrite 8 0 [], .blockWrite 0 (2 ^ 44) [], .blockWrite 0 0 [0, 2 ^ 64],
     .ringPush 8 0 [], .ringPush 0 256 [], .ringPush 0 0 [0, 2 ^ 64], .head 8 0 0, .head 0 256 0, .head 0 0 65536,
     .hello 8 0 0, .hello 0 65536 0, .hello 0 0 4294967296, .key 8 (List.replicate 32 0),
     .key 0 (List.replicate 31 0), .start 256, .stop 256, .resume 256, .skip 256, .ringReset 256, .rgProdWrite 256 0,
     .rgProdWrite 0 (2 ^ 64), .rgConsWrite 256 0, .rgConsWrite 0 (2 ^ 64), .descriptorExecute 256] : List Instr), c.wf = false := by decide +kernel

theorem illFormed_6 : ∀ c ∈ ([
    .txFrame 256, .entryComplete 256, .stallRelease 256, .ringEvent 256, .dmGo 4 0 0, .dmGo 0 32 0, .dmGo 0 0 14,
     .transferLoad 4 0, .transferLoad 0 32, .transferStart 4, .transferComplete 4 0, .transferComplete 0 32,
     .frameOut 4 0, .frameOut 0 32, .busError 4 0 0, .busError 0 32 0, .engineFault 4 0 [],
     .engineFault 0 (2 ^ 44) [], .dmEngClear 4, .clearHalt 4 0, .clearHalt 0 32, .powerDownRequest 3 0,
     .powerDownRequest 0 16, .drainLimitExpiry 3 0 [], .drainLimitExpiry 0 16 [], .snapshot 16 0 0,
     .snapshot 0 65536 0, .snapshot 0 0 14, .clearBank 16, .evcApply 8 0, .evcApply 0 64, .bwWindowEnd 512,
     .sampleDrain 8 false, .resetEnd 4 0, .verify 65536 demoCrypto, .load 65536 demoCrypto,
     .calibrateComplete [] [0, 16] [], .calibrateComplete [] [] [0, 16], .secverRaise (2 ^ 64), .anchorRevoke (2 ^ 64)] : List Instr), c.wf = false := by decide +kernel

theorem illFormed_7 : ∀ c ∈ ([
    .fence 2 0, .fence 0 16, .fenceDrainComplete 8, .unfence 2 0, .unfence 0 16, .unfenceEffective 8, .rebuild 8,
     .buildComplete 8 false, .constCheck [0, 2 ^ 44] 0, .serdesAdapt 512 0, .ddrScrub 0 [0, 2 ^ 44] 0,
     .request 256 0 0, .request 0 256 0, .request 0 0 65536, .testCancel 65536 0, .testCancel 0 65536,
     .testItemComplete 65536 ⟨0, 0, 0, [], 0, 0, 0⟩ [], .supplyInRange 8, .railFault 4 0 [], .railFault 0 16 [],
     .domainOff 16, .domainOn 16, .injectorArm 512 0 0, .injectorArm 0 4 0, .injectorArm 0 0 (2 ^ 64),
     .injectorStart 512 0, .injectorStart 0 4, .injectorRelease 512 0, .injectorRelease 0 4, .fiTskewWrite 512 0,
     .fiTskewWrite 0 (2 ^ 64), .portLinkLoss 512, .portLinkUp 512 0, .portLinkUp 0 8, .controlLaneUp 2,
     .pdelayReqSend 512, .physAnnounceSend 512, .ddrUnfenceComplete 16] : List Instr), c.wf = false := by decide +kernel

theorem wellFormed_0 : ∀ c ∈ ([
    .registerWrite 13 0 0, .registerWrite 0 (2 ^ 44 - 1) 0, .registerWrite 0 0 (2 ^ 64 - 1), .rwpValueWrite 13 0 0,
     .rwpValueWrite 0 (2 ^ 44 - 1) 0, .rwpValueWrite 0 0 (2 ^ 64 - 1), .rwpComplementWrite 13 0 0,
     .rwpComplementWrite 0 (2 ^ 44 - 1) 0, .rwpComplementWrite 0 0 (2 ^ 64 - 1), .rwpArmExpiry (2 ^ 44 - 1),
     .dieLinkFlitReceive 7 0 0 none, .dieLinkFlitReceive 0 1 0 none, .sliceTimeCompare 7 0, .sliceTimeReload 7,
     .tbAddendCommit (2 ^ 64 - 1), .tbRoleWrite 7, .syncReceive 0x201 0 0 0 0 0 0 0, .syncReceive 0 255 0 0 0 0 0 0,
     .syncReceive 0 0 65535 0 0 0 0 0, .syncReceive 0 0 0 0 0 0 0 (-128), .stepAuth (2 ^ 64 - 1),
     .pdelayMeasurement 511 0 0 0 0 none, .pdelayMeasurement 0 65535 0 0 0 none, .suspectEnd 0x201,
     .delayReqSend 0x201, .delayRespReceive 0x201 0 0 0 0, .delayRespReceive 0 65535 0 0 0,
     .delayRespReceive 0 0 0 0 (-128), .tpArm 15, .tpDisarm 15, .tpOutputCompare 15, .tpCaptureEdge 15 false,
     .tpCapSecRead 15, .scNowSecRead 2047, .flushPd 0x201, .clearFaulty 0x201, .physSyncSend 511,
     .announceReceive 0x201 0 0 0 0 0 0 0, .announceReceive 0 255 0 0 0 0 0 0, .announceReceive 0 0 255 0 0 0 0 0] : List Instr), c.wf = true := by decide +kernel

theorem wellFormed_1 : ∀ c ∈ ([
    .announceReceive 0 0 0 4294967295 0 0 0 0, .announceReceive 0 0 0 0 255 0 0 0,
     .announceReceive 0 0 0 0 0 (2 ^ 64 - 1) 0 0, .announceReceive 0 0 0 0 0 0 65535 0, .push 2047 0 0, .push 0 7 0,
     .push 0 0 65535, .flush 2047 0, .flush 0 65535, .segNop 2047 0, .segNop 0 65535, .segmentSwitch 2047,
     .scCellEnable 2047 false, .frameConversion 262143 0, .frameConversion 0 (2 ^ 64 - 1), .sceneSyncSend 2047 0,
     .sceneSyncSend 0 511, .sceneAnnounceSend 2047 0, .sceneAnnounceSend 0 511, .envelopeFrame 511 [],
     .envelopeHeartbeat 511 [], .envelopeEndOfStream 511 [], .envelopeGrantRequest 511 [], .grantAnswerSend 262143,
     .sourceTimeout 7 0, .sourceTimeout 0 511, .grantPeriod 7 0, .grantPeriod 0 511, .grantEventSend 7 0,
     .grantEventSend 0 511, .lateTest 262143, .holdLimitExpiry 262143, .launchStage 511, .shadowOpen 511, .launch 511,
     .transmitComplete 511, .lnRwRead 7, .lnRwWrite 7, .configChange 511 0, .configChange 0 65535] : List Instr), c.wf = true := by decide +kernel

theorem wellFormed_2 : ∀ c ∈ ([
    .cancel 511 0, .cancel 0 65535, .gcCmdNop 511 0, .gcCmdNop 0 65535, .configChangeTime 511,
     .gateEntryStart 511 false, .gateEnWrite 511 false, .gcListDataRead 511, .egressEnqueue 7, .transmitSelect 511,
     .preempt 511, .algoApply 511 0, .algoApply 0 7, .verifySend 511, .verifyFrameReceive 511 false,
     .restartVerify 511, .lldpSend 511, .lldpReceive 511 [], .lldpTtlExpiry 511, .fragmentReceive 511 0 0 0 [],
     .fragmentReceive 0 7 0 0 [], .fragmentReceive 0 0 3 0 [], .fragmentReceive 0 0 0 3 [], .queueSample 511,
     .commit 2047 0, .commit 0 65535, .clMxCancel 2047 0, .clMxCancel 0 65535, .clMxNop 2047 0, .clMxNop 0 65535,
     .matrixChangeEffective 2047, .clCellEnable 2047 false, .matrixCycleStart 2047, .coldstartForward 2047,
     .substitution 2047 0 0 0, .substitution 0 1 0 0, .substitution 0 0 63 0, .substitution 0 0 0 255,
     .cycleMark 2047 0, .cycleMark 0 15] : List Instr), c.wf = true := by decide +kernel

theorem wellFormed_3 : ∀ c ∈ ([
    .clMarkCfgWrite 7 0, .clMarkCfgWrite 0 (2 ^ 64 - 1), .clNodeCfgWrite 7 0, .clNodeCfgWrite 0 (2 ^ 64 - 1),
     .clMxW1Read 7, .ingressFrame 511 [] false false, .recircPass 7 0, .recircPass 0 7, .cfRead 7, .add 7, .remove 7,
     .commitEpoch 7, .clearHits 7, .epochRetire 7, .stNop 7 0, .stNop 0 65535, .stRead 7 0, .stRead 0 65535,
     .stage 7 0, .stage 0 65535, .stCommit 7 0, .stCommit 0 65535, .stAbort 7 0, .stAbort 0 65535, .readCounts 7 0,
     .readCounts 0 65535, .unblock 7 0, .unblock 0 65535, .batchApply 7, .lateApply 7, .stGrpRead 7, .stGrpStage 7,
     .sgConfigChange 7 0 0, .sgConfigChange 0 65535 0, .sgConfigChange 0 0 65535, .sgCancel 7 0 0,
     .sgCancel 0 65535 0, .sgCancel 0 0 65535, .sgClear 7 0 0, .sgClear 0 65535 0] : List Instr), c.wf = true := by decide +kernel

theorem wellFormed_4 : ∀ c ∈ ([
    .sgClear 0 0 65535, .sgNop 7 0 0, .sgNop 0 65535 0, .sgNop 0 0 65535, .sgConfigChangeTime 7 0,
     .sgConfigChangeTime 0 65535, .sgEntryStart 7 0, .sgEntryStart 0 65535, .sgDataRead 7, .fmRead 7, .fmWrite 7,
     .clearRed 7, .frGenRead 7, .frGenWrite 7, .frGenReset 7, .frRecRead 7, .frRecWrite 7, .frRecReset 7,
     .frRecClearCounts 7, .recoveryResetTimer 7 0, .recoveryResetTimer 0 65535, .latentErrorTest 7 0,
     .latentErrorTest 0 65535, .latentBaseReset 7 0, .latentBaseReset 0 65535, .heartbeatReceive 1 [],
     .pairLinkTimeout 1, .stateMessageSend 255 0, .stateMessageReceive 1 [], .captureRecordWrite 2,
     .journalReport 255 0 0 0 0, .journalReport 0 65535 0 0 0, .journalReport 0 0 255 0 0,
     .journalReport 0 0 0 (2 ^ 64 - 1) 0, .journalReport 0 0 0 0 (2 ^ 64 - 1), .coalescerFlush 255, .ack 7 0 0,
     .ack 0 7 0, .ack 0 0 4294967295, .datagramReceive { demoDatagram with lane := 1 }] : List Instr), c.wf = true := by decide +kernel

theorem wellFormed_5 : ∀ c ∈ ([
    .controlLaneLoss 1, .readWord 7 0, .readWord 0 (2 ^ 44 - 1), .writeWord 7 0 0, .writeWord 0 (2 ^ 44 - 1) 0,
     .writeWord 0 0 (2 ^ 64 - 1), .writePair 7 0 0, .writePair 0 (2 ^ 44 - 1) 0, .writePair 0 0 (2 ^ 64 - 1),
     .rmw 7 0 0 0, .rmw 0 (2 ^ 44 - 1) 0 0, .rmw 0 0 (2 ^ 64 - 1) 0, .rmw 0 0 0 (2 ^ 64 - 1), .blockRead 7 0 0,
     .blockRead 0 (2 ^ 44 - 1) 0, .blockRead 0 0 65535, .blockWrite 7 0 [], .blockWrite 0 (2 ^ 44 - 1) [],
     .blockWrite 0 0 [2 ^ 64 - 1], .ringPush 7 0 [], .ringPush 0 255 [], .ringPush 0 0 [2 ^ 64 - 1], .head 7 0 0,
     .head 0 255 0, .head 0 0 65535, .hello 7 0 0, .hello 0 65535 0, .hello 0 0 4294967295,
     .key 7 (List.replicate 32 0), .key 0 (List.replicate 32 255), .start 255, .stop 255, .resume 255, .skip 255,
     .ringReset 255, .rgProdWrite 255 0, .rgProdWrite 0 (2 ^ 64 - 1), .rgConsWrite 255 0, .rgConsWrite 0 (2 ^ 64 - 1),
     .descriptorExecute 255] : List Instr), c.wf = true := by decide +kernel

theorem wellFormed_6 : ∀ c ∈ ([
    .txFrame 255, .entryComplete 255, .stallRelease 255, .ringEvent 255, .dmGo 3 0 0, .dmGo 0 31 0, .dmGo 0 0 13,
     .transferLoad 3 0, .transferLoad 0 31, .transferStart 3, .transferComplete 3 0, .transferComplete 0 31,
     .frameOut 3 0, .frameOut 0 31, .busError 3 0 0, .busError 0 31 0, .engineFault 3 0 [],
     .engineFault 0 (2 ^ 44 - 1) [], .dmEngClear 3, .clearHalt 3 0, .clearHalt 0 31, .powerDownRequest 2 0,
     .powerDownRequest 0 15, .drainLimitExpiry 2 0 [], .drainLimitExpiry 0 15 [], .snapshot 15 0 0,
     .snapshot 0 65535 0, .snapshot 0 0 13, .clearBank 15, .evcApply 7 0, .evcApply 0 63, .bwWindowEnd 511,
     .sampleDrain 7 false, .resetEnd 3 0, .verify 65535 demoCrypto, .load 65535 demoCrypto,
     .calibrateComplete [] [15] [], .calibrateComplete [] [] [15], .secverRaise (2 ^ 64 - 1),
     .anchorRevoke (2 ^ 64 - 1)] : List Instr), c.wf = true := by decide +kernel

theorem wellFormed_7 : ∀ c ∈ ([
    .fence 1 0, .fence 0 15, .fenceDrainComplete 7, .unfence 1 0, .unfence 0 15, .unfenceEffective 7, .rebuild 7,
     .buildComplete 7 false, .constCheck [2 ^ 44 - 1] 0, .serdesAdapt 511 0, .ddrScrub 0 [2 ^ 44 - 1] 0,
     .request 255 0 0, .request 0 255 0, .request 0 0 65535, .testCancel 65535 0, .testCancel 0 65535,
     .testItemComplete 65535 ⟨0, 0, 0, [], 0, 0, 0⟩ [], .supplyInRange 7, .railFault 3 0 [], .railFault 0 15 [],
     .domainOff 15, .domainOn 15, .injectorArm 511 0 0, .injectorArm 0 3 0, .injectorArm 0 0 (2 ^ 64 - 1),
     .injectorStart 511 0, .injectorStart 0 3, .injectorRelease 511 0, .injectorRelease 0 3, .fiTskewWrite 511 0,
     .fiTskewWrite 0 (2 ^ 64 - 1), .portLinkLoss 511, .portLinkUp 511 0, .portLinkUp 0 7, .controlLaneUp 1,
     .pdelayReqSend 511, .physAnnounceSend 511, .ddrUnfenceComplete 15] : List Instr), c.wf = true := by decide +kernel

/-! ## Small runs against the spec's own numbers -/

/-- "123456789" gives 0xE306_9283 (R94). -/
theorem test_crc32c : crc32c (le 9 0x393837363534333231) = 0xE3069283 := by decide +kernel

/-- From Reset, a tick of 7 ns at the nominal addend adds 7 ns to the time base (R6). -/
theorem test_tick_adds_ns :
    ∀ t ∈ match step { demo 5 with pending := [.timeBaseTick 7] } with
      | .next t => some t
      | _ => none, nsOf t.nowQ = nsOf (demo 5).nowQ + 7 ∧ t.pending = [] := by decide +kernel

/-- TB_ADDEND takes nominal ± 500 ppm and nothing beyond (R32). -/
theorem test_addend_range :
    (match exec (.tbAddendCommit 0x10020C49C) (demo 5) with
      | .next t => t.get A.tb TB_ADDEND_ADDEND
      | _ => 0) = 0x10020C49C ∧
    (match exec (.tbAddendCommit 0x10020C49D) (demo 5) with
      | .next t => t.get A.tb TB_ADDEND_ADDEND
      | _ => 0) = 0x100000000 := by decide +kernel

/-- A READ of an address that is no multiple of 8 answers BAD_VALUE, one of a reserved region NO_TARGET (R448, R449). -/
theorem test_read_refused :
    (match exec (.readWord 0 (A.pw + 4)) (demo 6) with
      | .next t => t.out.getLast?
      | _ => none) = some (.response 0 opRead stBadValue 0 1 []) ∧
    (match exec (.readWord 0 0x04000000) (demo 6) with
      | .next t => t.out.getLast?
      | _ => none) = some (.response 0 opRead stNoTarget 0 1 []) := by decide +kernel

/-- The root PLL's loss halts the module with one journal entry (R23), and only Reset leaves Halt. -/
theorem test_pll_loss :
    (match exec .rootPllLoss (demo 6) with
      | .next t => (t.mode, t.get A.md MD_STATUS_CAUSE)
      | _ => (0, 0)) = (11, 5) ∧
    (match exec .goService (demo 11) with
      | .next t => (t.mode, t.get A.md MD_CMD_STATUS)
      | _ => (0, 0)) = (11, stBadValue) := by decide +kernel

/-- PMBUS_REVISION answers 0x33 (R411). -/
theorem test_pmbus_revision :
    (match exec .pmbusRevision (demo 6) with
      | .next t => t.out.getLast?
      | _ => none) = some (.pmbus [0x33]) := by decide +kernel

/-- A failed die link flit is retried and counted; the eighth fails the link and fences the slice (R15). -/
theorem test_link_retry :
    (match exec (.dieLinkFlitReceive 1 1 3 none) ((demo 6).put (A.sd 1) SD_LINK_CT_UP 1) with
      | .next t => t.get (A.mss 1) MSS_LINK_RETRY_CT_COUNT
      | _ => 0) = 3 := by decide +kernel

end
end

/-!
PROOFS. The statements of spec/09_redundancy.md about scene-clock commands on the Mirror unit (R272) and about the reset of
recoveries (R255), with the rules of the operations that they rest on.
-/

section
namespace Sys2Proof.Machine

/-! ## PUSH and FLUSH on the Mirror unit (R272) -/

theorem exec_push (c kind tag : Nat) (s : State) :
    exec (.push c kind tag) s = .next (if s.isScene c then s.push c kind tag else s) := rfl

theorem exec_flush (c tag : Nat) (s : State) :
    exec (.flush c tag) s = .next (if s.isScene c then s.flush c tag else s) := rfl

/-- The Mirror unit refuses every PUSH at the first of its checks. -/
theorem State.pushStatus_mirror {s : State} (c kind : Nat) (h : s.mirrorRole = true) :
    s.pushStatus c kind = stBadValue := by
  simp [State.pushStatus, h]

theorem State.push_of_refused {s : State} {c kind : Nat} (tag : Nat) (h : s.pushStatus c kind ≠ stOK) :
    s.push c kind tag = s.segResult c tag (s.pushStatus c kind) 0 0 false := by
  simp [State.push, h]

theorem State.flush_mirror {s : State} (c tag : Nat) (h : s.mirrorRole = true) :
    s.flush c tag = s.segResult c tag stBadValue 0 0 false := by
  simp [State.flush, h]

/-- A result shows its status, cut to the field's eight bits. -/
theorem State.segResult_status (s : State) (c tag status index flushed : Nat) (adj : Bool) :
    (s.segResult c tag status index flushed adj).get (A.scc c) SC_SEG_RESULT_STATUS = status % 2 ^ 8 :=
  State.get_put_same _ _ _ _ (by decide)

/-- Settles O25: the Mirror role fails the first check of a PUSH and the guard of a FLUSH. -/
theorem mirrorRefusesSegmentCommands : Obligations.MirrorRefusesSegmentCommands := by
  unfold Obligations.MirrorRefusesSegmentCommands
  intro s c kind tag hscene hmirror
  have hst := State.pushStatus_mirror (s := s) c kind hmirror
  refine ⟨?_, ?_, State.segResult_status ..⟩
  · have hpush := State.push_of_refused (s := s) (c := c) (kind := kind) tag (by rw [hst]; decide)
    rw [exec_push, if_pos hscene, hpush, hst]
  · rw [exec_flush, if_pos hscene, State.flush_mirror c tag hmirror]

/-! ## An operation on every slice -/

theorem State.lt_of_isSlice {s : State} {n : Nat} (h : s.isSlice n = true) : n < 8 :=
  of_decide_eq_true (Bool.and_eq_true_iff.mp h).1

theorem State.isSlice_of_image {s u : State} (h : u.image = s.image) (n : Nat) : u.isSlice n = s.isSlice n := by
  unfold State.isSlice
  rw [h]

/-- The slices of `l`, one after the other, keep what the operation on each of them keeps. -/
theorem State.foldl_slices_keeps {α : Type} (obs : State → α) {f : Nat → State → State} (l : List Nat) (s : State)
    (h : ∀ n ∈ l, ∀ u, obs (f n u) = obs u) :
    obs (l.foldl (fun u n => if u.isSlice n then f n u else u) s) = obs s := by
  refine List.foldlRecOn (motive := fun u => obs u = obs s) l _ rfl fun u hu n hn => ?_
  split
  · rw [h n hn, hu]
  · exact hu

/-- What an operation leaves alone on every slice but `m` is, after the operation on every slice, what the operation on
`m` makes of it. -/
theorem State.everySlice_at {α : Type} (obs : State → α) {f : Nat → State → State} {s : State} {m : Nat}
    (hs : s.isSlice m = true) (himage : ∀ n u, (f n u).image = u.image)
    (hobs : ∀ n u, n < 8 → n ≠ m → obs (f n u) = obs u) :
    ∃ u, obs u = obs s ∧ obs (s.everySlice f) = obs (f m u) := by
  obtain ⟨before, after, hsplit⟩ := List.append_of_mem (List.mem_range.mpr (State.lt_of_isSlice hs))
  have hnodup : (before ++ m :: after).Nodup := hsplit ▸ List.nodup_range
  have hbound : ∀ n ∈ before ++ m :: after, n < 8 := fun n hn => List.mem_range.mp (hsplit ▸ hn)
  obtain ⟨-, hrest, hdisjoint⟩ := List.nodup_append.mp hnodup
  have hbefore : m ∉ before := fun h => hdisjoint m h m List.mem_cons_self rfl
  have hafter : m ∉ after := (List.nodup_cons.mp hrest).1
  refine ⟨before.foldl (fun u n => if u.isSlice n then f n u else u) s, ?_, ?_⟩
  · exact State.foldl_slices_keeps obs before s fun n hn u =>
      hobs n u (hbound n (by simp [hn])) fun e => hbefore (e ▸ hn)
  · have hslice := State.isSlice_of_image (State.foldl_slices_keeps (·.image) before s fun n _ u => himage n u) m
    unfold State.everySlice
    rw [hsplit, List.foldl_append, List.foldl_cons, if_pos (hslice.trans hs)]
    exact State.foldl_slices_keeps obs after _ fun n hn u =>
      hobs n u (hbound n (by simp [hn])) fun e => hafter (e ▸ hn)

/-! ## The rules of a recovery's state -/

@[simp] theorem State.setRec_image (s : State) (n i : Nat) (x : RecState) : (s.setRec n i x).image = s.image := rfl

@[simp] theorem State.get_setRec (s : State) (n i : Nat) (x : RecState) (b : Nat) (f : Fld) :
    (s.setRec n i x).get b f = s.get b f := rfl

@[simp] theorem State.rec_put (s : State) (b : Nat) (f : Fld) (v n i : Nat) :
    (s.put b f v).rec_ n i = s.rec_ n i := rfl

@[simp] theorem State.rec_setRec_same (s : State) (n i : Nat) (x : RecState) : (s.setRec n i x).rec_ n i = x :=
  SMap.get_set_same ..

theorem State.rec_setRec_slice (s : State) {m n : Nat} (i : Nat) (x : RecState) (h : m ≠ n) :
    (s.setRec n i x).rec_ m i = s.rec_ m i :=
  SMap.get_set_other _ _ _ (by omega) _

/-- The tables behind the windows lie above every counter group, so a counter in them that wraps sets no overflow flag. -/
theorem State.overflow_trecf (s : State) (n i off : Nat) : s.overflow (A.trecf n i + off) = s := by
  have hgroup : ∀ e ∈ ovfBlocks, ¬ ((e.1 / 0x100000 == (A.trecf n i + off) / 0x100000) = true) := by
    have hlow : ∀ e ∈ ovfBlocks, e.1 / 0x100000 < 0x200 := by decide
    intro e he
    have := hlow e he
    simp only [A.trecf, beq_iff_eq]
    omega
  have hslice : ¬ (0x10000000 ≤ A.trecf n i + off ∧ A.trecf n i + off < 0x18000000) := by
    simp only [A.trecf]
    omega
  simp only [State.overflow, if_neg hslice, List.find?_eq_none.mpr hgroup]

theorem State.bump_trecf (s : State) (n i : Nat) (f : Fld) :
    s.bump (A.trecf n i) f = s.put (A.trecf n i) f (s.get (A.trecf n i) f + 1) := by
  simp [State.bump, State.add, State.overflow_trecf]

/-- The registers of a slice's FR block are no part of a recovery. -/
theorem State.get_trecf_put_fr (s : State) {n : Nat} (m i v : Nat) {f g : Fld} (hn : n < 8) (hf : f.off < 0x1000) :
    (s.put (A.fr n) f v).get (A.trecf m i) g = s.get (A.trecf m i) g := by
  refine State.get_put_other _ _ ?_
  simp only [A.trecf, A.fr]
  omega

/-- A field of a recovery is no part of the same recovery of another slice. -/
theorem State.get_trecf_put_slice (s : State) {m n : Nat} (i v : Nat) {f g : Fld} (h : m ≠ n) (hf : f.off < 0x1000)
    (hg : g.off < 0x1000) : (s.put (A.trecf n i) f v).get (A.trecf m i) g = s.get (A.trecf m i) g := by
  refine State.get_put_other _ _ ?_
  simp only [A.trecf]
  omega

/-! ## The reset of a recovery (R255) -/

/-- What R255 speaks of in a recovery. -/
@[ext] structure RecView where
  valid : Nat
  hist : Nat
  resets : Nat
  lost : Nat

/-- The view of recovery `i` of slice `n`. -/
def State.recView (s : State) (n i : Nat) : RecView where
  valid := s.get (A.trecf n i) FR_REC_W2_VALID
  hist := (s.rec_ n i).hist
  resets := s.get (A.trecf n i) FR_REC_W9_RESETS
  lost := s.get (A.trecf n i) FR_REC_W7_LOST

/-- The reset of R255. -/
def RecView.reset (v : RecView) : RecView :=
  { v with valid := 0, hist := 0, resets := (v.resets + 1) % 2 ^ 64 }

/-- The view after a reset, field by field. -/
theorem State.recView_eq_reset {s t : State} {n i : Nat} (h : t.recView n i = (s.recView n i).reset) :
    t.get (A.trecf n i) FR_REC_W2_VALID = 0 ∧ (t.rec_ n i).hist = 0 ∧
    t.get (A.trecf n i) FR_REC_W9_RESETS = (s.get (A.trecf n i) FR_REC_W9_RESETS + 1) % 2 ^ 64 ∧
    t.get (A.trecf n i) FR_REC_W7_LOST = s.get (A.trecf n i) FR_REC_W7_LOST := by
  obtain ⟨hvalid, hhist, hresets, hlost⟩ := RecView.ext_iff.mp h
  exact ⟨hvalid, hhist, hresets, hlost⟩

theorem State.recView_put_fr (s : State) {n : Nat} (m i v : Nat) {f : Fld} (hn : n < 8) (hf : f.off < 0x1000) :
    (s.put (A.fr n) f v).recView m i = s.recView m i := by
  simp [State.recView, State.get_trecf_put_fr, hn, hf]

/-- A reset writes VALID, the history, RESETS and the event of the slice, in this order. -/
theorem State.recReset_eq (s : State) (n i : Nat) :
    s.recReset n i = (((s.put (A.trecf n i) FR_REC_W2_VALID 0).setRec n i { s.rec_ n i with hist := 0 }).put
      (A.trecf n i) FR_REC_W9_RESETS (s.get (A.trecf n i) FR_REC_W9_RESETS + 1)).raise (A.fr n) FR_EVENT_FLAGS 1 := by
  have hresets : (s.put (A.trecf n i) FR_REC_W2_VALID 0).get (A.trecf n i) FR_REC_W9_RESETS =
      s.get (A.trecf n i) FR_REC_W9_RESETS := State.get_put_apart _ _ _ (by decide) (by decide)
  rw [State.recReset, State.bump_trecf, State.get_setRec, hresets]

theorem State.recReset_image (s : State) (n i : Nat) : (s.recReset n i).image = s.image := by
  rw [State.recReset_eq, State.raise, State.put_image, State.put_image, State.setRec_image, State.put_image]

/-- A reset does to its recovery what R255 says. -/
theorem State.recView_recReset_same (s : State) {n : Nat} (i : Nat) (hn : n < 8) :
    (s.recReset n i).recView n i = (s.recView n i).reset := by
  rw [State.recReset_eq, State.raise, State.recView_put_fr _ _ _ _ hn (by decide)]
  apply RecView.ext <;> simp only [State.recView, RecView.reset]
  case valid =>
    rw [State.get_put_apart _ _ _ (by decide) (by decide), State.get_setRec, State.get_put_same _ _ _ _ (by decide)]
    rfl
  case hist => rw [State.rec_put, State.rec_setRec_same]
  case resets => exact State.get_put_same _ _ _ _ (by decide)
  case lost =>
    rw [State.get_put_apart _ _ _ (by decide) (by decide), State.get_setRec,
      State.get_put_apart _ _ _ (by decide) (by decide)]

theorem State.get_recReset_slice (s : State) {m n : Nat} (i : Nat) {g : Fld} (hn : n < 8) (h : m ≠ n)
    (hg : g.off < 0x1000) : (s.recReset n i).get (A.trecf m i) g = s.get (A.trecf m i) g := by
  rw [State.recReset_eq, State.raise, State.get_trecf_put_fr _ _ _ _ hn (by decide),
    State.get_trecf_put_slice _ _ _ h (by decide) hg, State.get_setRec,
    State.get_trecf_put_slice _ _ _ h (by decide) hg]

theorem State.rec_recReset_slice (s : State) {m n : Nat} (i : Nat) (h : m ≠ n) :
    (s.recReset n i).rec_ m i = s.rec_ m i := by
  rw [State.recReset_eq, State.raise, State.rec_put, State.rec_put, State.rec_setRec_slice _ _ _ h, State.rec_put]

/-- A reset leaves the recoveries of the other slices alone. -/
theorem State.recView_recReset_slice (s : State) {m n : Nat} (i : Nat) (hn : n < 8) (h : m ≠ n) :
    (s.recReset n i).recView m i = s.recView m i := by
  have hget {g : Fld} (hg : g.off < 0x1000) := State.get_recReset_slice s i hn h hg
  unfold State.recView
  rw [State.rec_recReset_slice s i h, hget (by decide), hget (by decide), hget (by decide)]

/-- The reset on every slice resets the recovery of each slice that the module has. -/
theorem State.recView_everySlice_recReset {s : State} {m : Nat} (i : Nat) (hs : s.isSlice m = true) :
    (s.everySlice (fun n u => u.recReset n i)).recView m i = (s.recView m i).reset := by
  obtain ⟨u, hu, hreset⟩ := State.everySlice_at (·.recView m i) hs (fun n u => State.recReset_image u n i)
    fun n u hn h => State.recView_recReset_slice u i hn h.symm
  rw [hreset, State.recView_recReset_same u i (State.lt_of_isSlice hs), hu]

/-! ## The commands that reset -/

theorem exec_recoveryResetTimer (n i : Nat) (s : State) :
    exec (.recoveryResetTimer n i) s = .next (s.atSlice n (·.recTimer n i)) := rfl

theorem exec_frRecReset (n : Nat) (s : State) :
    exec (.frRecReset n) s = .next (s.atSlice n (·.recResetAll n)) := rfl

theorem State.atSlice_of_isSlice {s : State} {n : Nat} (f : State → State) (h : s.isSlice n = true) :
    s.atSlice n f = f s := if_pos h

theorem State.recTimer_of_expired {s : State} {n i : Nat} (hen : s.on (A.trecf n i) FR_REC_W0_EN = true)
    (hvalid : s.on (A.trecf n i) FR_REC_W2_VALID = true)
    (hms : s.get (A.trecf n i) FR_REC_W0_RESET_MS * 1000000 ≤ s.since (s.rec_ n i).passAt) :
    s.recTimer n i = s.recReset n i := by
  simp [State.recTimer, hen, hvalid, hms]

/-- Settles O44: the timer's reset is that of one recovery, and RESET's that of the recovery on every slice. -/
theorem recoveryResetsWithoutFrames : Obligations.RecoveryResetsWithoutFrames := by
  unfold Obligations.RecoveryResetsWithoutFrames
  refine ⟨fun s n i hslice _ hen hvalid hms => ⟨s.recReset n i, ?_, ?_⟩, fun s n hslice => ⟨s.recResetAll n, ?_, ?_⟩⟩
  · rw [exec_recoveryResetTimer, State.atSlice_of_isSlice _ hslice, State.recTimer_of_expired hen hvalid hms]
  · exact State.recView_eq_reset (State.recView_recReset_same s i (State.lt_of_isSlice hslice))
  · rw [exec_frRecReset, State.atSlice_of_isSlice _ hslice]
  · intro m _ hm
    apply State.recView_eq_reset
    rw [State.recResetAll, State.recView_put_fr _ _ _ _ (State.lt_of_isSlice hslice) (by decide)]
    exact State.recView_everySlice_recReset _ hm

end Sys2Proof.Machine
end

/-!
PROOFS. What reset leaves, the queue (log entry 2), register writes by access code and complement pairs
(spec/00_scope.md R7–R10).
-/

section
namespace Sys2Proof.Machine

/-! ## The queue and reset -/

/-- Settles O1: a step takes the front command off the queue and runs it. -/
theorem stepRunsFrontCommand : Obligations.StepRunsFrontCommand := fun _ _ _ => rfl

/-- Settles O2. -/
theorem emptyQueueIdles : Obligations.EmptyQueueIdles := by
  unfold Obligations.EmptyQueueIdles
  intro s hempty
  rw [step, hempty]

/-- The one word that reset lists is SY_ANCHOR_STATUS. -/
theorem State.word_reset (a : Nat) : State.reset.word a = if a = A.sy + 0x50 then 1 else resetWord a := rfl

/-- Settles O3: only SY_ANCHOR_STATUS is listed after reset. -/
theorem resetLeavesResetColumns : Obligations.ResetLeavesResetColumns := by
  unfold Obligations.ResetLeavesResetColumns
  refine ⟨fun a ha => ?_, ?_, by decide, rfl, rfl, rfl⟩
  · rw [State.word_reset, if_neg ha]
  · rw [State.word_reset, if_pos rfl]

/-- Settles O4: the one listed word differs from its Reset column. -/
theorem resetIsCanonical : Obligations.ResetIsCanonical :=
  show State.reset.wf from ⟨by decide, rfl⟩

/-! ## Only registers change -/

/-- A field is read from the register words alone. -/
theorem State.get_of_words {s t : State} (h : t.words = s.words) (b : Nat) (f : Fld) : t.get b f = s.get b f := by
  rw [State.get, State.word, h]
  rfl

theorem State.on_of_words {s t : State} (h : t.words = s.words) (b : Nat) (f : Fld) : t.on b f = s.on b f := by
  rw [State.on, State.get_of_words h]
  rfl

theorem regsOnly_refl (s : State) : regsOnly s s := rfl

theorem regsOnly_setWord (s : State) (a : Nat) (v : Word) : regsOnly s (s.setWord a v) := rfl

theorem regsOnly_put (s : State) (b : Nat) (f : Fld) (v : Nat) : regsOnly s (s.put b f v) := rfl

theorem regsOnly_trans {s t u : State} (hst : regsOnly s t) (htu : regsOnly t u) : regsOnly s u := by
  unfold regsOnly at *
  rw [htu, hst]

/-- Where only registers change the state is the old one with other register words. -/
theorem exists_words_of_regsOnly {s t : State} (h : regsOnly s t) : ∃ w, t = { s with words := w } := ⟨_, h⟩

theorem wordsKept_refl (p : Nat → Prop) (s : State) : wordsKept p s s := fun _ _ => rfl

theorem wordsKept_trans {p : Nat → Prop} {s t u : State} (hst : wordsKept p s t) (htu : wordsKept p t u) :
    wordsKept p s u := fun a ha => (htu a ha).trans (hst a ha)

theorem wordsKept_setWord {p : Nat → Prop} (s : State) {a : Nat} (v : Word) (h : p a) :
    wordsKept p s (s.setWord a v) := fun _ hb => State.word_setWord_other s v fun e => hb (e ▸ h)

theorem wordsKept_put {p : Nat → Prop} (s : State) {b : Nat} {f : Fld} (v : Nat) (h : p (b + f.off)) :
    wordsKept p s (s.put b f v) := wordsKept_setWord s _ h

theorem regsOnly.put {s t : State} (h : regsOnly s t) (b : Nat) (f : Fld) (v : Nat) : regsOnly s (t.put b f v) :=
  regsOnly_trans h (regsOnly_put ..)

theorem wordsKept.put {p : Nat → Prop} {s t : State} (h : wordsKept p s t) {b : Nat} {f : Fld} (v : Nat)
    (hp : p (b + f.off)) : wordsKept p s (t.put b f v) := wordsKept_trans h (wordsKept_put t v hp)

/-- A field written leaves every word but its own, which field `g` names. -/
theorem wordsKept.put_at {s t : State} {b : Nat} {f g : Fld} (h : wordsKept (· = b + g.off) s t) (v : Nat)
    (hf : f.off = g.off) : wordsKept (· = b + g.off) s (t.put b f v) :=
  h.put v (by rw [hf])

theorem regsOnly_putI (s : State) (b : Nat) (f : Fld) (i : Int) : regsOnly s (s.putI b f i) := rfl

theorem wordsKept_putI {p : Nat → Prop} (s : State) {b : Nat} {f : Fld} (i : Int) (h : p (b + f.off)) :
    wordsKept p s (s.putI b f i) := wordsKept_setWord s _ h

theorem State.get_putI_same (s : State) (b : Nat) (f : Fld) (i : Int) (h : f.ok) :
    (s.putI b f i).get b f = toTwos (f.hi + 1 - f.lo) i % 2 ^ (f.hi + 1 - f.lo) :=
  State.get_put_same s b f _ h

theorem State.get_putI_apart (s : State) (b : Nat) {f g : Fld} (i : Int) (h : f.ok) (d : f.apart g) :
    (s.putI b f i).get b g = s.get b g :=
  State.get_put_apart s b _ h d

/-! ## Plain writes (R8, R9) -/

theorem testBit_outside (m : Nat) {i : Nat} (hi : i < 64) : (outside m).testBit i = !m.testBit i := by
  rw [outside, Nat.testBit_xor, Nat.testBit_two_pow_sub_one, Nat.testBit_mod_two_pow]
  simp [hi]

/-- Bit by bit: cleared by ones, else written where it is rw, else kept. -/
theorem RegDef.testBit_after (r : RegDef) (old w : Nat) {i : Nat} (hi : i < 64) :
    (r.after old w).testBit i =
      if r.w1c.testBit i && w.testBit i then false else if r.rw.testBit i then w.testBit i else old.testBit i := by
  simp only [RegDef.after, Nat.testBit_and, Nat.testBit_or, testBit_outside _ hi]
  cases r.w1c.testBit i <;> cases r.rw.testBit i <;> cases w.testBit i <;> simp

theorem State.testBit_word_store (s : State) (a new : Nat) {i : Nat} (hi : i < 64) :
    ((s.store a new).2.word a).getLsbD i = new.testBit i := by
  rw [State.store, State.word_setWord_same, BitVec.getLsbD_ofNat, decide_eq_true hi, Bool.true_and]

theorem pairAt_of_findReg {a : Nat} {f : Found} (h : findReg a = some f) :
    pairAt a = if f.reg.rwp ≠ 0 then some f else none := by
  simp only [pairAt, h]

theorem pairAt_of_findReg_none {a : Nat} (h : findReg a = none) : pairAt a = none := by
  simp only [pairAt, h]

theorem pairBelow_add_eight (a : Nat) : pairBelow (a + 8) = pairAt a := by
  simp [pairBelow]

/-- A write to a register of a feed block, or of the control port's block, has no rule of its own. -/
theorem State.plainWrite_of_no_rule {s : State} {a w : Nat} {f : Found} (q : Nat) (hexists : s.exists? f = true)
    (hrange : f.reg.inRange w = true)
    (hblock : (∃ n, sliceOfAddr a = some n ∧ a / 0x100000 % 16 = 11) ∨ (sliceOfAddr a = none ∧ spanOf a = some 0x20)) :
    s.plainWrite q a w f = s.store a (f.reg.after (s.word a).toNat w) := by
  rcases hblock with ⟨n, hslice, hblk⟩ | ⟨hslice, hspan⟩
  · simp [State.plainWrite, State.writeSlice, hexists, hrange, hslice, hblk]
  · simp [State.plainWrite, State.writeModule, hexists, hrange, hslice, hspan]

theorem exec_registerWrite (q a w : Nat) (s : State) : exec (.registerWrite q a w) s =
    .next (if s.registerTurn a && (pairAt a).isNone && (pairBelow a).isNone then (s.regWrite q a w).2 else s) := rfl

/-- Settles O6: the write stores the word that the access codes give. -/
theorem registerWriteFollowsAccessCodes : Obligations.RegisterWriteFollowsAccessCodes := by
  unfold Obligations.RegisterWriteFollowsAccessCodes
  intro s q a w f hturn hfind hrwp hbelow hexists hrange hblock
  have hpair : pairAt a = none := by simp [pairAt_of_findReg hfind, hrwp]
  have hwrite : (s.regWrite q a w).2 = (s.store a (f.reg.after (s.word a).toNat w)).2 := by
    simp only [State.regWrite, hpair, hfind, State.plainWrite_of_no_rule q hexists hrange hblock]
  refine ⟨_, exec_registerWrite .., ?_⟩
  simp only [hturn, hpair, hbelow, Option.isNone_none, Bool.and_self, if_true, hwrite]
  refine ⟨regsOnly_setWord .., wordsKept_setWord _ _ rfl, fun i hi => ?_⟩
  rw [State.testBit_word_store _ _ _ hi, RegDef.testBit_after _ _ _ hi]
  rfl

/-! ## Complement pairs (R9, R10) -/

@[simp] theorem State.arm_setArm_same (s : State) (a : Nat) (x : Option Arm) : (s.setArm a x).arm a = x :=
  SMap.get_set_same ..

theorem State.arm_setArm_other (s : State) {a b : Nat} (x : Option Arm) (h : b ≠ a) :
    (s.setArm a x).arm b = s.arm b := SMap.get_set_other _ _ _ h _

theorem exec_rwpValueWrite (q a v : Nat) (s : State) : exec (.rwpValueWrite q a v) s =
    .next (if s.registerTurn a && (pairAt a).isSome then (s.regWrite q a v).2 else s) := rfl

/-- A complement in its turn reaches the pair below it. -/
theorem exec_rwpComplementWrite_of_pair {s : State} {a : Nat} {f : Found} (q w : Nat)
    (hturn : s.registerTurn (a + 8) = true) (hfree : findReg (a + 8) = none) (hpair : pairAt a = some f)
    (hexists : s.exists? f = true) :
    exec (.rwpComplementWrite q (a + 8) w) s = .next (s.complementPair q a w f).2 := by
  show Host.Outcome.next (if s.registerTurn (a + 8) && (pairBelow (a + 8)).isSome then (s.regWrite q (a + 8) w).2
    else s) = _
  simp [State.regWrite, hturn, pairAt_of_findReg_none hfree, pairBelow_add_eight, hfree, hpair, hexists]

/-- A complement in time meets the armed value. -/
theorem State.complementPair_of_armed {s : State} {a : Nat} {x : Arm} (q w : Nat) (f : Found) (harm : s.arm a = some x)
    (htime : s.since x.since ≤ armTicks) :
    s.complementPair q a w f =
      if x.requester = q ∧ w % 2 ^ 64 + x.value = 2 ^ 64 - 1 then (s.setArm a none).commitPair a x.value f
      else (stIntegrityWrite, (s.setArm a none).rejectPair q a) := by
  simp only [State.complementPair, harm, Nat.not_lt.mpr htime, if_false]

theorem State.complementPair_of_not_armed {s : State} {a : Nat} (q w : Nat) (f : Found) (harm : s.arm a = none) :
    s.complementPair q a w f = (stIntegrityWrite, s.rejectPair q a) := by
  simp only [State.complementPair, harm]

/-- A committed value of a module block's register without a rule of its own is stored. -/
theorem State.commitPair_of_no_rule {s : State} {a v : Nat} {f : Found} (hrange : f.reg.inRange v = true)
    (hslice : sliceOfAddr a = none) (hscene : f.kind = .scCell → (a - A.scc 0) % 0x800 ≠ 0xA0)
    (hrule : a ∉ [A.tb + 0x40, A.tb + 0x90, A.sy + 0x40, A.sy + 0x58]) :
    s.commitPair a v f = s.store a (v &&& f.reg.rwp) := by
  simp only [List.mem_cons, List.not_mem_nil, or_false, not_or] at hrule
  obtain ⟨haddend, hstep, hsecver, hanchor⟩ := hrule
  simp only [State.commitPair, hrange, Bool.not_true, Bool.false_eq_true, if_false, hslice, haddend, hstep, hsecver,
    hanchor]
  rw [if_neg fun h => hscene h.1 h.2]

/-- Settles O7: the value is noted with its requester and instant, and the matching complement stores it. -/
theorem pairIsArmedAndCommitted : Obligations.PairIsArmedAndCommitted := by
  unfold Obligations.PairIsArmedAndCommitted
  refine ⟨fun s q a v f hturn hpair hexists => ?_,
    fun s q a w f x hturn hfree hpair hexists harm htime hreq hsum hrange hslice hscene hrule => ?_⟩
  · refine ⟨s.armPair q a v, ?_, rfl, State.arm_setArm_same .., fun b hb => State.arm_setArm_other _ _ hb⟩
    simp [exec_rwpValueWrite, State.regWrite, hturn, hpair, hexists]
  · refine ⟨((s.setArm a none).store a (x.value &&& f.reg.rwp)).2, ?_, rfl, State.arm_setArm_same s a none,
      wordsKept_setWord (s.setArm a none) _ rfl, ?_⟩
    · rw [exec_rwpComplementWrite_of_pair q w hturn hfree hpair hexists,
        State.complementPair_of_armed q w f harm htime, if_pos ⟨hreq, hsum⟩,
        State.commitPair_of_no_rule hrange hslice hscene hrule]
    · have hlt : x.value &&& f.reg.rwp < 2 ^ 64 := Nat.lt_of_le_of_lt Nat.and_le_left (by omega)
      rw [State.store, State.word_setWord_same, BitVec.toNat_ofNat, Nat.mod_eq_of_lt hlt]

theorem exec_rwpArmExpiry (a : Nat) (s : State) : exec (.rwpArmExpiry a) s = .next (s.expireArm a) := rfl

/-- Settles O8: what does not match meets the rejection, and so does an arm whose time is over. -/
theorem pairIsRejected : Obligations.PairIsRejected := by
  unfold Obligations.PairIsRejected
  refine ⟨fun s q a w f hturn hfree hpair hexists hbad => ⟨_,
    exec_rwpComplementWrite_of_pair q w hturn hfree hpair hexists, ?_⟩, fun s a x harm htime => ?_⟩
  · rcases hbad with harm | ⟨x, harm, htime, hmiss⟩
    · exact ⟨s, rfl, harm, by rw [State.complementPair_of_not_armed q w f harm]⟩
    · refine ⟨s.setArm a none, rfl, State.arm_setArm_same .., ?_⟩
      rw [State.complementPair_of_armed q w f harm htime, if_neg fun h => hmiss.elim (· h.1) (· h.2)]
  · simp only [exec_rwpArmExpiry, State.expireArm, harm, Nat.not_lt.mpr htime, if_false]

end Sys2Proof.Machine
end

/-!
PROOFS. Clocks, die links and the time base (spec/01_module.md R15, R23; spec/02_physical_time.md R31–R34, R38).
-/

section
namespace Sys2Proof.Machine

/-! ## Flits, the root PLL and the slices' copies of the time base (R15, R23, R34) -/

theorem exec_dieLinkFlitReceive (n k failed : Nat) (bad : Option (Nat × Nat)) (s : State) :
    exec (.dieLinkFlitReceive n k failed bad) s = .next (s.flitReceive n k failed bad) := rfl

theorem exec_rootPllLoss (s : State) : exec .rootPllLoss s =
    .next (if s.mode = 0 ∨ s.mode = 11 then s else (s.enterHalt 5).report 14 0x0003 objNone 0 0) := rfl

/-- A copy further than 1 ns away is reloaded. -/
theorem exec_sliceTimeCompare {s : State} {n : Nat} (d : Nat) (hslice : s.isSlice n = true)
    (hnew : n ∉ s.sync.reloading) : exec (.sliceTimeCompare n d) s =
    .next (if nsQ 1 < d then { s with sync := { s.sync with reloading := n :: s.sync.reloading } } else s) := by
  show Host.Outcome.next (s.atSlice n _) = _
  simp [State.atSlice_of_isSlice _ hslice, hnew]

theorem exec_sliceTimeReload {s : State} {n : Nat} (h : n ∈ s.sync.reloading) : exec (.sliceTimeReload n) s =
    .next (State.reportOther { s with sync := { s.sync with reloading := s.sync.reloading.filter (· != n) } } 0
      objSlice n 0) := by
  show Host.Outcome.next (if s.sync.reloading.contains n then _ else s) = _
  rw [if_pos (List.contains_iff_mem.mpr h)]

/-- Settles O9. -/
theorem clockAndLinkEvents : Obligations.ClockAndLinkEvents := by
  unfold Obligations.ClockAndLinkEvents
  refine ⟨fun s n k failed hslice hk hup => ?_, fun s hreset hhalt => ?_, fun s n d hslice hnew => ?_,
    fun s n hold => ⟨_, exec_sliceTimeReload hold, ?_, fun m hm => ?_, rfl⟩⟩
  · have hlink : (!s.isSlice n || decide (2 ≤ k) || !s.on (A.sd n) (if k = 0 then SD_LINK_HD_UP else SD_LINK_CT_UP)) =
        false := by simp [hslice, hup, hk]
    rw [exec_dieLinkFlitReceive, State.flitReceive]
    by_cases hfail : failed < 8
    · simp [hlink, hfail, Nat.not_le.mpr hfail]
    · simp [hlink, hfail, Nat.not_lt.mp hfail]
  · rw [exec_rootPllLoss, if_neg (not_or.mpr ⟨hreset, hhalt⟩)]
  · refine ⟨_, exec_sliceTimeCompare d hslice hnew, ?_, ?_⟩
    · split <;> rfl
    · by_cases hd : nsQ 1 < d <;> simp [hd, hnew]
  · simp
  · simp [hm]

/-! ## The time base (R31) -/

theorem exec_timeBaseTick (n : Nat) (s : State) : exec (.timeBaseTick n) s = .next (State.fwRun 32 (s.tick n)) := rfl

/-- With no switch under way the control firmware stays as it is. -/
theorem State.fwRun_of_idle {s : State} (n : Nat) (hforth : s.fwState ≠ 2) (hback : s.fwState ≠ 4) :
    State.fwRun n s = s := by
  cases n with
  | zero => rfl
  | succ n => rw [State.fwRun, if_pos ⟨hforth, hback⟩]

/-- A role in force is not applied again. -/
theorem State.applyRole_of_eq {s : State} (h : s.get A.tb TB_CTRL_ROLE = s.sync.role) : s.applyRole = s := by
  rw [State.applyRole, if_pos h]

theorem State.applyGateEn_of_eq {s : State} {l : Nat}
    (h : (s.gateLists l).enabled = s.on (A.gcp l) GC_PORT_CTRL_GATE_EN) : s.applyGateEn l = s := by
  rw [State.applyGateEn, if_pos h]

theorem State.foldl_applyGateEn_of_eq {s : State} (ps : List PortRec)
    (h : ∀ p ∈ ps, (s.gateLists p.lane).enabled = s.on (A.gcp p.lane) GC_PORT_CTRL_GATE_EN) :
    ps.foldl (fun s p => s.applyGateEn p.lane) s = s :=
  List.foldlRecOn (motive := fun u => u = s) ps _ rfl fun _ hu p hp => by
    rw [hu, State.applyGateEn_of_eq (h p hp)]

/-- Noting whether the time base is clean moves nothing but the instant since when. -/
theorem State.noteClean_eq (s : State) :
    ∃ c, s.noteClean = { s with pair := { s.pair with cleanAt := c } } := by
  unfold State.noteClean
  extract_lets at_
  by_cases h : at_ = s.pair.cleanAt
  · exact ⟨s.pair.cleanAt, if_pos h⟩
  · exact ⟨at_, if_neg h⟩

/-- Where the written enables and role are in force a tick brings no effect. -/
theorem State.tickEffects_of_in_force {s : State} (hrole : s.get A.tb TB_CTRL_ROLE = s.sync.role)
    (hgates : ∀ p ∈ s.image.ports, (s.gateLists p.lane).enabled = s.on (A.gcp p.lane) GC_PORT_CTRL_GATE_EN) :
    s.tickEffects = s.noteClean := by
  simp only [State.tickEffects, State.applyRole_of_eq hrole, State.foldl_applyGateEn_of_eq _ hgates]

/-- Outside Reset and Halt the time base takes `n` addends. -/
theorem State.advance_eq {s : State} (n : Nat) (hreset : s.mode ≠ 0) (hhalt : s.mode ≠ 11) :
    s.advance n = { s with time :=
      { now := (s.time.now + n * s.get A.tb TB_ADDEND_EFF_ADDEND_EFF) % timeSpan, clk := s.time.clk + n } } := by
  simp [State.advance, hreset, hhalt]

theorem State.advance_words (s : State) (n : Nat) : (s.advance n).words = s.words := rfl

/-- With nothing waiting for it a tick is the advance alone. -/
theorem State.tick_of_in_force {s : State} (m : Nat) (hset : s.sync.setPending = none)
    (hrole : s.get A.tb TB_CTRL_ROLE = s.sync.role)
    (hgates : ∀ p ∈ s.image.ports, (s.gateLists p.lane).enabled = s.on (A.gcp p.lane) GC_PORT_CTRL_GATE_EN) :
    s.tick (m + 1) = (s.advance (m + 1)).noteClean := by
  have hwords := State.advance_words s (m + 1)
  have hrole' : (s.advance (m + 1)).get A.tb TB_CTRL_ROLE = (s.advance (m + 1)).sync.role :=
    (State.get_of_words hwords _ _).trans hrole
  have hgates' : ∀ p ∈ s.image.ports, ((s.advance (m + 1)).gateLists p.lane).enabled =
      (s.advance (m + 1)).on (A.gcp p.lane) GC_PORT_CTRL_GATE_EN := fun p hp =>
    (hgates p hp).trans (State.on_of_words hwords _ _).symm
  rw [State.tick, hset]
  exact State.tickEffects_of_in_force hrole' hgates'

/-- Settles O10: the time base advances, and of all else only the instant since when it is clean can move. -/
theorem timeBaseAdvances : Obligations.TimeBaseAdvances := by
  unfold Obligations.TimeBaseAdvances
  intro s n hreset hhalt hset hforth hback hrole hgates
  cases n with
  | zero => exact ⟨s, by rw [exec_timeBaseTick, State.tick, State.fwRun_of_idle _ hforth hback], rfl, (if_pos rfl).symm, rfl⟩
  | succ m =>
    obtain ⟨c, hclean⟩ := State.noteClean_eq (s.advance (m + 1))
    have hstate : (s.advance (m + 1)).noteClean.fwState = s.fwState :=
      State.get_of_words (by rw [hclean, State.advance_words]) _ _
    refine ⟨_, by rw [exec_timeBaseTick, State.tick_of_in_force m hset hrole hgates,
      State.fwRun_of_idle _ (by rwa [hstate]) (by rwa [hstate])], ?_⟩
    have htime : (s.advance (m + 1)).noteClean.time = (s.advance (m + 1)).time := by rw [hclean]
    refine ⟨?_, ?_, ?_⟩
    · rw [htime, State.advance_eq _ hreset hhalt]
    · rw [htime, State.advance_eq _ hreset hhalt, if_neg (Nat.succ_ne_zero m)]
    · rw [hclean]
      rfl

/-! ## The addend and the role (R32, R33, R38) -/

theorem exec_tbAddendCommit (v : Nat) (s : State) : exec (.tbAddendCommit v) s = .next (s.commitAddend v).2 := rfl

theorem exec_tbRoleWrite (r : Nat) (s : State) :
    exec (.tbRoleWrite r) s = .next (if r ≤ 2 then s.put A.tb TB_CTRL_ROLE r else s) := rfl

/-- The effective addend is formed in the two registers that show it; in FREE_RUN it is the written one. -/
theorem State.formAddend_eq (s : State) : ∃ i j,
    s.formAddend = (s.putI A.tb TB_SERVO_INTEG_INTEG i).putI A.tb TB_ADDEND_EFF_ADDEND_EFF j ∧
      (s.servoState = 0 → j = s.get A.tb TB_ADDEND_ADDEND) := by
  refine ⟨_, _, rfl, fun hfree => ?_⟩
  rw [State.get_putI_apart _ _ _ (by decide) (by decide), if_pos hfree, if_neg (by rw [hfree]; decide)]
  simp

/-- A number written to a 64-bit field and read back. -/
theorem toTwos_natCast_mod (n : Nat) : toTwos 64 n % 2 ^ 64 = n % 2 ^ 64 := by
  simp only [toTwos]
  omega

/-- Settles O11. -/
theorem addendAndRole : Obligations.AddendAndRole := by
  unfold Obligations.AddendAndRole
  refine ⟨fun s v hmin hmax => ?_, fun s v hout => ?_, fun s r hr => ?_⟩
  · have hcommit : (s.commitAddend v).2 = (s.put A.tb TB_ADDEND_ADDEND v).formAddend := by
      rw [State.commitAddend, if_pos ⟨hmin, hmax⟩]
    have hwritten : (s.put A.tb TB_ADDEND_ADDEND v).get A.tb TB_ADDEND_ADDEND = v := by
      rw [State.get_put_same _ _ _ _ (by decide)]
      exact Nat.mod_eq_of_lt (Nat.lt_of_le_of_lt hmax (by decide))
    obtain ⟨i, j, hform, hfree⟩ := State.formAddend_eq (s.put A.tb TB_ADDEND_ADDEND v)
    rw [hform] at hcommit
    refine ⟨_, by rw [exec_tbAddendCommit, hcommit], regsOnly_trans (regsOnly_put ..) (regsOnly_trans
      (regsOnly_putI ..) (regsOnly_putI ..)), ?_, fun hstate => ?_, wordsKept_trans (wordsKept_put _ _ (.inl rfl))
      (wordsKept_trans (wordsKept_putI _ _ (.inr (.inr rfl))) (wordsKept_putI _ _ (.inr (.inl rfl))))⟩
    · exact (State.get_putI_apart _ _ _ (by decide) (by decide)).trans
        ((State.get_putI_apart _ _ _ (by decide) (by decide)).trans hwritten)
    · have hkept : (s.put A.tb TB_ADDEND_ADDEND v).servoState = s.servoState := State.get_put_other _ _ (by decide)
      rw [State.get_putI_same _ _ _ _ (by decide), hfree (hkept.trans hstate), hwritten]
      exact (toTwos_natCast_mod v).trans (Nat.mod_eq_of_lt (Nat.lt_of_le_of_lt hmax (by decide)))
  · have hno : ¬ (0x00FFDF3B64 ≤ v ∧ v ≤ 0x10020C49C) := by omega
    rw [exec_tbAddendCommit, State.commitAddend, if_neg hno]
  · refine ⟨_, by rw [exec_tbRoleWrite, if_pos hr], regsOnly_put .., ?_, State.onlyField_put _ _ _ _ (by decide)⟩
    rw [State.get_put_same _ _ _ _ (by decide)]
    exact Nat.mod_eq_of_lt (Nat.lt_of_le_of_lt hr (by decide))

end Sys2Proof.Machine
end

/-!
PROOFS. Offsets, steps, pins, path delay and messages of physical time (spec/02_physical_time.md R36–R64, R459).
-/

section
namespace Sys2Proof.Machine

/-! ## Inputs -/

@[simp] theorem State.input_setInput_same (s : State) (i : Nat) (x : InputState) : (s.setInput i x).input i = x :=
  SMap.get_set_same ..

@[simp] theorem State.get_setInput (s : State) (i : Nat) (x : InputState) (b : Nat) (f : Fld) :
    (s.setInput i x).get b f = s.get b f := rfl

@[simp] theorem State.on_setInput (s : State) (i : Nat) (x : InputState) (b : Nat) (f : Fld) :
    (s.setInput i x).on b f = s.on b f := rfl

@[simp] theorem State.rxSkew_setInput (s : State) (i : Nat) (x : InputState) (l : Nat) (p : Bool) :
    (s.setInput i x).rxSkew l p = s.rxSkew l p := rfl

@[simp] theorem State.input_put (s : State) (b : Nat) (f : Fld) (v i : Nat) : (s.put b f v).input i = s.input i := rfl

/-- Selecting an input writes its number, and nothing else. -/
theorem State.selectInput_eq (s : State) : ∃ v, s.selectInput = s.put A.tb TB_STATUS_ACTIVE_INPUT v := ⟨_, rfl⟩

theorem State.get_selectInput (s : State) (b : Nat) {f : Fld} (h : b + f.off ≠ A.tb + TB_STATUS_ACTIVE_INPUT.off) :
    s.selectInput.get b f = s.get b f :=
  State.get_put_other s _ h

/-! ## Stamps (R1) -/

theorem nsOf_lt (q : Nat) : nsOf q < 2 ^ 32 := Nat.lt_of_lt_of_le (Nat.mod_lt _ (by decide)) (by decide)

theorem fracOf_lt (q : Nat) : fracOf q < 2 ^ 16 := Nat.mod_lt _ (by decide)

theorem secOf_lt (q : Nat) : secOf q < 2 ^ 48 := Nat.mod_lt _ (by decide)

/-! ## Offsets (R39–R42) -/

theorem exec_syncReceive (i domain seq origin : Nat) (corr : Int) (rx tick : Nat) (log : Int) (s : State) :
    exec (.syncReceive i domain seq origin corr rx tick log) s =
      .next (s.syncReceive i domain seq origin corr rx tick log) := rfl

/-- A Sync that its input takes, without ingress skew. -/
theorem State.syncReceive_of_taken {s : State} {i : Nat} (seq origin rx tick : Nat) (corr log : Int)
    (htakes : s.takesSync i = true) (hstep : s.sync.stepClk = none) (hskew : 0x200 ≤ i ∨ s.rxSkew i false = 0) :
    let u := (s.setInput i { s.input i with
      logSync := log, stale := false, msOff := some ((rx : Int) - origin - corr) }).selectInput
    let pd := median (u.input i).history + u.getI (A.tbp i) TB_PORT_ASYM_ASYM
    s.syncReceive i (s.get A.tb TB_CTRL_DOMAIN_PHYS) seq origin corr rx tick log =
      if u.activeInput = i ∧ u.sync.role = 2 then
        State.offsetSample { u with sync := { u.sync with upstream := some (origin, corr + pd, rx) } } i
          ((rx : Int) - origin - corr - pd) seq
      else u := by
  have hstamp : (rx : Int) + (if i < 0x200 then s.rxSkew i false else 0) = rx := by
    rcases hskew with hlane | hzero
    · rw [if_neg (by omega), Int.add_zero]
    · rw [hzero, ite_self, Int.add_zero]
  have hcount : ¬ (i < 0x200 ∧ s.rxSkew i false ≠ 0) := fun ⟨hlt, hne⟩ => hskew.elim (by omega) hne
  simp only [State.syncReceive, htakes, hstep, hstamp, bne_self_eq_false, Bool.not_true, Bool.or_self,
    Bool.false_eq_true, if_false, State.rxSkew_setInput, hcount, Int.toNat_natCast]

theorem exec_ppsInEdge (falling : Bool) (s : State) : exec (.ppsInEdge falling) s = .next (s.ppsEdge falling) := rfl

/-- What an edge with stamp `q` shows in TB_PPS_IN_NS and TB_STATUS while it gives no offset. -/
def State.showPps (s : State) (q : Nat) : State :=
  (((s.put A.tb TB_PPS_IN_NS_NS (nsOf q)).put A.tb TB_PPS_IN_NS_FRAC (fracOf q)).put A.tb TB_PPS_IN_NS_VALID 1).put
    A.tb TB_STATUS_PPS_IN_VALID 0

theorem State.regsOnly_showPps (s : State) (q : Nat) : regsOnly s (s.showPps q) :=
  regsOnly_trans (regsOnly_trans (regsOnly_put ..) (regsOnly_put ..)) (regsOnly_trans (regsOnly_put ..) (regsOnly_put ..))

theorem State.input_showPps (s : State) (q i : Nat) : (s.showPps q).input i = s.input i := by
  rw [State.showPps, State.input_put, State.input_put, State.input_put, State.input_put]

theorem State.showPps_shows (s : State) (q : Nat) : (s.showPps q).get A.tb TB_PPS_IN_NS_NS = nsOf q ∧
    (s.showPps q).get A.tb TB_PPS_IN_NS_FRAC = fracOf q ∧ (s.showPps q).get A.tb TB_PPS_IN_NS_VALID = 1 ∧
    (s.showPps q).get A.tb TB_STATUS_PPS_IN_VALID = 0 := by
  unfold State.showPps
  refine ⟨?_, ?_, ?_, State.get_put_same _ _ _ _ (by decide)⟩
  · rw [State.get_put_apart _ _ _ (by decide) (by decide), State.get_put_apart _ _ _ (by decide) (by decide),
      State.get_put_apart _ _ _ (by decide) (by decide), State.get_put_same _ _ _ _ (by decide)]
    exact Nat.mod_eq_of_lt (nsOf_lt q)
  · rw [State.get_put_apart _ _ _ (by decide) (by decide), State.get_put_apart _ _ _ (by decide) (by decide),
      State.get_put_same _ _ _ _ (by decide)]
    exact Nat.mod_eq_of_lt (fracOf_lt q)
  · rw [State.get_put_apart _ _ _ (by decide) (by decide), State.get_put_same _ _ _ _ (by decide)]
    rfl

/-- An edge of the selected polarity, while the seconds are unknown, is shown as valid and gives no offset (R52). -/
theorem State.ppsEdge_of_unknown_seconds {s : State} (hen : s.on A.tb TB_PPS_CTRL_IN_EN = true)
    (hsec : s.sync.secondsKnown = false) :
    s.ppsEdge (s.on A.tb TB_PPS_CTRL_IN_FALLING) =
      ((s.showPps (s.nowQ / 16384 * 16384)).setInput inPps { s.input inPps with stale := false }).selectInput := by
  unfold State.ppsEdge
  rw [if_pos (by rw [hen, beq_self_eq_true]; rfl)]
  extract_lets +onlyGivenNames q b s₁ ph o ok s₂
  have hsecs : s₁.sync.secondsKnown = false := by
    unfold s₁
    rw [State.put_sync, State.put_sync, State.put_sync, hsec]
  have hok : ok = false := by
    unfold ok
    rw [hsecs, Bool.and_false]
  have hshow : s₂ = s.showPps q := by
    unfold s₂ s₁ State.showPps
    rw [hok]
    rfl
  rw [hok, hshow, State.input_showPps]
  rfl

theorem exec_holdoverTimeout (s : State) : exec .holdoverTimeout s = .next s.holdoverTimeout := rfl

/-- Settles O12. -/
theorem syncGivesOffset : Obligations.SyncGivesOffset := by
  unfold Obligations.SyncGivesOffset
  refine ⟨fun s i seq origin rx tick corr log htakes hstep hskew => ?_, fun s hen hsec => ?_, fun s => ?_,
    fun s hstate => ?_⟩
  · rw [exec_syncReceive, State.syncReceive_of_taken seq origin rx tick corr log htakes hstep hskew]
  · rw [exec_ppsInEdge, State.ppsEdge_of_unknown_seconds hen hsec]
    obtain ⟨w, hwords⟩ := exists_words_of_regsOnly (State.regsOnly_showPps s (s.nowQ / 16384 * 16384))
    obtain ⟨hns, hfrac, hvalid, hno⟩ := State.showPps_shows s (s.nowQ / 16384 * 16384)
    obtain ⟨v, hsel⟩ := State.selectInput_eq
      ((s.showPps (s.nowQ / 16384 * 16384)).setInput inPps { s.input inPps with stale := false })
    rw [hsel]
    refine ⟨_, rfl, ?_, ?_, ?_, ?_, ?_, ?_⟩
    · rw [hwords]
      rfl
    · rw [State.get_put_apart _ _ _ (by decide) (by decide), State.get_setInput, hns]
    · rw [State.get_put_apart _ _ _ (by decide) (by decide), State.get_setInput, hfrac]
    · rw [State.get_put_apart _ _ _ (by decide) (by decide), State.get_setInput, hvalid]
    · rw [State.get_put_apart _ _ _ (by decide) (by decide), State.get_setInput, hno]
    · rw [State.input_put, State.input_setInput_same]
  · rw [exec_ppsInEdge, State.ppsEdge]
    simp
  · intro i u hlate hnone
    rw [exec_holdoverTimeout, State.holdoverTimeout, if_pos hstate, if_neg (Nat.not_lt.mpr hlate), if_pos hnone]

/-! ## Steps (R46–R49, R64) -/

theorem exec_stepAuth (q : Nat) (s : State) : exec (.stepAuth q) s = .next (s.stepAuth q).2 := rfl

theorem exec_stepApply (s : State) : exec .stepApply s = .next s.stepApply := rfl

theorem exec_tbSetGo (s : State) : exec .tbSetGo s = .next s.setGo := rfl

/-- An armed step waits for its whole second, and is then applied or withdrawn. -/
theorem State.stepApply_of_armed {s : State} (hauto : s.sync.autoStep = false)
    (harmed : s.on A.tb TB_STEP_STATUS_ARMED = true) :
    s.stepApply = if s.nowQ < secondAfter s.sync.stepAt 10000000 then s
      else if (s.getI A.tb TB_LAST_OFFSET_OFFSET).natAbs ≤ nsQ 1000000 ∨ s.activeInput = inNone then s.withdrawStep
      else s.doStep := by
  rw [State.stepApply, hauto, harmed, if_neg Bool.false_ne_true]
  by_cases hwait : s.nowQ < secondAfter s.sync.stepAt 10000000
  · rw [if_pos hwait, if_pos (by rw [decide_eq_true hwait]; rfl)]
  · rw [if_neg hwait, if_neg (by rw [decide_eq_false hwait]; exact Bool.false_ne_true)]

/-- Settles O13. -/
theorem timeSteps : Obligations.TimeSteps := by
  unfold Obligations.TimeSteps
  refine ⟨fun s hpending hauto => ?_, fun s q hq => ?_, fun s hauto harmed => ?_, fun s hserving => ?_,
    fun s hserving => ?_⟩
  · rw [exec_stepAuth, State.stepAuth, if_pos (by simp [hpending, hauto])]
  · rw [exec_stepAuth, State.stepAuth, if_neg (by simp [hq.symm])]
  · rw [exec_stepApply, State.stepApply_of_armed hauto harmed]
  · rw [exec_tbSetGo, State.setGo, if_pos hserving]
  · rw [exec_tbSetGo, State.setGo, if_neg (by simp [hserving])]

/-! ## Pins (R58–R63) -/

@[simp] theorem State.pin_setPin_same (s : State) (p : Nat) (x : PinState) : (s.setPin p x).pin p = x :=
  SMap.get_set_same ..

@[simp] theorem State.pin_put (s : State) (b : Nat) (f : Fld) (v p : Nat) : (s.put b f v).pin p = s.pin p := rfl

@[simp] theorem State.pin_emit (s : State) (o : Output) (p : Nat) : (s.emit o).pin p = s.pin p := rfl

@[simp] theorem State.get_setPin (s : State) (p : Nat) (x : PinState) (b : Nat) (f : Fld) :
    (s.setPin p x).get b f = s.get b f := rfl

@[simp] theorem State.get_emit (s : State) (o : Output) (b : Nat) (f : Fld) : (s.emit o).get b f = s.get b f := rfl

@[simp] theorem State.setPin_out (s : State) (p : Nat) (x : PinState) : (s.setPin p x).out = s.out := rfl

theorem State.atPin_of_lt {s : State} {p : Nat} (f : State → State) (h : p < 16) : s.atPin p f = f s := if_pos h

theorem exec_tpArm {s : State} {p : Nat} (h : p < 16) : exec (.tpArm p) s = .next (s.tpArm p).2 :=
  congrArg _ (State.atPin_of_lt _ h)

theorem exec_tpDisarm {s : State} {p : Nat} (h : p < 16) : exec (.tpDisarm p) s = .next (s.tpDisarm p) :=
  congrArg _ (State.atPin_of_lt _ h)

theorem exec_tpOutputCompare {s : State} {p : Nat} (h : p < 16) :
    exec (.tpOutputCompare p) s = .next (s.tpCompare p) :=
  congrArg _ (State.atPin_of_lt _ h)

theorem exec_tpCaptureEdge {s : State} {p : Nat} (rising : Bool) (h : p < 16) :
    exec (.tpCaptureEdge p rising) s = .next (s.tpCapture p rising) :=
  congrArg _ (State.atPin_of_lt _ h)

theorem exec_tpCapSecRead {s : State} {p : Nat} (h : p < 16) : exec (.tpCapSecRead p) s = .next (s.tpCapRead p) :=
  congrArg _ (State.atPin_of_lt _ h)

theorem exec_ppsOutPulse (s : State) : exec .ppsOutPulse s = .next s.ppsOut := rfl

theorem exec_tbNowSecRead (s : State) : exec .tbNowSecRead s = .next s.tbNowRead := rfl

/-- A disarmed pin has no target and shows so. -/
theorem State.tpDisarm_eq (s : State) (p : Nat) : s.tpDisarm p =
    ((s.setPin p { s.pin p with target := none }).put (A.tp p) TP_CTRL_ARM 0).put (A.tp p) TP_STATUS_ARMED 0 := rfl

theorem State.tpDisarm_pin (s : State) (p : Nat) : (s.tpDisarm p).pin p = { s.pin p with target := none } := by
  rw [State.tpDisarm_eq, State.pin_put, State.pin_put, State.pin_setPin_same]

theorem State.tpDisarm_shows (s : State) (p : Nat) :
    (s.tpDisarm p).get (A.tp p) TP_STATUS_ARMED = 0 ∧ (s.tpDisarm p).get (A.tp p) TP_CTRL_ARM = 0 := by
  rw [State.tpDisarm_eq]
  refine ⟨State.get_put_same _ _ _ _ (by decide), ?_⟩
  rw [State.get_put_apart _ _ _ (by decide) (by decide)]
  exact State.get_put_same _ _ _ _ (by decide)

theorem State.tpDisarm_out (s : State) (p : Nat) : (s.tpDisarm p).out = s.out := by
  rw [State.tpDisarm_eq, State.put_out, State.put_out, State.setPin_out]

/-- A pulse leaves the pin's settings alone. -/
theorem State.mode_pulse (s : State) (p t : Nat) : (s.pulse p t).get (A.tp p) TP_CTRL_MODE = s.get (A.tp p) TP_CTRL_MODE :=
  State.get_put_apart _ _ _ (by decide) (by decide)

theorem State.out_pulse (s : State) (p t : Nat) : (s.pulse p t).out =
    s.out ++ [.pulse p (!s.on (A.tp p) TP_CTRL_POLARITY) t (s.get (A.tp p) TP_WIDTH_WIDTH)] := rfl

/-- A one-shot pin at its target pulses and disarms. -/
theorem State.tpCompare_of_due {s : State} {p q : Nat} (htarget : (s.pin p).target = some q) (hdue : q ≤ s.nowQ)
    (hdrive : s.pinsDrive = true) (hmode : s.get (A.tp p) TP_CTRL_MODE ≠ 2) :
    s.tpCompare p = (s.pulse p q).tpDisarm p := by
  have hrun : ¬ (s.nowQ < q ∨ (!s.pinsDrive) = true) := by simp [hdrive, Nat.not_lt.mpr hdue]
  simp only [State.tpCompare, htarget]
  rw [if_neg hrun, if_neg (by rw [State.mode_pulse]; exact hmode)]

/-- The fields of a stamp put into three fields apart from each other. -/
theorem State.get_putStamp (s : State) (b : Nat) {fs fn ff : Fld} (q : Nat) (hs : fs.ok) (hn : fn.ok) (hf : ff.ok)
    (hsn : fn.apart fs) (hsf : ff.apart fs) (hnf : ff.apart fn) (ws : fs.hi + 1 - fs.lo = 48)
    (wn : fn.hi + 1 - fn.lo = 32) (wf : ff.hi + 1 - ff.lo = 16) :
    (s.putStamp b fs fn ff q).get b fs = secOf q ∧ (s.putStamp b fs fn ff q).get b fn = nsOf q ∧
      (s.putStamp b fs fn ff q).get b ff = fracOf q := by
  unfold State.putStamp
  refine ⟨?_, ?_, ?_⟩
  · rw [State.get_put_apart _ _ _ hf hsf, State.get_put_apart _ _ _ hn hsn, State.get_put_same _ _ _ _ hs, ws]
    exact Nat.mod_eq_of_lt (secOf_lt q)
  · rw [State.get_put_apart _ _ _ hf hnf, State.get_put_same _ _ _ _ hn, wn]
    exact Nat.mod_eq_of_lt (nsOf_lt q)
  · rw [State.get_put_same _ _ _ _ hf, wf]
    exact Nat.mod_eq_of_lt (fracOf_lt q)

theorem regsOnly_putStamp (s : State) (b : Nat) (fs fn ff : Fld) (q : Nat) : regsOnly s (s.putStamp b fs fn ff q) :=
  regsOnly_trans (regsOnly_put ..) (regsOnly_trans (regsOnly_put ..) (regsOnly_put ..))

/-- The oldest captured stamp moves to the read registers. -/
theorem State.tpCapRead_of_cons {s : State} {p q : Nat} {r : List Nat} (h : (s.pin p).caps = q :: r) :
    s.tpCapRead p = (((s.setPin p { s.pin p with caps := r }).putStamp (A.tp p) TP_CAP_SEC_SEC TP_CAP_NS_NS
      TP_CAP_NS_FRAC q).put (A.tp p) TP_STATUS_CAP_COUNT r.length).put (A.tp p) TP_CAP_NS_VALID 1 := by
  simp only [State.tpCapRead, h]

theorem State.pin_putStamp (s : State) (b : Nat) (fs fn ff : Fld) (q p : Nat) :
    (s.putStamp b fs fn ff q).pin p = s.pin p := by
  rw [State.putStamp, State.pin_put, State.pin_put, State.pin_put]

/-- With output enabled a new second starts a pulse of PPS_OUT. -/
theorem State.ppsOut_of_new_second {s : State} (hen : s.on A.tb TB_PPS_CTRL_OUT_EN = true) (hdrive : s.pinsDrive = true)
    (hnew : s.sync.ppsSec ≠ some (secOf s.nowQ)) (hknown : s.sync.ppsSec ≠ none)
    (hgap : ∀ c, s.sync.ppsAt = some c → 500000000 ≤ s.since c) :
    s.ppsOut = State.emit { s with sync := { s.sync with ppsSec := some (secOf s.nowQ), ppsAt := some s.time.clk } }
      (.pulse 16 true (secOf s.nowQ * secQ) (s.get A.tb TB_PPS_CTRL_OUT_WIDTH)) := by
  obtain ⟨k, hk⟩ := Option.ne_none_iff_exists'.mp hknown
  have hfresh : (k != secOf s.nowQ) = true := by
    rw [bne_iff_ne]
    exact fun e => hnew (by rw [hk, e])
  have hwait : (match s.sync.ppsAt with | some c => decide (500000000 ≤ s.since c) | none => true) = true := by
    split
    · next c hc => exact decide_eq_true (hgap c hc)
    · rfl
  unfold State.ppsOut
  extract_lets +onlyGivenNames sec t fresh gap
  have hnow : (fresh && gap) = true := by
    have : fresh = (k != secOf s.nowQ) := by unfold fresh t sec; rw [hk]
    rw [this, hfresh, show gap = true from hwait]
    rfl
  rw [hen, hdrive, hnow]
  rfl

/-- Settles O14. -/
theorem timePins : Obligations.TimePins := by
  unfold Obligations.TimePins
  refine ⟨fun s p hp hmode hwidth hperiod => ?_, fun s p hp => ?_, fun s p q hp htarget hdue hdrive hmode => ?_,
    fun s p rising hp hmode hedge hroom => ?_, fun s p rising hp hmode hedge hfull => ?_,
    fun s p q r hp hcaps => ?_, fun s hen hdrive hnew hknown hgap => ?_, fun s => ?_⟩
  · intro start
    have hvalid : ¬ (s.get (A.tp p) TP_WIDTH_WIDTH < 8 ∨ s.get (A.tp p) TP_PERIOD_PERIOD < 100) := by omega
    rw [exec_tpArm hp]
    simp only [State.tpArm, hmode]
    rw [if_neg hvalid]
    by_cases hsoon : start < s.nowQ + nsQ 1000
    · rw [if_pos hsoon, if_pos hsoon]
    · rw [if_neg hsoon, if_neg hsoon]
  · obtain ⟨harmed, harm⟩ := State.tpDisarm_shows s p
    refine ⟨_, exec_tpDisarm hp, ?_, ?_, harmed, harm, State.tpDisarm_out s p⟩ <;> rw [State.tpDisarm_pin]
  · refine ⟨_, exec_tpOutputCompare hp, ?_⟩
    rw [State.tpCompare_of_due htarget hdue hdrive hmode]
    refine ⟨by rw [State.tpDisarm_pin], ?_, (State.tpDisarm_shows _ p).1⟩
    rw [State.tpDisarm_out, State.out_pulse]
  · refine ⟨_, exec_tpCaptureEdge rising hp, ?_⟩
    rw [State.tpCapture, if_pos ⟨hmode, hedge⟩, if_neg (Nat.not_le.mpr hroom)]
    refine ⟨?_, ?_⟩
    · rw [State.pin_put, State.pin_setPin_same]
    · rw [State.get_put_same _ _ _ _ (by decide)]
      exact Nat.mod_eq_of_lt (Nat.lt_of_le_of_lt hroom (by decide))
  · rw [exec_tpCaptureEdge rising hp, State.tpCapture, if_pos ⟨hmode, hedge⟩, if_pos hfull]
  · refine ⟨_, exec_tpCapSecRead hp, ?_⟩
    obtain ⟨hsec, hns, hfrac⟩ := State.get_putStamp (s.setPin p { s.pin p with caps := r }) (A.tp p)
      (fs := TP_CAP_SEC_SEC) (fn := TP_CAP_NS_NS) (ff := TP_CAP_NS_FRAC) q (by decide) (by decide) (by decide)
      (by decide) (by decide) (by decide) rfl rfl rfl
    rw [State.tpCapRead_of_cons hcaps]
    refine ⟨?_, ?_, ?_, ?_, State.get_put_same _ _ _ _ (by decide)⟩
    · rw [State.pin_put, State.pin_put, State.pin_putStamp, State.pin_setPin_same]
    · rw [State.get_put_apart _ _ _ (by decide) (by decide), State.get_put_apart _ _ _ (by decide) (by decide), hsec]
    · rw [State.get_put_apart _ _ _ (by decide) (by decide), State.get_put_apart _ _ _ (by decide) (by decide), hns]
    · rw [State.get_put_apart _ _ _ (by decide) (by decide), State.get_put_apart _ _ _ (by decide) (by decide), hfrac]
  · exact ⟨_, (exec_ppsOutPulse s).trans (congrArg _ (State.ppsOut_of_new_second hen hdrive hnew hknown hgap)), rfl, rfl,
      rfl⟩
  · exact ⟨_, exec_tbNowSecRead s, regsOnly_putStamp .., State.get_putStamp s A.tb (fs := TB_NOW_SEC_SEC)
      (fn := TB_NOW_NS_NS) (ff := TB_NOW_NS_FRAC) s.nowQ (by decide) (by decide) (by decide) (by decide) (by decide)
      (by decide) rfl rfl rfl⟩

/-! ## Path delay (R53–R55, R459) -/

theorem exec_pdelayMeasurement (l seq t2 t3 t4 : Nat) (nrr : Option Int) (s : State) :
    exec (.pdelayMeasurement l seq t2 t3 t4 nrr) s = .next (s.pdelayMeasure l seq t2 t3 t4 nrr) := rfl

theorem exec_delayRespReceive (i seq t4 : Nat) (corr log : Int) (s : State) :
    exec (.delayRespReceive i seq t4 corr log) s = .next (s.delayResp i seq t4 corr log) := rfl

theorem exec_pdelayReqSend (l : Nat) (s : State) : exec (.pdelayReqSend l) s = .next (s.pdelayReq l) := rfl

theorem exec_delayReqSend (i : Nat) (s : State) : exec (.delayReqSend i) s = .next (s.delayReq i) := rfl

theorem exec_suspectEnd {s : State} {i : Nat} (h : s.isInput i = true) :
    exec (.suspectEnd i) s = .next (s.suspectEnd i) := congrArg _ (if_pos h)

theorem exec_flushPd {s : State} {i : Nat} (h : s.isInput i = true) : exec (.flushPd i) s = .next (s.flushPd i) :=
  congrArg _ (if_pos h)

theorem exec_clearFaulty {s : State} {i : Nat} (h : s.isInput i = true) :
    exec (.clearFaulty i) s = .next (s.clearFaulty i) := congrArg _ (if_pos h)

/-- The response that completes the outstanding request is a measurement. -/
theorem State.pdelayMeasure_of_complete {s : State} {l seq t1 : Nat} (t2 t3 t4 : Nat) (r : Int)
    (hport : s.gptpPort l = true) (hreq : (s.input l).reqAt = some t1) (hseq : (s.input l).reqSeq = seq)
    (hskew : s.rxSkew l true = 0) : s.pdelayMeasure l seq t2 t3 t4 (some r) =
      State.measurePd (((s.setInput l { s.input l with reqAt := none }).putI (A.tbp l) TB_PORT_NRR_NRR_DEV r).put
        (A.tbp l) TB_PORT_STATUS_NRR_VALID 1) l
        (((t4 : Int) - t1 + ((t4 : Int) - t1) * r / 2 ^ 32 - ((t3 : Int) - t2)) / 2) := by
  have hmine : ¬ ((s.input l).reqSeq ≠ seq ∨ (!s.gptpPort l) = true) := by simp [hseq, hport]
  simp only [State.pdelayMeasure, hreq]
  rw [if_neg hmine, hskew, if_pos rfl, Int.add_zero]
  rfl

/-- The answer to an outstanding Delay_Req is a measurement. -/
theorem State.delayResp_of_complete {s : State} {i seq t3 : Nat} {ms : Int} (t4 : Nat) (corr log : Int)
    (hinput : s.isInput i = true) (hen : s.on (A.tbp i) TB_PORT_CTRL_PTP1588_EN = true)
    (hseq : (s.input i).reqSeq = seq) (hreq : (s.input i).reqAt = some t3) (hms : (s.input i).msOff = some ms) :
    s.delayResp i seq t4 corr log =
      (s.setInput i { s.input i with reqAt := none, logDelay := max (-7) (min 5 log) }).measurePd i
        ((ms + ((t4 : Int) - corr - t3)) / 2) := by
  have hmine : ¬ ((!s.isInput i || !s.on (A.tbp i) TB_PORT_CTRL_PTP1588_EN || (s.input i).reqSeq != seq) = true) := by
    simp [hinput, hen, hseq]
  simp only [State.delayResp, hreq, hms]
  rw [if_neg hmine]

theorem State.pdelayReq_of_due {s : State} {l : Nat} (hport : s.gptpPort l = true)
    (hdue : s.dueAfter (s.input l).delayAt (logNs (logOf (s.get (A.tbp l) TB_PORT_CTRL_LOG_PDELAY))) = true) :
    let q := ((s.input l).reqSeq + 1) % 65536
    let u := s.setInput l { s.input l with reqSeq := q, reqAt := none, delayAt := some s.time.clk }
    s.pdelayReq l = u.sendOwn l (u.gptpFrame l (pdelayReqMsg s.image.clockId (l + 1) q
      (toTwos 8 (logOf (s.get (A.tbp l) TB_PORT_CTRL_LOG_PDELAY))))) (.request l) := by
  intro q u
  rw [State.pdelayReq, if_pos (by rw [hport, hdue]; rfl)]
  rfl

theorem State.isInput_lane (s : State) {k : Nat} (hk : k < 2) : s.isInput (0x200 + k) = true := by
  have : k = 0 ∨ k = 1 := by omega
  rcases this with rfl | rfl <;> simp [State.isInput]

/-- A control lane's Delay_Req leaves at once, stamped with its instant. -/
theorem State.delayReq_lane_of_due {s : State} {k : Nat} (hk : k < 2)
    (hen : s.on (A.tbp (0x200 + k)) TB_PORT_CTRL_PTP1588_EN = true)
    (hdue : s.dueAfter (s.input (0x200 + k)).delayAt (logNs (s.input (0x200 + k)).logDelay) = true) :
    ∃ b, s.delayReq (0x200 + k) = (s.setInput (0x200 + k) { s.input (0x200 + k) with
      reqSeq := ((s.input (0x200 + k)).reqSeq + 1) % 65536, delayAt := some s.time.clk, reqAt := some s.nowQ }).emit
        (.lanePtp (0x200 + k - 0x200) b) := by
  rw [State.delayReq, if_pos (by rw [State.isInput_lane s hk, hen, hdue]; rfl), if_neg (by omega)]
  exact ⟨_, rfl⟩

@[simp] theorem State.input_emit (s : State) (o : Output) (i : Nat) : (s.emit o).input i = s.input i := rfl

/-- The end of an interval without eight measurements extends the suspicion, at most four times. -/
theorem State.suspectEnd_of_few {s : State} {i : Nat} (hsuspect : s.get (A.tbp i) TB_PORT_STATUS_INPUT_STATE = 2)
    (htime : 16 * s.inputNs i ≤ s.since (s.input i).suspectAt) (hfew : (s.input i).history.length < 8) :
    s.suspectEnd i =
      if s.get (A.tbp i) TB_PORT_STATUS_EXTENSIONS = 4 then
        (s.put (A.tbp i) TB_PORT_STATUS_INPUT_STATE 3).put (A.tbp i) TB_PORT_STATUS_SUSPECT_REMAIN 0
      else ((s.setInput i { s.input i with suspectAt := s.time.clk }).inc (A.tbp i) TB_PORT_STATUS_EXTENSIONS 1).put
        (A.tbp i) TB_PORT_STATUS_SUSPECT_REMAIN 16 := by
  have hrun : ¬ (s.get (A.tbp i) TB_PORT_STATUS_INPUT_STATE ≠ 2 ∨
      s.since (s.input i).suspectAt < 16 * s.inputNs i) := by omega
  have hlast : (((s.input i).history.take 8).length == 8) = false := by
    rw [List.length_take]
    simp
    omega
  rw [State.suspectEnd, if_neg hrun]
  extract_lets +onlyGivenNames last steady
  have hsteady : steady = false := by
    unfold steady last
    rw [hlast, Bool.false_and]
  rw [hsteady, if_neg Bool.false_ne_true]

theorem State.clearFaulty_eq (s : State) (i : Nat) : s.clearFaulty i =
    if s.get (A.tbp i) TB_PORT_STATUS_INPUT_STATE = 3 then
      (s.put (A.tbp i) TB_PORT_STATUS_INPUT_STATE 0).put (A.tbp i) TB_PORT_STATUS_EXTENSIONS 0
    else s := rfl

/-- Settles O15. -/
theorem pathDelayAndInputs : Obligations.PathDelayAndInputs := by
  unfold Obligations.PathDelayAndInputs
  refine ⟨fun s l seq t1 t2 t3 t4 r hport hreq hseq hskew => ?_,
    fun s i seq t3 t4 ms corr log hinput hen hseq hreq hms => ?_, fun s l hport hdue => ?_, fun s k hk hen hdue => ?_,
    fun s i hinput hsuspect htime hfew => ⟨_, exec_suspectEnd hinput, ?_⟩, fun s i hinput => exec_flushPd hinput,
    fun s i hinput => ⟨_, exec_clearFaulty hinput, ?_⟩⟩
  · rw [exec_pdelayMeasurement, State.pdelayMeasure_of_complete t2 t3 t4 r hport hreq hseq hskew]
  · rw [exec_delayRespReceive, State.delayResp_of_complete t4 corr log hinput hen hseq hreq hms]
  · rw [exec_pdelayReqSend, State.pdelayReq_of_due hport hdue]
  · obtain ⟨b, hsend⟩ := State.delayReq_lane_of_due hk hen hdue
    refine ⟨_, (exec_delayReqSend ..).trans (congrArg _ hsend), ?_, ?_, rfl, List.length_append⟩ <;>
      rw [State.input_emit, State.input_setInput_same]
  · rw [State.suspectEnd_of_few hsuspect htime hfew]
    split
    · refine ⟨State.get_put_same _ _ _ _ (by decide), ?_⟩
      rw [State.get_put_apart _ _ _ (by decide) (by decide)]
      exact State.get_put_same _ _ _ _ (by decide)
    · refine ⟨State.get_put_same _ _ _ _ (by decide), ?_⟩
      rw [State.get_put_apart _ _ _ (by decide) (by decide), State.inc,
        State.get_put_apart _ _ _ (by decide) (by decide), State.get_setInput, hsuspect]
  · rw [State.clearFaulty_eq]
    split
    · refine ⟨regsOnly_trans (regsOnly_put ..) (regsOnly_put ..), ?_⟩
      rw [State.get_put_apart _ _ _ (by decide) (by decide)]
      exact State.get_put_same _ _ _ _ (by decide)
    · exact ⟨rfl, rfl⟩

/-! ## Messages of the physical domain (R37, R38) -/

theorem exec_physSyncSend (l : Nat) (s : State) : exec (.physSyncSend l) s = .next (s.physSync l) := rfl

theorem exec_physAnnounceSend (l : Nat) (s : State) : exec (.physAnnounceSend l) s = .next (s.physAnnounce l) := rfl

theorem exec_announceReceive (i domain prio1 quality prio2 gm steps source : Nat) (s : State) :
    exec (.announceReceive i domain prio1 quality prio2 gm steps source) s =
      .next (s.announceReceive i domain ⟨prio1, quality, prio2, gm, steps, source⟩) := rfl

/-- An Announce in the physical domain on an input passes the first check. -/
theorem State.announceReceive_of_input {s : State} {i : Nat} (v : AnnounceVec) (hinput : s.isInput i = true) :
    s.announceReceive i (s.get A.tb TB_CTRL_DOMAIN_PHYS) v =
      if s.sync.role != 2 || s.sync.extPortCfg then
        { s with sync := { s.sync with announces := s.sync.announces + 1 } }
      else
        let u := s.setInput i { s.input i with announce := some v }
        match u.bestPort with
        | some l => (u.put A.tb TB_INPUT_SEL_PRIMARY l).selectInput
        | none => u := by
  rw [State.announceReceive, if_neg (by simp [hinput])] <;> rfl

/-- Settles O16: each message carries the number that the port then counts on. -/
theorem physicalTimeMessages : Obligations.PhysicalTimeMessages := by
  unfold Obligations.PhysicalTimeMessages
  refine ⟨fun s l hmaster hrole hdue => ?_, fun s l hmaster hdue => ?_,
    fun s i prio1 quality prio2 gm steps source hinput hoff => ?_,
    fun s i prio1 quality prio2 gm steps source hinput hrole hext => ?_⟩
  · have hsends : (s.masterPort l && s.dueAfter (s.input l).syncAt
        (logNs (logOf (s.get (A.tbp l) TB_PORT_CTRL_LOG_SYNC))) && (s.sync.role != 2 || s.sync.upstream.isSome)) = true := by
      rw [hmaster, hdue]
      simpa using hrole
    rw [exec_physSyncSend, State.physSync, if_pos hsends]
    rfl
  · rw [exec_physAnnounceSend, State.physAnnounce, if_pos (by rw [hmaster, hdue]; rfl)]
    exact ⟨_, rfl⟩
  · rw [exec_announceReceive, State.announceReceive_of_input _ hinput, if_pos (by simpa using hoff)]
  · rw [exec_announceReceive, State.announceReceive_of_input _ hinput, if_neg (by simp [hrole, hext])] <;> rfl

end Sys2Proof.Machine
end

/-!
PROOFS. Segment commands, conversion, envelopes, grants and late tests (spec/03_scene_clocks.md R69, R73–R78;
spec/04_feeds_hold.md R97–R109, R117, R121).
-/

section
namespace Sys2Proof.Machine

/-! ## Segment commands (R73–R76) -/

theorem exec_segNop (c tag : Nat) (s : State) :
    exec (.segNop c tag) s = .next (if s.isScene c then s.segNop c tag else s) := rfl

/-- A result writes the six fields of SC_SEG_RESULT. -/
theorem State.segResult_eq (s : State) (c tag status index flushed : Nat) (adj : Bool) :
    s.segResult c tag status index flushed adj =
      (((((s.put (A.scc c) SC_SEG_RESULT_TAG tag).put (A.scc c) SC_SEG_RESULT_RESULT_SEQ
        (s.get (A.scc c) SC_SEG_RESULT_RESULT_SEQ + 1)).put (A.scc c) SC_SEG_RESULT_QUEUE_INDEX index).put
        (A.scc c) SC_SEG_RESULT_FLUSHED flushed).put (A.scc c) SC_SEG_RESULT_HORIZON_ADJUSTED (bit adj)).put
        (A.scc c) SC_SEG_RESULT_STATUS status := by
  rw [State.segResult, State.inc, State.get_put_apart _ _ _ (by decide) (by decide)]

theorem State.regsOnly_segResult (s : State) (c tag status index flushed : Nat) (adj : Bool) :
    regsOnly s (s.segResult c tag status index flushed adj) := by
  rw [State.segResult_eq]
  exact ((((((regsOnly_refl s).put ..).put ..).put ..).put ..).put ..).put ..

theorem State.wordsKept_segResult (s : State) (c tag status index flushed : Nat) (adj : Bool) :
    wordsKept (· = A.scc c + SC_SEG_RESULT_TAG.off) s (s.segResult c tag status index flushed adj) := by
  rw [State.segResult_eq]
  exact .put_at (.put_at (.put_at (.put_at (.put_at (.put_at (wordsKept_refl _ s) _ (by rfl)) _ (by rfl)) _ (by rfl)) _
    (by rfl)) _ (by rfl)) _ (by rfl)

/-- A result takes the identifier, the next RESULT_SEQ and the queue index. -/
theorem State.segResult_shows (s : State) (c tag status index flushed : Nat) (adj : Bool) :
    (s.segResult c tag status index flushed adj).get (A.scc c) SC_SEG_RESULT_TAG = tag % 2 ^ 16 ∧
    (s.segResult c tag status index flushed adj).get (A.scc c) SC_SEG_RESULT_RESULT_SEQ =
      (s.get (A.scc c) SC_SEG_RESULT_RESULT_SEQ + 1) % 2 ^ 8 ∧
    (s.segResult c tag status index flushed adj).get (A.scc c) SC_SEG_RESULT_QUEUE_INDEX = index % 2 ^ 4 := by
  rw [State.segResult_eq]
  refine ⟨?_, ?_, ?_⟩ <;>
    rw [State.get_put_apart _ _ _ (by decide) (by decide), State.get_put_apart _ _ _ (by decide) (by decide),
      State.get_put_apart _ _ _ (by decide) (by decide)]
  · rw [State.get_put_apart _ _ _ (by decide) (by decide), State.get_put_apart _ _ _ (by decide) (by decide)]
    exact State.get_put_same _ _ _ _ (by decide)
  · rw [State.get_put_apart _ _ _ (by decide) (by decide)]
    exact State.get_put_same _ _ _ _ (by decide)
  · exact State.get_put_same _ _ _ _ (by decide)

theorem State.get_segResult_other (s : State) {c : Nat} (tag status index flushed : Nat) (adj : Bool) {b : Nat} {f : Fld}
    (h : b + f.off ≠ A.scc c + SC_SEG_RESULT_TAG.off) :
    (s.segResult c tag status index flushed adj).get b f = s.get b f := by
  unfold State.get
  rw [State.wordsKept_segResult s c tag status index flushed adj _ h]

/-- The checks of a PUSH answer BAD_VALUE, QUEUE_FULL or OK. -/
theorem State.pushStatus_cases (s : State) (c kind : Nat) :
    s.pushStatus c kind = stBadValue ∨ s.pushStatus c kind = stQueueFull ∨ s.pushStatus c kind = stOK := by
  unfold State.pushStatus
  extract_lets b
  repeat' split
  all_goals simp

theorem State.pushStatus_lt (s : State) (c kind : Nat) : s.pushStatus c kind < 2 ^ 8 := by
  rcases State.pushStatus_cases s c kind with h | h | h <;> rw [h] <;> decide

/-- A PUSH that passes its checks finds room in the queue and has one of the four kinds. -/
theorem State.pushStatus_ok {s : State} {c kind : Nat} (h : s.pushStatus c kind = stOK) :
    (s.queueSegs c).length < 16 ∧ kind ≤ 3 := by
  unfold State.pushStatus at h
  extract_lets b at h
  split at h
  · exact absurd h (by decide)
  · split at h
    · exact absurd h (by decide)
    · next hallowed =>
      split at h
      · exact absurd h (by decide)
      · split at h
        · exact absurd h (by decide)
        · split at h
          · exact absurd h (by decide)
          · next hroom =>
            refine ⟨Nat.not_le.mp hroom, Decidable.byContradiction fun hkind => hallowed ?_⟩
            simp [State.kindAllowed, hkind]

theorem State.length_queueSegs (s : State) (c : Nat) :
    (s.queueSegs c).length = s.get (A.scc c) SC_STATUS_QUEUE_COUNT := by
  rw [State.queueSegs, List.length_map, List.length_range]

/-- The last write of a queue entry is its tag; its kind stands above the seconds. -/
theorem State.putQueueSeg_shows (s : State) (c k : Nat) (g : Segment) :
    (s.putQueueSeg c k g).get (A.scq c k) SC_QUEUE_TAG_TAG = g.tag % 2 ^ 16 ∧
    (s.putQueueSeg c k g).get (A.scq c k) SC_QUEUE_PHYS_SEC_KIND = g.kind % 2 ^ 4 := by
  unfold State.putQueueSeg State.putStamp
  refine ⟨State.get_put_same _ _ _ _ (by decide), ?_⟩
  iterate 10 rw [State.get_put_apart _ _ _ (by decide) (by decide)]
  exact State.get_put_same _ _ _ _ (by decide)

/-- The registers of a clock outside its queue. -/
theorem State.get_scc_putQueueSeg (s : State) (c k : Nat) (g : Segment) {f : Fld} (hf : f.off < 0x400) :
    (s.putQueueSeg c k g).get (A.scc c) f = s.get (A.scc c) f := by
  have hne {d : Fld} : A.scc c + f.off ≠ A.scq c k + d.off := by
    simp only [A.scc, A.scq]
    omega
  unfold State.putQueueSeg State.putStamp
  iterate 12 rw [State.get_put_other _ _ hne]

/-- A queue entry is no part of the clock's other registers. -/
theorem State.get_scq_put_scc (s : State) (c k v : Nat) {f g : Fld} (hf : f.off < 0x400) :
    (s.put (A.scc c) f v).get (A.scq c k) g = s.get (A.scq c k) g := by
  refine State.get_put_other _ _ ?_
  simp only [A.scc, A.scq]
  omega

/-- The segment that a PUSH queues has its kind, its identifier and its effective instant. -/
theorem State.newSegment_eq (s : State) (c kind tag : Nat) :
    (s.newSegment c kind tag).1.kind = kind ∧ (s.newSegment c kind tag).1.tag = tag ∧
      (s.newSegment c kind tag).1.pa = s.effectiveInstant c := by
  unfold State.newSegment
  extract_lets b p staged adj
  split <;> exact ⟨rfl, rfl, rfl⟩

@[simp] theorem State.get_sceneChanged (s : State) (c b : Nat) (f : Fld) :
    (s.sceneChanged c).get b f = s.get b f := rfl

/-- What an accepted PUSH leaves in the queue, its count, SC_SEG_EFF and SC_SEG_RESULT (R75). -/
theorem State.push_of_accepted {s : State} {c kind tag : Nat} (hok : s.pushStatus c kind = stOK) :
    let t := s.push c kind tag
    let n := s.get (A.scc c) SC_STATUS_QUEUE_COUNT
    t.get (A.scc c) SC_STATUS_QUEUE_COUNT = n + 1 ∧ t.get (A.scq c n) SC_QUEUE_TAG_TAG = tag % 2 ^ 16 ∧
      t.get (A.scq c n) SC_QUEUE_PHYS_SEC_KIND = kind ∧ t.get (A.scc c) SC_SEG_RESULT_STATUS = stOK ∧
      t.get (A.scc c) SC_SEG_RESULT_QUEUE_INDEX = n ∧ t.get (A.scc c) SC_SEG_EFF_SEC_SEC = secOf (s.effectiveInstant c) := by
  obtain ⟨hroom, hkind⟩ := State.pushStatus_ok hok
  obtain ⟨hgkind, hgtag, hgpa⟩ := State.newSegment_eq s c kind tag
  have hfour : kind % 2 ^ 4 = kind := Nat.mod_eq_of_lt (by omega)
  intro t n
  have hn : (s.queueSegs c).length = n := State.length_queueSegs s c
  rw [hn] at hroom
  have hpush : t = s.push c kind tag := rfl
  rw [State.push, if_pos hok, hn] at hpush
  extract_lets +onlyGivenNames b m r g y u v w x at hpush
  have hx {b' : Nat} {f : Fld} (h : b' + f.off ≠ A.scc c + SC_EVENT_FLAGS.off) : x.get b' f = w.get b' f := by
    unfold x
    split
    · exact State.get_put_other _ _ h
    · rfl
  have ht {b' : Nat} {f : Fld} (h : b' + f.off ≠ A.scc c + SC_SEG_RESULT_TAG.off)
      (h' : b' + f.off ≠ A.scc c + SC_EVENT_FLAGS.off) : t.get b' f = w.get b' f := by
    rw [hpush, State.get_segResult_other _ _ _ _ _ _ h, State.get_sceneChanged, hx h']
  have hscq {f : Fld} : t.get (A.scq c n) f = (u.putQueueSeg c n g).get (A.scq c n) f := by
    rw [ht (by simp only [A.scc, A.scq, SC_SEG_RESULT_TAG]; omega) (by simp only [A.scc, A.scq, SC_EVENT_FLAGS]; omega)]
    unfold w v State.putStamp
    iterate 4 rw [State.get_scq_put_scc _ _ _ _ (by decide)]
  obtain ⟨htag, hkind'⟩ := State.putQueueSeg_shows u c n g
  obtain ⟨-, -, hindex⟩ := State.segResult_shows (x.sceneChanged c) c tag stOK n 0 g.adjusted
  refine ⟨?_, ?_, ?_, ?_, ?_, ?_⟩
  · rw [ht (by simp [SC_STATUS_QUEUE_COUNT, SC_SEG_RESULT_TAG]) (by simp [SC_STATUS_QUEUE_COUNT, SC_EVENT_FLAGS])]
    unfold w v State.putStamp
    iterate 3 rw [State.get_put_apart _ _ _ (by decide) (by decide)]
    rw [State.get_put_same _ _ _ _ (by decide)]
    exact Nat.mod_eq_of_lt (Nat.lt_of_le_of_lt hroom (by decide))
  · rw [hscq, htag, hgtag]
  · rw [hscq, hkind', hgkind, hfour]
  · rw [hpush]
    exact State.segResult_status ..
  · rw [hpush, hindex]
    exact Nat.mod_eq_of_lt hroom
  · rw [ht (by simp [SC_SEG_EFF_SEC_SEC, SC_SEG_RESULT_TAG]) (by simp [SC_SEG_EFF_SEC_SEC, SC_EVENT_FLAGS])]
    unfold w
    rw [(State.get_putStamp v (A.scc c) (fs := SC_SEG_EFF_SEC_SEC) (fn := SC_SEG_EFF_NS_NS) (ff := SC_SEG_EFF_NS_FRAC)
      g.pa (by decide) (by decide) (by decide) (by decide) (by decide) (by decide) rfl rfl rfl).1, hgpa]

/-- With no segment beyond now plus H a FLUSH has nothing to remove. -/
theorem State.flush_of_none_beyond {s : State} {c : Nat} (tag : Nat) (hmirror : s.mirrorRole = false)
    (hnone : ∀ g ∈ s.queueSegs c, g.pa ≤ s.nowQ + s.horizonQ c) :
    s.flush c tag = s.segResult c tag stNOP 0 0 false := by
  have hall : (s.queueSegs c).filter (fun g => decide (g.pa ≤ s.nowQ + s.horizonQ c)) = s.queueSegs c :=
    List.filter_eq_self.mpr fun g hg => decide_eq_true (hnone g hg)
  rw [State.flush, hall, hmirror, if_neg Bool.false_ne_true, if_pos (Nat.sub_self _)]

/-- Settles O17. -/
theorem segmentCommandsReport : Obligations.SegmentCommandsReport := by
  unfold Obligations.SegmentCommandsReport
  refine ⟨fun s c kind tag hscene hbad => ?_, fun s c kind tag hscene hok => ?_, fun s c tag hscene hnone => ?_,
    fun s c tag hscene => ?_, fun s c tag hscene hmirror => ?_⟩
  · obtain ⟨htag, hseq, -⟩ := State.segResult_shows s c tag (s.pushStatus c kind) 0 0 false
    refine ⟨_, (exec_push ..).trans (congrArg _ ((if_pos hscene).trans (State.push_of_refused tag hbad))),
      State.regsOnly_segResult .., State.wordsKept_segResult _ _ _ _ _ _ _, htag, ?_, hseq⟩
    exact (State.segResult_status ..).trans (Nat.mod_eq_of_lt (State.pushStatus_lt s c kind))
  · exact ⟨_, (exec_push ..).trans (congrArg _ (if_pos hscene)), State.push_of_accepted hok⟩
  · rw [exec_flush, if_pos hscene]
    refine ⟨_, rfl, ?_⟩
    cases hmirror : s.mirrorRole with
    | true =>
      rw [State.flush_mirror c tag hmirror]
      exact ⟨State.regsOnly_segResult .., State.wordsKept_segResult _ _ _ _ _ _ _, State.segResult_status ..⟩
    | false =>
      rw [State.flush_of_none_beyond tag hmirror (hnone.resolve_left (by rw [hmirror]; exact Bool.false_ne_true))]
      exact ⟨State.regsOnly_segResult .., State.wordsKept_segResult _ _ _ _ _ _ _, State.segResult_status ..⟩
  · obtain ⟨htag, -, -⟩ := State.segResult_shows s c tag stNOP 0 0 false
    exact ⟨_, (exec_segNop ..).trans (congrArg _ (if_pos hscene)), State.regsOnly_segResult ..,
      State.wordsKept_segResult _ _ _ _ _ _ _, State.segResult_status .., htag⟩
  · intro keep hgone
    have hne : (s.queueSegs c).length - keep.length ≠ 0 := by omega
    rw [exec_flush, if_pos hscene, State.flush, hmirror, if_neg Bool.false_ne_true, if_neg hne]

/-! ## Conversion (R69, R114) -/

theorem exec_frameConversion (x q : Nat) (s : State) : exec (.frameConversion x q) s = .next (s.convert x q) := rfl

/-- A frame whose instant lies beyond the horizon stays held. -/
theorem State.convert_of_beyond {s : State} {x q p : Nat} {h : Held} (hheld : s.heldSeq x q = some h)
    (hat : s.launchAt h = some p) (hfar : s.nowQ + s.horizonQ h.clock < p) : s.convert x q = s := by
  simp only [State.convert, hheld, hat, if_pos hfar, ite_self]

/-- With no SEQ below it outstanding a frame within the horizon is converted. -/
theorem State.convert_of_within {s : State} {x q p : Nat} {h : Held} (hheld : s.heldSeq x q = some h)
    (hruns : (s.scene h.clock).stopped = false) (hat : s.launchAt h = some p) (hnear : p ≤ s.nowQ + s.horizonQ h.clock)
    (hnext : q ≤ s.nextSeq x) : s.convert x q = State.resolve { s with
      held := s.held.filter (fun g => !(g.stream == x && g.seq == q)),
      launches := (s.held.filter (fun g => g.stream == x && g.seq == q)).foldl
        (fun ls g => insertLaunch { held := g, t0 := p } ls) s.launches } x q h.epoch h.scene := by
  have hnone : ¬ (s.nextSeq x < q ∧ s.slotOf x = none ∧ s.feedMode x ≠ 2) := fun hlow => Nat.not_lt.mpr hnext hlow.1
  have hturn : ¬ (s.policy x = 2 ∧ s.nextSeq x < q) := fun hlow => Nat.not_lt.mpr hnext hlow.2
  simp only [State.convert, hheld, hruns, hat, Bool.false_eq_true, if_false, if_neg (Nat.not_lt.mpr hnear), if_neg hnone,
    if_neg hturn]

/-- Settles O19. -/
theorem framesConvertWithinHorizon : Obligations.FramesConvertWithinHorizon := by
  unfold Obligations.FramesConvertWithinHorizon
  refine ⟨fun s x q p h hheld hat hfar => ?_, fun s x q p h hheld hruns hat hnear hnext => ?_⟩
  · rw [exec_frameConversion, State.convert_of_beyond hheld hat hfar]
  · rw [exec_frameConversion, State.convert_of_within hheld hruns hat hnear hnext]

/-! ## Envelopes (R97–R102) -/

/-- The commands of a received envelope, by kind. -/
theorem exec_envelope {l : Nat} {b : List Byte} {c : Instr} {k : Nat} (s : State)
    (h : (c, k) ∈ [(Instr.envelopeFrame l b, 0x00), (.envelopeHeartbeat l b, 0x01), (.envelopeEndOfStream l b, 0x02),
      (.envelopeGrantRequest l b, 0x11)]) : exec c s = .next (s.receiveEnvelope l b k) := by
  simp only [List.mem_cons, Prod.mk.injEq, List.not_mem_nil, or_false] at h
  obtain ⟨rfl, rfl⟩ | ⟨rfl, rfl⟩ | ⟨rfl, rfl⟩ | ⟨rfl, rfl⟩ := h <;> rfl

/-- A received frame of no envelope, or of another kind, is not the event. -/
theorem State.receiveEnvelope_of_none {s : State} {l k : Nat} {b : Bytes} (h : s.envelopeOf l b k = none) :
    s.receiveEnvelope l b k = s := by
  simp only [State.receiveEnvelope, h]

theorem State.receiveEnvelope_of_some {s : State} {l k : Nat} {b : Bytes} {e : Envelope}
    (h : s.envelopeOf l b k = some e) : s.receiveEnvelope l b k = (s.countRx l b.length).envelope l e := by
  simp only [State.receiveEnvelope, h]

/-- A recognised envelope is of its event's kind. -/
theorem State.kind_of_envelopeOf {s : State} {l k : Nat} {b : Bytes} {e : Envelope} (h : s.envelopeOf l b k = some e) :
    EnvF.kind e = k := by
  unfold State.envelopeOf at h
  split at h
  · split at h
    · split at h
      · next hkind => exact Option.some.inj h ▸ hkind
      · contradiction
    · contradiction
  · contradiction

/-- A failed check is counted and nothing else happens. -/
theorem State.envelope_of_refused {s : State} {l : Nat} {e : Envelope} {f : Fld} (h : s.admission l e = .inl f) :
    s.envelope l e = s.bump (A.fd (sliceOf l)) f := by
  simp only [State.envelope, h]

/-- An admitted envelope takes its kind's effect. -/
theorem State.envelope_of_admitted {s : State} {l x : Nat} {e : Envelope} (h : s.admission l e = .inr x) :
    s.envelope l e =
      if EnvF.kind e = 0x00 then (s.bump (A.fd (sliceOf l)) FD_CNT_ACCEPTED_COUNT).acceptFrame x e
      else if EnvF.kind e = 0x01 then s.acceptHeartbeat x (sliceOf l) e
      else if EnvF.kind e = 0x02 then s.acceptEnd x (sliceOf l) e
      else s.acceptRequest x (sliceOf l) := by
  simp only [State.envelope, h]

/-- Settles O20. -/
theorem envelopesAreCheckedAndCounted : Obligations.EnvelopesAreCheckedAndCounted := by
  unfold Obligations.EnvelopesAreCheckedAndCounted
  refine fun s l b => ⟨fun c k hc => ⟨fun hnone => ?_, fun e f he hf => ?_⟩, fun e x hx => ?_⟩
  · rw [exec_envelope s hc, State.receiveEnvelope_of_none hnone]
  · rw [exec_envelope s hc, State.receiveEnvelope_of_some he, State.envelope_of_refused hf]
  · intro u
    have hkind {k : Nat} {c : Instr} (hc : (c, k) ∈ [(Instr.envelopeFrame l b, 0x00), (.envelopeHeartbeat l b, 0x01),
        (.envelopeEndOfStream l b, 0x02), (.envelopeGrantRequest l b, 0x11)]) (he : s.envelopeOf l b k = some e) :
        exec c s = .next (if k = 0x00 then (u.bump (A.fd (sliceOf l)) FD_CNT_ACCEPTED_COUNT).acceptFrame x e
          else if k = 0x01 then u.acceptHeartbeat x (sliceOf l) e
          else if k = 0x02 then u.acceptEnd x (sliceOf l) e
          else u.acceptRequest x (sliceOf l)) := by
      rw [exec_envelope s hc, State.receiveEnvelope_of_some he, State.envelope_of_admitted hx,
        State.kind_of_envelopeOf he]
    refine ⟨fun he => ?_, fun he => ?_, fun he => ?_, fun he => ?_⟩
    · rw [hkind (by simp) he, if_pos rfl]
    · rw [hkind (by simp) he, if_neg (by decide), if_pos rfl]
    · rw [hkind (by simp) he, if_neg (by decide), if_neg (by decide), if_pos rfl]
    · rw [hkind (by simp) he, if_neg (by decide), if_neg (by decide), if_neg (by decide)]

/-! ## Sources and grants (R102–R109) -/

theorem exec_sourceTimeout (n i : Nat) (s : State) : exec (.sourceTimeout n i) s = .next (s.sourceTimeout n i) := rfl

theorem exec_grantAnswerSend (x : Nat) (s : State) : exec (.grantAnswerSend x) s = .next (s.grantAnswer x) := rfl

theorem exec_grantEventSend (n i : Nat) (s : State) : exec (.grantEventSend n i) s = .next (s.grantEvents n i) := rfl

theorem exec_grantPeriod (n i : Nat) (s : State) : exec (.grantPeriod n i) s = .next (s.grantPeriod n i) := rfl

/-- Forming a record notes what it said, and writes no register. -/
theorem State.formGrant_words {s u : State} {x : Nat} {g : Grant} (h : s.formGrant x = some (g, u)) :
    u.words = s.words := by
  unfold State.formGrant at h
  extract_lets y c f hold lead bp at h
  split at h
  · contradiction
  · split at h
    · contradiction
    · rw [← (Prod.mk.inj (Option.some.inj h)).2]
      rfl

theorem State.formGrants_words (s : State) (xs : List Nat) : (s.formGrants xs).2.words = s.words := by
  unfold State.formGrants
  refine List.foldlRecOn (motive := fun r : List Grant × State => r.2.words = s.words) xs _ rfl fun r hr x _ => ?_
  cases hform : r.2.formGrant x with
  | none => exact hr
  | some p => exact (State.formGrant_words (g := p.1) (u := p.2) hform).trans hr

/-- A formed answer is sent to the stream's source. -/
theorem State.grantAnswer_of_formed {s u : State} {x : Nat} {g : Grant} (hdue : (s.feed x).reqDue = true)
    (hon : s.feedOn x = true) (hform : (s.setFeed x { s.feed x with reqDue := false }).formGrant x = some (g, u)) :
    s.grantAnswer x = u.sendGrants ((s.setFeed x { s.feed x with reqDue := false }).feedSlice x)
      ((s.setFeed x { s.feed x with reqDue := false }).feedSource x) [g] := by
  have hslice : u.feedSlice x = (s.setFeed x { s.feed x with reqDue := false }).feedSlice x :=
    State.get_of_words (State.formGrant_words hform) _ _
  have hsource : u.feedSource x = (s.setFeed x { s.feed x with reqDue := false }).feedSource x :=
    State.get_of_words (State.formGrant_words hform) _ _
  rw [State.grantAnswer, if_pos ⟨hdue, hon⟩, ← hslice, ← hsource]
  simp only [hform]

/-- At the end of an interval the records of a source without ranges go out as they are formed. -/
theorem State.grantPeriod_of_due {s : State} {n i : Nat} (hruns : s.grantsRun n i = true)
    (hrange : s.on (A.fds n i) FD_SRC_CTRL_RANGE_OK = false)
    (hdue : s.grantInterval n i ≤ s.since (SMap.get (0, 0) s.sources (n * 512 + i)).2) :
    let r := SMap.get (0, 0) s.sources (n * 512 + i)
    let u : State := { s with sources := SMap.set (0, 0) (n * 512 + i) (r.1, s.time.clk) s.sources }
    let xs := (u.sourceFeeds n i).filter (fun x => u.feedMode x != 3)
    s.grantPeriod n i = (u.formGrants xs).2.sendGrants n i (u.formGrants xs).1 := by
  intro r u xs
  have hkept : (u.formGrants xs).2.on (A.fds n i) FD_SRC_CTRL_RANGE_OK = false :=
    (State.on_of_words ((State.formGrants_words u xs).trans rfl) _ _).trans hrange
  rw [State.grantPeriod, if_pos ⟨hruns, hdue⟩]
  show (u.formGrants xs).2.sendGrants n i (if (u.formGrants xs).2.on (A.fds n i) FD_SRC_CTRL_RANGE_OK = true then _ else
    (u.formGrants xs).1) = _
  rw [hkept, if_neg Bool.false_ne_true]

/-- Settles O21. -/
theorem grantsAndSources : Obligations.GrantsAndSources := by
  unfold Obligations.GrantsAndSources
  refine ⟨fun s n i hup hen => ?_, fun s u x g hdue hon hform => ?_, fun s n i hruns => ?_,
    fun s n i hruns hrange => ?_, fun s n i hearly => ?_⟩
  · intro t r
    rw [exec_sourceTimeout, State.sourceTimeout]
    by_cases hsilent : t * 1000 ≤ s.since (r.1 - 1)
    · rw [if_pos ⟨hup, hen, hsilent⟩, if_pos hsilent]
    · rw [if_neg fun h => hsilent h.2.2, if_neg hsilent]
  · rw [exec_grantAnswerSend, State.grantAnswer_of_formed hdue hon hform]
  · intro xs u
    rw [exec_grantEventSend, State.grantEvents, if_pos hruns]
  · intro r hdue u xs
    rw [exec_grantPeriod, State.grantPeriod_of_due hruns hrange hdue]
  · rw [exec_grantPeriod, State.grantPeriod, if_neg fun h => Nat.not_lt.mpr h.2 hearly]

/-! ## Late tests and holds (R117, R121) -/

theorem exec_lateTest (x : Nat) (s : State) : exec (.lateTest x) s = .next (s.lateTest x) := rfl

theorem exec_holdLimitExpiry (x : Nat) (s : State) : exec (.holdLimitExpiry x) s = .next (s.holdLimit x) := rfl

/-- The late test of an ACTIVE stream's next SEQ, which is not held and has a slot with an instant. -/
theorem State.lateTest_of_slot {s : State} {x e y p : Nat} (hon : s.feedOn x = true) (hactive : s.feedMode x = 1)
    (hmissing : s.heldSeq x (s.nextSeq x) = none) (hslot : s.slotOf x = some (e, y))
    (hphys : s.physOf (s.feedClock x) e y = some p) :
    s.lateTest x = if p + s.feedD x ≤ s.nowQ + s.horizonQ (s.feedClock x) then s.lateFail x (some (e, y)) else s := by
  have hrun : ¬ ((!s.feedOn x) = true ∨ s.feedMode x ≠ 1 ∨ (s.heldSeq x (s.nextSeq x)).isSome = true) := by
    simp [hon, hactive, hmissing]
  simp only [State.lateTest, if_neg hrun, hslot, hphys]

/-- A stream that waits for a missing SEQ passes it over at the limit. -/
theorem State.holdLimit_of_holding {s : State} {x y : Nat} (hholding : (s.feed x).holdingAt = some y)
    (hmode : s.feedMode x = 2) :
    s.holdLimit x = if s.get (A.tfeed x) HM_FEED_W1_HOLD_LIMIT_NS ≤ s.since y then
        ((s.countLate x 1).noteLate x [s.nextSeq x]).advanceTo x (s.nextSeq x + 1) (s.slotOf x)
      else s := by
  simp only [State.holdLimit, hholding, hmode, true_and]

/-- Settles O22. -/
theorem lateTestsAndHolds : Obligations.LateTestsAndHolds := by
  unfold Obligations.LateTestsAndHolds
  refine ⟨fun s x e y p hon hactive hmissing hslot hphys => ?_, fun s x y hholding hmode => ?_⟩
  · rw [exec_lateTest, State.lateTest_of_slot hon hactive hmissing hslot hphys]
  · rw [exec_holdLimitExpiry, State.holdLimit_of_holding hholding hmode]

end Sys2Proof.Machine
end

/-!
PROOFS. Counters, launches, the end of a transmission and gate lists (spec/13_measurement.md R341, R342;
spec/05_launch_gates.md R130–R152).
-/

section
namespace Sys2Proof.Machine

/-! ## Counters (R341, R342) -/

/-- The words that hold overflow flags of counter groups. -/
def ovfWord (a : Nat) : Prop := a = A.ms + MS_OVF_FLAGS.off ∨ ∃ n, a = A.mss n + MSS_OVF_FLAGS.off

/-- An overflow sets at most one flag of one group. -/
theorem State.overflow_frame (s : State) (a : Nat) : regsOnly s (s.overflow a) ∧ wordsKept ovfWord s (s.overflow a) := by
  unfold State.overflow State.raise
  split
  · exact ⟨regsOnly_put .., wordsKept_put _ _ (.inr ⟨_, rfl⟩)⟩
  · split
    · exact ⟨regsOnly_put .., wordsKept_put _ _ (.inl rfl)⟩
    · exact ⟨rfl, wordsKept_refl _ _⟩

/-- Counting writes the counter and at most its group's overflow flag. -/
theorem State.add_frame (s : State) (b : Nat) (f : Fld) (n : Nat) : regsOnly s (s.add b f n) ∧
    wordsKept (fun a => a = b + f.off ∨ ovfWord a) s (s.add b f n) := by
  obtain ⟨hregs, hkept⟩ := State.overflow_frame (s.put b f (s.get b f + n)) (b + f.off)
  unfold State.add
  extract_lets v u
  split
  · exact ⟨regsOnly_put .., wordsKept_put _ _ (.inl rfl)⟩
  · exact ⟨regsOnly_trans (regsOnly_put ..) hregs,
      wordsKept_trans (wordsKept_put _ _ (.inl rfl)) fun a ha => hkept a fun h => ha (.inr h)⟩

theorem State.regsOnly_bump (s : State) (b : Nat) (f : Fld) : regsOnly s (s.bump b f) := (State.add_frame s b f 1).1

/-- A count leaves the fields of other words alone that hold no overflow flags. -/
theorem State.get_add_other (s : State) {b c : Nat} {f g : Fld} (n : Nat) (h : c + g.off ≠ b + f.off)
    (hovf : ¬ ovfWord (c + g.off)) : (s.add b f n).get c g = s.get c g := by
  unfold State.get
  rw [(State.add_frame s b f n).2 _ (not_or.mpr ⟨h, hovf⟩)]

theorem State.get_bump_other (s : State) {b c : Nat} {f g : Fld} (h : c + g.off ≠ b + f.off)
    (hovf : ¬ ovfWord (c + g.off)) : (s.bump b f).get c g = s.get c g := State.get_add_other s 1 h hovf

theorem not_ovfWord_gcp (l : Nat) {f : Fld} (hf : f.off < 0x200) : ¬ ovfWord (A.gcp l + f.off) := by
  rintro (h | ⟨n, h⟩) <;>
    simp only [A.gcp, A.ms, A.mss, MS_OVF_FLAGS, MSS_OVF_FLAGS] at h <;> omega

/-! ## Ports -/

theorem State.atPort_of_isPort {s : State} {l : Nat} (f : State → State) (h : s.isPort l = true) : s.atPort l f = f s :=
  if_pos h

theorem State.atPort_of_eq {s : State} {l : Nat} {f : State → State} (h : f s = s) : s.atPort l f = s := by
  rw [State.atPort, h, ite_self]

/-! ## Launches (R133–R138) -/

theorem exec_launchStage {s : State} (l : Nat) (h : s.datapath = true) : exec (.launchStage l) s = .next (s.stage l) :=
  congrArg _ (if_pos h)

theorem exec_launch_eq (l : Nat) (s : State) :
    exec (.launch l) s = .next (if s.datapath || !s.linkUp l then s.launch l else s) := rfl

theorem exec_launch {s : State} (l : Nat) (h : s.datapath = true) : exec (.launch l) s = .next (s.launch l) := by
  rw [exec_launch_eq, h, Bool.true_or, if_pos rfl]

/-- The first unstaged launch after `y` has taken its place. -/
def State.restage (s : State) (l : Nat) (y : Launch) : State :=
  { s with launches := replaceFirst (Launch.unstaged l) (fun _ => y) s.launches }

/-- What becomes of the first unstaged launch: missed without its profile or with too long a frame, else staged. -/
theorem State.stage_of_unstaged {s : State} {l : Nat} {x : Launch}
    (h : s.launches.find? (Launch.unstaged l) = some x) : s.stage l =
      if !s.profValid (sliceOf l) x.held.rewrite then s.restage l { x with fail := some 6 }
      else if s.get (A.lnp l) LN_PORT_MAXFRAME_BYTES < (s.rewrite l x.held).length then
        s.restage l { x with fail := some 5 }
      else
        let u := s.restage l { x with staged := some (s.rewrite l x.held), stagedAt := s.nowQ }
        if x.t0 < u.nowQ + nsQ (u.txNs l (s.rewrite l x.held).length) + nsQ 32 then
          (u.bump (A.lnp l) LN_LATE_STAGE_COUNT).raise (A.lnp l) LN_EVENT_FLAGS 4
        else u := by
  simp only [State.stage, h]
  rfl

/-- Before its instant a launch does not start. -/
theorem State.launch_of_early {s : State} {l : Nat} {x : Launch} (hhead : (s.portLaunches l).head? = some x)
    (hearly : s.nowQ < x.t0) : s.launch l = s := by
  simp only [State.launch, hhead, if_pos hearly]

theorem State.launch_of_missCause {s : State} {l c : Nat} {x : Launch} (hhead : (s.portLaunches l).head? = some x)
    (hdue : x.t0 ≤ s.nowQ) (hcause : s.missCause l x = some c) : s.launch l = s.miss l x c := by
  simp only [State.launch, hhead, if_neg (Nat.not_lt.mpr hdue), hcause]

/-- A staged launch that the wire and its lateness tolerance let go, and the injectors pass, starts. -/
theorem State.launch_of_passed {s u : State} {l start : Nat} {x : Launch} {b d : Bytes}
    (hhead : (s.portLaunches l).head? = some x) (hcause : s.missCause l x = none) (hstaged : x.staged = some b)
    (hwire : (s.wire l).tx = none) (hstart : start = max (max x.t0 (s.wire l).freeAt) (max x.stagedAt x.released))
    (hdue : start ≤ s.nowQ)
    (htol : x.held.dropLate = false ∨ start ≤ x.t0 + nsQ (s.get (A.lnp l) LN_PORT_CTRL_LATE_TOL_NS))
    (hpass : s.inject l 0 x.inj { bytes := b, stream := some x.held.stream, cls := x.held.tc } = (u, .pass d)) :
    s.launch l = u.startLaunch l x d start false := by
  have hinstant : ¬ s.nowQ < x.t0 := by omega
  have hfree : ¬ ((s.wire l).tx.isSome || decide (s.nowQ < start)) = true := by
    simp [hwire, hdue]
  have hkeep : ¬ (x.held.dropLate &&
      decide (x.t0 + nsQ (s.get (A.lnp l) LN_PORT_CTRL_LATE_TOL_NS) < start)) = true := by
    simp only [Bool.and_eq_true, decide_eq_true_eq]
    exact fun ⟨hdrop, hlate⟩ => htol.elim (by simp [hdrop]) (by omega)
  simp only [State.launch, hhead, if_neg hinstant, hcause, hstaged, ← hstart, if_neg hfree, if_neg hkeep, hpass]

/-- Settles O26. -/
theorem launchesStageAndStart : Obligations.LaunchesStageAndStart := by
  unfold Obligations.LaunchesStageAndStart
  refine ⟨fun s l x hrun hfind hprof hlong => ?_, fun s l x hrun hfind hprof => ?_,
    fun s l x hrun hfind hprof hfits => ?_, fun s l x hhead hearly => ?_, fun s l c x hrun hhead hdue hcause => ?_,
    fun s u l x b d hrun hhead hcause hstaged hwire => ?_⟩
  · rw [exec_launchStage l hrun, State.stage_of_unstaged hfind, hprof, if_pos hlong]
    rfl
  · rw [exec_launchStage l hrun, State.stage_of_unstaged hfind, hprof]
    rfl
  · rw [exec_launchStage l hrun, State.stage_of_unstaged hfind, hprof, if_neg (Nat.not_lt.mpr hfits)]
    extract_lets u
    refine ⟨_, rfl, ?_⟩
    have hframe (t : State) (hregs : regsOnly u t) : t = { s with words := t.words, launches := t.launches } ∧
        t.launches = u.launches := by
      obtain ⟨w, rfl⟩ := exists_words_of_regsOnly hregs
      exact ⟨rfl, rfl⟩
    rw [if_neg (by decide)]
    split
    · exact hframe _ (regsOnly_trans (State.regsOnly_bump ..) (regsOnly_put ..))
    · exact hframe _ (regsOnly_refl u)
  · rw [exec_launch_eq, State.launch_of_early hhead hearly, ite_self]
  · rw [exec_launch l hrun, State.launch_of_missCause hhead hdue hcause]
  · intro start hdue htol hpass
    rw [exec_launch l hrun, State.launch_of_passed hhead hcause hstaged hwire rfl hdue htol hpass]

/-! ## The end of a transmission (R113, R130, R343) -/

theorem exec_transmitComplete (l : Nat) (s : State) :
    exec (.transmitComplete l) s = .next (s.atPort l (·.transmitDone l)) := rfl

theorem State.transmitDone_of_early {s : State} {l : Nat} {x : Tx} (htx : (s.wire l).tx = some x)
    (hearly : s.nowQ < x.stop) : s.transmitDone l = s := by
  simp only [State.transmitDone, htx, if_pos hearly]

/-- A frame that no injector has dropped, without skew, at its last bit. -/
theorem State.transmitDone_of_stop {s : State} {l : Nat} {x : Tx} (htx : (s.wire l).tx = some x) (hstop : x.stop ≤ s.nowQ)
    (hsent : x.dropped = false) (hskew : s.ownSkew l x.frame.own = 0) :
    let a := ((s.setWire l { s.wire l with tx := none }).emit (x.output l 0)).countTx l x.frame.bytes.length (some x.cls)
      x.launch.isSome
    let b := match x.launch with
      | some y => a.launchDone l x y
      | none => a.freeRelay l x.frame.cells
    s.transmitDone l =
      ((((b.ownSent l x.frame.own (x.start + 64 * 65536 / max 1 (b.portRate l))).refreshPe l).groupIdle l).recredit l) := by
  simp only [State.transmitDone, htx, if_neg (Nat.not_lt.mpr hstop), hskew, hsent, if_pos, Bool.false_eq_true, if_false] <;>
    rfl

/-- Settles O27. -/
theorem framesLeaveTheWire : Obligations.FramesLeaveTheWire := by
  unfold Obligations.FramesLeaveTheWire
  refine ⟨fun s l x htx hearly => ?_, fun s l x hport htx hstop hsent hskew => ?_, fun s l hport => ?_⟩
  · rw [exec_transmitComplete, State.atPort_of_eq (State.transmitDone_of_early htx hearly)]
  · intro a b
    rw [exec_transmitComplete, State.atPort_of_isPort _ hport]
    exact congrArg _ (State.transmitDone_of_stop htx hstop hsent hskew)
  · exact congrArg _ (State.atPort_of_isPort _ hport)

/-! ## Gate list commands (R148, R149, R151) -/

theorem exec_configChange {s : State} {l : Nat} (tag : Nat) (h : s.isPort l = true) :
    exec (.configChange l tag) s = .next (s.gateChange l tag) := congrArg _ (State.atPort_of_isPort _ h)

theorem exec_cancel {s : State} {l : Nat} (tag : Nat) (h : s.isPort l = true) :
    exec (.cancel l tag) s = .next (s.gateCancel l tag) := congrArg _ (State.atPort_of_isPort _ h)

theorem exec_gcCmdNop (l tag : Nat) (s : State) :
    exec (.gcCmdNop l tag) s = .next (s.atPort l (·.gateResult l tag stNOP false false)) := rfl

theorem State.gateLists_of_regsOnly {s t : State} (h : regsOnly s t) (l : Nat) : t.gateLists l = s.gateLists l := by
  obtain ⟨w, rfl⟩ := exists_words_of_regsOnly h
  rfl

theorem State.gateLists_setGateLists (s : State) (l : Nat) (g : GateLists) : (s.setGateLists l g).gateLists l = g :=
  SMap.get_set_same ..

/-- The result of a gate list command, with RESULT_SEQ counted on from the state before the command. -/
theorem State.gateResult_eq (s : State) (l tag status : Nat) (adjusted replaced : Bool) :
    s.gateResult l tag status adjusted replaced =
      ((((s.put (A.gcp l) GC_CMD_RESULT_TAG tag).put (A.gcp l) GC_CMD_RESULT_RESULT_SEQ
        (s.get (A.gcp l) GC_CMD_RESULT_RESULT_SEQ + 1)).put (A.gcp l) GC_CMD_RESULT_REPLACED (bit replaced)).put
        (A.gcp l) GC_CMD_RESULT_BASE_ADJUSTED (bit adjusted)).put (A.gcp l) GC_CMD_RESULT_STATUS status := by
  rw [State.gateResult, State.inc, State.get_put_apart _ _ _ (by decide) (by decide)]

theorem State.regsOnly_gateResult (s : State) (l tag status : Nat) (adjusted replaced : Bool) :
    regsOnly s (s.gateResult l tag status adjusted replaced) := by
  rw [State.gateResult_eq]
  exact (((((regsOnly_refl s).put ..).put ..).put ..).put ..).put ..

theorem State.wordsKept_gateResult (s : State) (l tag status : Nat) (adjusted replaced : Bool) :
    wordsKept (· = A.gcp l + GC_CMD_RESULT_TAG.off) s (s.gateResult l tag status adjusted replaced) := by
  rw [State.gateResult_eq]
  exact .put_at (.put_at (.put_at (.put_at (.put_at (wordsKept_refl _ s) _ (by rfl)) _ (by rfl)) _ (by rfl)) _ (by rfl))
    _ (by rfl)

theorem State.get_gateResult_other (s : State) {l : Nat} (tag status : Nat) (adjusted replaced : Bool) {f : Fld}
    (h : f.off ≠ GC_CMD_RESULT_TAG.off) :
    (s.gateResult l tag status adjusted replaced).get (A.gcp l) f = s.get (A.gcp l) f := by
  unfold State.get
  rw [State.wordsKept_gateResult s l tag status adjusted replaced _ fun hw => h (Nat.add_left_cancel hw)]

/-- A result shows the status, the identifier and whether a pending change was replaced. -/
theorem State.gateResult_shows (s : State) (l tag status : Nat) (adjusted replaced : Bool) :
    (s.gateResult l tag status adjusted replaced).get (A.gcp l) GC_CMD_RESULT_STATUS = status % 2 ^ 8 ∧
    (s.gateResult l tag status adjusted replaced).get (A.gcp l) GC_CMD_RESULT_TAG = tag % 2 ^ 16 ∧
    (s.gateResult l tag status adjusted replaced).get (A.gcp l) GC_CMD_RESULT_REPLACED = bit replaced := by
  rw [State.gateResult_eq]
  refine ⟨State.get_put_same _ _ _ _ (by decide), ?_, ?_⟩
  · rw [State.get_put_apart _ _ _ (by decide) (by decide), State.get_put_apart _ _ _ (by decide) (by decide),
      State.get_put_apart _ _ _ (by decide) (by decide), State.get_put_apart _ _ _ (by decide) (by decide)]
    exact State.get_put_same _ _ _ _ (by decide)
  · rw [State.get_put_apart _ _ _ (by decide) (by decide), State.get_put_apart _ _ _ (by decide) (by decide),
      State.get_put_same _ _ _ _ (by decide)]
    cases replaced <;> rfl

/-- CONFIG_CHANGE whose admin list fails a check. -/
theorem State.gateChange_of_failed {s : State} {l : Nat} (tag : Nat)
    (h : commitStatus (s.gateAdmin l) 4096 (fun e => decide (geOp e ≤ 2)) (s.gateLists l).pending s.nowQ ≠ stOK) :
    s.gateChange l tag = s.gateResult l tag
      (commitStatus (s.gateAdmin l) 4096 (fun e => decide (geOp e ≤ 2)) (s.gateLists l).pending s.nowQ) false false :=
  if_neg h

/-- The state in which a change is pending, before its result is shown. -/
def State.gatePend (s : State) (l : Nat) : State :=
  let g := s.gateAdmin l
  let n := changeN g.base g.cycle (s.nowQ + nsQ 2000)
  let cct := g.base + n * nsQ g.cycle
  let u := ((s.setGateLists l { s.gateLists l with pending := some (g, cct) }).showCct l cct).put (A.gcp l)
    GC_STATUS_CONFIG_PENDING 1
  if 0 < n then u.bump (A.gcp l) GC_CNT_CFG_ERROR_COUNT else u

/-- CONFIG_CHANGE whose admin list passes. -/
theorem State.gateChange_of_passed {s : State} {l : Nat} (tag : Nat)
    (h : commitStatus (s.gateAdmin l) 4096 (fun e => decide (geOp e ≤ 2)) (s.gateLists l).pending s.nowQ = stOK) :
    ∃ adjusted, s.gateChange l tag = (s.gatePend l).gateResult l tag stOK adjusted (s.gateLists l).pending.isSome :=
  ⟨_, if_pos h⟩

theorem State.gatePend_frame (s : State) (l : Nat) :
    let g := s.gateAdmin l
    let cct := g.base + changeN g.base g.cycle (s.nowQ + nsQ 2000) * nsQ g.cycle
    regsOnly (s.setGateLists l { s.gateLists l with pending := some (g, cct) }) (s.gatePend l) ∧
      (s.gatePend l).get (A.gcp l) GC_STATUS_CONFIG_PENDING = 1 := by
  unfold State.gatePend
  intro g cct
  extract_lets _ _ _ u
  have hu : regsOnly (s.setGateLists l { s.gateLists l with pending := some (g, cct) }) u :=
    (((regsOnly_refl _).put ..).put ..).put ..
  have hpend : u.get (A.gcp l) GC_STATUS_CONFIG_PENDING = 1 := State.get_put_same _ _ _ _ (by decide)
  split
  · refine ⟨regsOnly_trans hu (State.regsOnly_bump ..), ?_⟩
    rw [State.get_bump_other u (by simp [GC_STATUS_CONFIG_PENDING, GC_CNT_CFG_ERROR_COUNT])
      (not_ovfWord_gcp l (by decide)), hpend]
  · exact ⟨hu, hpend⟩

theorem State.gateCancel_of_none {s : State} {l : Nat} (tag : Nat) (h : (s.gateLists l).pending = none) :
    s.gateCancel l tag = s.gateResult l tag stNOP false false := by
  simp only [State.gateCancel, h]

theorem State.gateCancel_of_late {s : State} {l cct : Nat} {g : GateSet} (tag : Nat)
    (h : (s.gateLists l).pending = some (g, cct)) (hlate : cct < s.nowQ + nsQ 2000) :
    s.gateCancel l tag = s.gateResult l tag stChangeLocked false false := by
  simp only [State.gateCancel, h, if_pos hlate]

theorem State.gateCancel_of_early {s : State} {l cct : Nat} {g : GateSet} (tag : Nat)
    (h : (s.gateLists l).pending = some (g, cct)) (hearly : s.nowQ + nsQ 2000 ≤ cct) :
    s.gateCancel l tag =
      (((s.setGateLists l { s.gateLists l with pending := none }).showCct l (s.gateLists l).lastCct).put (A.gcp l)
        GC_STATUS_CONFIG_PENDING 0).gateResult l tag stOK false false := by
  simp only [State.gateCancel, h, if_neg (Nat.not_lt.mpr hearly)]

/-- Settles O29. -/
theorem gateCommands : Obligations.GateCommands := by
  unfold Obligations.GateCommands
  refine ⟨fun s l tag hport hfail => ?_, fun s l tag hport hpass => ?_, fun s l tag hport hnone => ?_,
    fun s l tag cct g hport hpend hlate => ?_, fun s l tag cct g hport hpend hearly => ?_, fun s l tag hport => ?_⟩
  · rw [exec_configChange tag hport, State.gateChange_of_failed tag hfail]
  · intro g k
    obtain ⟨adjusted, hchange⟩ := State.gateChange_of_passed tag hpass
    obtain ⟨hregs, hpend⟩ := State.gatePend_frame s l
    obtain ⟨hstatus, htag, hreplaced⟩ :=
      State.gateResult_shows (s.gatePend l) l tag stOK adjusted (s.gateLists l).pending.isSome
    have hlists := (State.gateLists_of_regsOnly (regsOnly_trans hregs (State.regsOnly_gateResult _ l tag stOK adjusted
      (s.gateLists l).pending.isSome)) l).trans (State.gateLists_setGateLists s l _)
    refine ⟨_, (exec_configChange tag hport).trans (congrArg _ hchange), ?_, ?_, ?_, hstatus, htag, hreplaced⟩
    · rw [hlists]
    · rw [hlists]
    · rw [State.get_gateResult_other _ _ _ _ _ (by decide), hpend]
  · rw [exec_cancel tag hport, State.gateCancel_of_none tag hnone]
  · rw [exec_cancel tag hport, State.gateCancel_of_late tag hpend hlate]
  · have hcancel := State.gateCancel_of_early tag hpend hearly
    have hlists := (State.gateLists_of_regsOnly (regsOnly_trans ((((regsOnly_refl _).put ..).put ..).put ..)
      (State.regsOnly_gateResult (((s.setGateLists l { s.gateLists l with pending := none }).showCct l
        (s.gateLists l).lastCct).put (A.gcp l) GC_STATUS_CONFIG_PENDING 0) l tag stOK false false)) l).trans
      (State.gateLists_setGateLists s l _)
    refine ⟨_, (exec_cancel tag hport).trans (congrArg _ hcancel), ?_, ?_, ?_, (State.gateResult_shows _ _ _ _ _ _).1⟩
    · rw [hlists]
    · rw [hlists]
    · rw [State.get_gateResult_other _ _ _ _ _ (by decide)]
      exact State.get_put_same _ _ _ _ (by decide)
  · obtain ⟨hstatus, htag, -⟩ := State.gateResult_shows s l tag stNOP false false
    exact ⟨_, (exec_gcCmdNop l tag s).trans (congrArg _ (State.atPort_of_isPort _ hport)), State.regsOnly_gateResult .., State.wordsKept_gateResult _ _ _ _ _ _, hstatus, htag⟩

/-! ## The gate list in operation (R145–R149, R158) -/

theorem exec_configChangeTime (l : Nat) (s : State) :
    exec (.configChangeTime l) s = .next (s.atPort l (·.gateApply l)) := rfl

theorem exec_gateEntryStart (l : Nat) (intact : Bool) (s : State) :
    exec (.gateEntryStart l intact) s = .next (s.atPort l (·.gateEntry l intact)) := rfl

theorem exec_gateEnWrite (l : Nat) (en : Bool) (s : State) :
    exec (.gateEnWrite l en) s = .next (s.atPort l (·.put (A.gcp l) GC_PORT_CTRL_GATE_EN (bit en))) := rfl

theorem exec_gcListDataRead (l : Nat) (s : State) : exec (.gcListDataRead l) s =
    .next (s.atPort l fun s => (s.put (A.gcp l) GC_LIST_DATA_ENTRY (s.gateData l)).gateNext l) := rfl

theorem State.gateApply_of_early {s : State} {l cct : Nat} {g : GateSet} (h : (s.gateLists l).pending = some (g, cct))
    (hearly : s.nowQ < cct) : s.gateApply l = s := by
  simp only [State.gateApply, h, if_pos hearly]

/-- An entry that is due begins; the gates follow only an intact one. -/
theorem State.gateEntry_of_due {s : State} {l i e t : Nat} (intact : Bool) (h : s.operEntry l = some (i, e, t))
    (hen : (s.gateLists l).enabled = true) (hnew : (s.gateLists l).entryAt ≠ some t) :
    let u := s.setGateLists l { s.gateLists l with entryAt := some t }
    s.gateEntry l intact =
      if intact then u.enterGate l i e
      else (u.raise (A.gcp l) GC_EVENT_FLAGS 3).report (srcSlice (sliceOf l) 5) 0x0011 objPort l 0 := by
  have hdue : ¬ (!(s.gateLists l).enabled || (s.gateLists l).entryAt == some t) = true := by
    simp [hen, hnew]
  simp only [State.gateEntry, h, if_neg hdue]

/-- A read of the list window advances its INDEX under AUTO_INC alone. -/
theorem State.gateNext_frame (s : State) (l : Nat) :
    regsOnly s (s.gateNext l) ∧ (s.gateNext l).get (A.gcp l) GC_LIST_DATA_ENTRY = s.get (A.gcp l) GC_LIST_DATA_ENTRY ∧
    (s.gateNext l).get (A.gcp l) GC_LIST_PTR_INDEX = (if s.on (A.gcp l) GC_LIST_PTR_AUTO_INC = true then
      (s.get (A.gcp l) GC_LIST_PTR_INDEX + 1) % 2 ^ (GC_LIST_PTR_INDEX.hi + 1 - GC_LIST_PTR_INDEX.lo)
      else s.get (A.gcp l) GC_LIST_PTR_INDEX) := by
  unfold State.gateNext State.inc
  split
  · exact ⟨regsOnly_put .., State.get_put_apart _ _ _ (by decide) (by decide), State.get_put_same _ _ _ _ (by decide)⟩
  · exact ⟨rfl, rfl, rfl⟩

/-- Settles O30. -/
theorem gateListsRun : Obligations.GateListsRun := by
  unfold Obligations.GateListsRun
  refine ⟨fun s l cct g hpend hearly => ?_, fun s l cct g hport hpend hdue hoper => ?_,
    fun s l i e t intact hport hentry hen hnew => ?_, fun s l en hport => ?_, fun s l hport => ?_⟩
  · rw [exec_configChangeTime, State.atPort_of_eq (State.gateApply_of_early hpend hearly)]
  · intro u
    rw [exec_configChangeTime, State.atPort_of_isPort _ hport]
    simp only [State.gateApply, hpend, if_neg (Nat.not_lt.mpr hdue), hoper]
    rfl
  · intro u
    rw [exec_gateEntryStart, State.atPort_of_isPort _ hport, State.gateEntry_of_due intact hentry hen hnew]
  · exact ⟨_, (exec_gateEnWrite l en s).trans (congrArg _ (State.atPort_of_isPort _ hport)), regsOnly_put ..,
      (State.get_put_same _ _ _ _ (by decide)).trans (by cases en <;> rfl), State.onlyField_put _ _ _ _ (by decide)⟩
  · have hstep := (exec_gcListDataRead l s).trans (congrArg _ (State.atPort_of_isPort _ hport))
    obtain ⟨hregs, hentry, hindex⟩ :=
      State.gateNext_frame (s.put (A.gcp l) GC_LIST_DATA_ENTRY (s.gateData l)) l
    refine ⟨_, hstep, regsOnly_trans (regsOnly_put ..) hregs,
      hentry.trans (State.get_put_same _ _ _ _ (by decide)), ?_⟩
    rw [hindex, State.get_put_apart _ _ _ (by decide) (by decide), State.on, State.get_put_apart _ _ _ (by decide) (by decide),
      State.on]

end Sys2Proof.Machine
end

/-!
PROOFS. Selection of a frame for the wire, egress, the links of the ports and the matrices of cells
(spec/06_preemption_shaping.md R160–R167; spec/01_module.md R28; spec/07_cells.md R189–R191).
-/

section
namespace Sys2Proof.Machine

/-! ## Selection (R160–R162) and the way to the egress queues (R28) -/

theorem exec_transmitSelect (l : Nat) (s : State) : exec (.transmitSelect l) s = .next (s.atPort l (·.select l)) := rfl

theorem exec_egressEnqueue (n : Nat) (s : State) : exec (.egressEnqueue n) s = .next (s.atSlice n (·.leave n)) := rfl

theorem State.atSlice_of_eq {s : State} {n : Nat} {f : State → State} (h : f s = s) : s.atSlice n f = s := by
  rw [State.atSlice, h, ite_self]

/-- A wire that is busy or has no link serves nothing. -/
theorem State.select_of_blocked {s : State} {l : Nat}
    (h : (s.wire l).tx.isSome = true ∨ s.nowQ < (s.wire l).freeAt ∨ s.linkUp l = false) : s.select l = s := by
  have hblocked : ((s.wire l).tx.isSome || decide (s.nowQ < (s.wire l).freeAt) || !s.linkUp l) = true := by
    simpa [or_assoc] using h
  simp only [State.select, if_pos hblocked]

/-- A free wire: the express classes first, then a pre-empted frame, then the other classes. -/
theorem State.select_of_free {s : State} {l : Nat} (htx : (s.wire l).tx = none) (hfree : (s.wire l).freeAt ≤ s.nowQ)
    (hup : s.linkUp l = true) :
    let u := (s.dropHeads l).noteDeferred l
    let v := match u.pick l (u.macClasses l true), (s.wire l).preempted, u.pick l (u.macClasses l false) with
      | some p, _, _ => u.serve l p
      | none, some x, _ => u.continuation l x
      | none, none, some p => u.serve l p
      | none, none, none => u
    s.select l = (v.groupIdle l).recredit l := by
  have hopen : ¬ ((s.wire l).tx.isSome || decide (s.nowQ < (s.wire l).freeAt) || !s.linkUp l) = true := by
    simp [htx, hup, hfree]
  intro u v
  simp only [State.select, if_neg hopen]
  congr 2
  unfold v
  cases u.pick l (u.macClasses l true) with
  | some p => rfl
  | none => cases (s.wire l).preempted with
    | some x => rfl
    | none => cases u.pick l (u.macClasses l false) <;> rfl

/-- The frame of a slice's crossing queue that waits for its instant. -/
def State.crossingQ (s : State) (x : Crossing) : Nat := if x.left then x.due else s.halfQ x

theorem State.leave_of_early {s : State} {n : Nat} (h : ∀ x ∈ SMap.get [] s.crossing n, s.nowQ < s.crossingQ x) :
    s.leave n = s := by
  have hnone : (SMap.get [] s.crossing n).findIdx? (fun x => decide (s.crossingQ x ≤ s.nowQ)) = none :=
    List.findIdx?_eq_none_iff.mpr fun x hx => decide_eq_false (Nat.not_le.mpr (h x hx))
  unfold State.crossingQ at hnone
  simp only [State.leave, hnone]

theorem State.leave_of_first {s : State} {n : Nat} {x : Crossing} {r : List Crossing}
    (hq : SMap.get [] s.crossing n = x :: r) (hdue : s.crossingQ x ≤ s.nowQ) :
    let y := if x.left then s.offer x else s.split n x
    s.leave n = { y.2 with crossing := SMap.set [] n (y.1 ++ r) y.2.crossing } := by
  have hfirst : (x :: r).findIdx? (fun x => decide (s.crossingQ x ≤ s.nowQ)) = some 0 := by
    rw [List.findIdx?_cons, if_pos (decide_eq_true hdue)]
  unfold State.crossingQ at hfirst
  simp only [State.leave, hq, hfirst, List.getElem?_cons_zero]
  rfl

/-- Settles O31. -/
theorem transmissionIsSelected : Obligations.TransmissionIsSelected := by
  unfold Obligations.TransmissionIsSelected
  refine ⟨fun s l hblocked => ?_, fun s l hport htx hfree hup => ?_, fun s n hearly => ?_,
    fun s n x r hslice hq hdue => ?_⟩
  · rw [exec_transmitSelect, State.atPort_of_eq (State.select_of_blocked hblocked)]
  · intro u v
    rw [exec_transmitSelect, State.atPort_of_isPort _ hport]
    exact congrArg _ (State.select_of_free htx hfree hup)
  · rw [exec_egressEnqueue, State.atSlice_of_eq (State.leave_of_early hearly)]
  · intro y
    rw [exec_egressEnqueue, State.atSlice_of_isSlice _ hslice]
    exact congrArg _ (State.leave_of_first hq hdue)

/-! ## Links of the ports (R25, R130, R165) -/

theorem exec_portLinkLoss (l : Nat) (s : State) : exec (.portLinkLoss l) s = .next (s.atPort l (·.linkLoss l)) := rfl

theorem exec_portLinkUp (l rate : Nat) (s : State) :
    exec (.portLinkUp l rate) s = .next (s.atPort l (·.linkGain l rate)) := rfl

theorem State.merge_of_regsOnly {s t : State} (h : regsOnly s t) (l : Nat) : t.merge l = s.merge l := by
  obtain ⟨w, rfl⟩ := exists_words_of_regsOnly h
  rfl

/-- Settles O35. -/
theorem portLinksComeAndGo : Obligations.PortLinksComeAndGo := by
  unfold Obligations.PortLinksComeAndGo
  refine ⟨fun s l hport => ?_, fun s l rate p hp => ?_⟩
  · intro a b c
    have hmerge : c.merge l = b.merge l := State.merge_of_regsOnly (regsOnly_put ..) l
    rw [exec_portLinkLoss, State.atPort_of_isPort _ hport, hmerge]
    rfl
  · have hport : s.isPort l = true := by rw [State.isPort, hp]; rfl
    rw [exec_portLinkUp, State.atPort_of_isPort _ hport]
    simp only [State.linkGain, hp, Bool.not_eq_true', List.any_eq_true, decide_eq_true_eq]

/-! ## Matrices of cells (R189, R190) -/

theorem State.atCell_of_home {s : State} {c : Nat} (f : State → State) (h : (s.homeSlice c).isSome = true) :
    s.atCell c f = f s := if_pos h

theorem exec_commit {s : State} {c : Nat} (tag : Nat) (h : (s.homeSlice c).isSome = true) :
    exec (.commit c tag) s = .next (s.matrixCommit c tag) := congrArg _ (State.atCell_of_home (·.matrixCommit c tag) h)

theorem exec_clMxCancel {s : State} {c : Nat} (tag : Nat) (h : (s.homeSlice c).isSome = true) :
    exec (.clMxCancel c tag) s = .next (s.matrixCancel c tag) := congrArg _ (State.atCell_of_home (·.matrixCancel c tag) h)

theorem exec_clMxNop_eq (c tag : Nat) (s : State) :
    exec (.clMxNop c tag) s = .next (s.atCell c (·.matrixResult c tag stNOP 0 0 false)) := rfl

theorem exec_matrixChangeEffective {s : State} {c : Nat} (h : (s.homeSlice c).isSome = true) :
    exec (.matrixChangeEffective c) s = .next (s.matrixApply c) := congrArg _ (State.atCell_of_home (·.matrixApply c) h)

theorem exec_clMxW1Read (n : Nat) (s : State) : exec (.clMxW1Read n) s =
    .next (s.atSlice n fun s => (s.put (A.cl n) CL_MX_W1_ENTRY1 (s.mxWindow n).2).mxNext n) := rfl

/-- COMMIT of a matrix that fails a check. -/
theorem State.matrixCommit_of_fail {s : State} {c st cyc win : Nat} (tag : Nat)
    (h : s.matrixFail c (s.adminMatrix c) = some (st, cyc, win)) :
    s.matrixCommit c tag = s.matrixResult c tag st cyc win false := by
  simp only [State.matrixCommit, h]

/-- COMMIT less than 2 µs before a pending change. -/
theorem State.matrixCommit_of_locked {s : State} {c e : Nat} {m : List Basic} (tag : Nat)
    (h : s.matrixFail c (s.adminMatrix c) = none) (hpend : (s.cell c).pending = some (m, e))
    (hlate : e < s.toCell c s.nowQ + nsQ 2000) :
    s.matrixCommit c tag = s.matrixResult c tag stChangeLocked 0 0 false := by
  simp only [State.matrixCommit, h, hpend, decide_eq_true hlate, if_true]

/-- COMMIT on a running cell without a pending change waits for the first start of the matrix. -/
theorem State.matrixCommit_of_running {s : State} {c b : Nat} (tag : Nat)
    (h : s.matrixFail c (s.adminMatrix c) = none) (hpend : (s.cell c).pending = none)
    (hon : (s.matrixResult c tag stOK 0 0 false).cellOn c = true) (hbase : (s.cell c).base = some b) :
    let len := nsQ (matrixLen (s.cell c).oper)
    let eff := b + ceilDiv (s.toCell c s.nowQ + nsQ 2000 - b) len * len
    let u := (s.matrixResult c tag stOK 0 0 false).setCell c { s.cell c with pending := some (s.adminMatrix c, eff) }
    s.matrixCommit c tag = (u.put (u.cellBase c) CL_STATUS_CONFIG_PENDING 1).showEff c (u.fromCell c eff) := by
  simp only [State.matrixCommit, h, hpend, Bool.false_eq_true, if_false, Option.isSome_none, hon, hbase]

theorem State.matrixCancel_of_none {s : State} {c : Nat} (tag : Nat) (h : (s.cell c).pending = none) :
    s.matrixCancel c tag = s.matrixResult c tag stNOP 0 0 false := by
  simp only [State.matrixCancel, h]

theorem State.matrixCancel_of_locked {s : State} {c e : Nat} {m : List Basic} (tag : Nat)
    (hpend : (s.cell c).pending = some (m, e)) (hlate : e < s.toCell c s.nowQ + nsQ 2000) :
    s.matrixCancel c tag = s.matrixResult c tag stChangeLocked 0 0 false := by
  simp only [State.matrixCancel, hpend, if_pos hlate]

/-- Settles O36. -/
theorem matrixCommands : Obligations.MatrixCommands := by
  unfold Obligations.MatrixCommands
  refine ⟨fun s c tag st cyc win hhome hfail => ?_, fun s c tag e m hhome hpass hpend hlate => ⟨?_, ?_⟩,
    fun s c tag b hhome hpass hpend hon hbase => ?_, fun s c tag hhome => ⟨?_, fun hnone => ?_⟩,
    fun s c tag e m hhome hpend hearly => ?_, fun s c e m hhome hpend => ?_, fun s n hslice => ?_⟩
  · rw [exec_commit tag hhome, State.matrixCommit_of_fail tag hfail]
  · rw [exec_commit tag hhome, State.matrixCommit_of_locked tag hpass hpend hlate]
  · rw [exec_clMxCancel tag hhome, State.matrixCancel_of_locked tag hpend hlate]
  · intro len eff u v
    exact (exec_commit tag hhome).trans (congrArg _ (State.matrixCommit_of_running tag hpass hpend hon hbase))
  · rw [exec_clMxNop_eq, State.atCell_of_home _ hhome]
  · rw [exec_clMxCancel tag hhome, State.matrixCancel_of_none tag hnone]
  · intro u v
    rw [exec_clMxCancel tag hhome]
    simp only [State.matrixCancel, hpend, if_neg (Nat.not_lt.mpr hearly)]
    rfl
  · rw [exec_matrixChangeEffective hhome]
    simp only [State.matrixApply, hpend, Bool.not_eq_true']
  · rw [exec_clMxW1Read, State.atSlice_of_isSlice _ hslice]

end Sys2Proof.Machine
end

/-!
PROOFS. Frames that enter the pipelines, the rule sets of the TCAM and the batches of the stream table
(spec/08_parse_classify.md R221–R240).
-/

section
namespace Sys2Proof.Machine

theorem regsOnly_foldl {α : Type} {f : State → α → State} (hf : ∀ s x, regsOnly s (f s x)) (xs : List α) (s : State) :
    regsOnly s (xs.foldl f s) :=
  List.foldlRecOn (motive := regsOnly s) xs f (regsOnly_refl s) fun _ hu x _ => regsOnly_trans hu (hf _ x)

theorem next_atSlice {s : State} {n : Nat} (f : State → State) (h : s.isSlice n = true) :
    (.next (s.atSlice n f) : Host.Outcome State Fault Refusal) = .next (f s) := by
  rw [State.atSlice_of_isSlice f h]

/-! ## Arrival, second passes and the slow path (R24, R230, R232) -/

theorem exec_ingressFrame (l : Nat) (b : List Byte) (intact full : Bool) (s : State) :
    exec (.ingressFrame l b intact full) s = .next
      (if s.isPort l && s.linkUp l then s.arrive { lane := l, bytes := b, sof := s.nowQ, intact := intact } full else s) :=
  rfl

theorem exec_recircPass (n p : Nat) (s : State) :
    exec (.recircPass n p) s = .next (s.atSlice n (·.recircPass n p)) := rfl

theorem exec_slowPathRecord (s : State) : exec .slowPathRecord s = .next s.slowRecord := rfl

theorem State.arrive_of_injectionOff {s : State} (a : Arrival) (full : Bool) (h : s.injectionOn = false) :
    s.arrive a full = s.receive a full := by
  simp only [State.arrive, h, Bool.false_eq_true, if_false]

theorem State.recircPass_of_empty {s : State} {n p : Nat} (h : SMap.get [] s.recirc (n * 8 + p) = []) :
    s.recircPass n p = s := by
  simp only [State.recircPass, h]

/-- The head of a recirculation queue looks itself up by its inner headers. -/
theorem State.recircPass_of_head {s : State} {n p : Nat} {x : Recirc} {xs : List Recirc}
    (h : SMap.get [] s.recirc (n * 8 + p) = x :: xs) :
    let u : State := { s with recirc := SMap.set [] (n * 8 + p) xs s.recirc }
    let a : Arrival := { lane := x.lane, bytes := x.bytes, sof := x.sof, intact := x.intact, stepped := x.stepped }
    let f := u.find x.lane (u.get (A.cfp x.lane) CF_PORT_CTRL_TABLE2) true x.epoch x.mdata
      (u.parseInner n a.body { tunnel := x.inner })
    s.recircPass n p = (u.countFound x.lane f).follow a f (some x.slot) true := by
  intro u a f
  unfold State.recircPass
  rw [h]

/-- Settles O39. -/
theorem framesEnterThePipelines : Obligations.FramesEnterThePipelines := by
  unfold Obligations.FramesEnterThePipelines
  refine ⟨fun s l b intact full hdown => ?_, fun s l b intact full hport hup hoff => ?_, fun s n p hempty => ?_,
    fun s n p x xs hslice hhead => ?_, fun s hempty => ?_, fun s x xs hhead => ?_⟩
  · have hclosed : ¬ (s.isPort l && s.linkUp l) = true := by
      rcases hdown with h | h <;> simp [h]
    rw [exec_ingressFrame, if_neg hclosed]
  · have hopen : (s.isPort l && s.linkUp l) = true := by rw [hport, hup]; rfl
    rw [exec_ingressFrame, if_pos hopen, State.arrive_of_injectionOff _ _ hoff]
  · rw [exec_recircPass, State.atSlice_of_eq (State.recircPass_of_empty hempty)]
  · intro u a f
    rw [exec_recircPass, State.atSlice_of_isSlice _ hslice]
    exact congrArg _ (State.recircPass_of_head hhead)
  · rw [exec_slowPathRecord, State.slowRecord, hempty]
  · rw [exec_slowPathRecord, State.slowRecord, hhead]

/-! ## Rule sets (R228, R229) -/

theorem exec_add {s : State} {n : Nat} (h : s.isSlice n = true) : exec (.add n) s = .next (s.tcamAdd n) :=
  next_atSlice (·.tcamAdd n) h

theorem exec_remove {s : State} {n : Nat} (h : s.isSlice n = true) : exec (.remove n) s = .next (s.tcamRemove n) :=
  next_atSlice (·.tcamRemove n) h

theorem exec_commitEpoch {s : State} {n : Nat} (h : s.isSlice n = true) :
    exec (.commitEpoch n) s = .next (s.commitEpoch n) := next_atSlice (·.commitEpoch n) h

theorem exec_clearHits {s : State} {n : Nat} (h : s.isSlice n = true) :
    exec (.clearHits n) s = .next (s.clearHits n) := next_atSlice (·.clearHits n) h

theorem exec_cfRead {s : State} {n : Nat} (h : s.isSlice n = true) : exec (.cfRead n) s = .next (s.cfRead n) :=
  next_atSlice (·.cfRead n) h

theorem exec_epochRetire {s : State} {n : Nat} (h : s.isSlice n = true) :
    exec (.epochRetire n) s = .next (s.retire n) := next_atSlice (·.retire n) h

/-- A condition that a field of one bit gives, known to be clear. -/
theorem State.off_of_eq {s : State} {b : Nat} {f : Fld} (h : s.on b f = false) : ¬ s.on b f = true :=
  Bool.eq_false_iff.mp h

/-- ADD of a slot that some width fits: a free entry takes the window's words and joins the staging set. -/
theorem State.tcamAdd_of_fits {s : State} {n w : Nat} (hidle : s.on (A.cf n) CF_EPOCH_RETIRING = false)
    (hwidth : s.slotWidth n (s.cfSlot n) = some w) :
    let e := A.ttcam n (s.cfSlot n)
    let mask := s.wide (A.cf n) CF_EM_MASK % 2 ^ keyBits w
    let u := (((s.putWide e CF_EK_VALUE (s.wide (A.cf n) CF_EK_VALUE % 2 ^ keyBits w)).putWide e CF_EM_MASK mask).put e
      CF_EA_ACTION (s.get (A.cf n) CF_EA_ACTION)).put e CF_EHITS_HITS 0
    s.tcamAdd n =
      if s.get e CF_EIN_IN != 0 || mask &&& keyReserved w != 0 || !actionOk (s.get (A.cf n) CF_EA_ACTION) then
        s.cfStatus n stBadValue
      else (u.raise e CF_EIN_IN (u.staging n)).cfStatus n stOK := by
  simp only [State.tcamAdd, if_neg (State.off_of_eq hidle), hwidth]

theorem State.regsOnly_cfStatus (s : State) (n st : Nat) : regsOnly s (s.cfStatus n st) := regsOnly_put ..

/-- Retirement ends once no frame of the old epoch is left. -/
theorem State.retire_of_clear {s : State} {n : Nat} (hon : s.on (A.cf n) CF_EPOCH_RETIRING = true)
    (hclear : s.epochClear n (1 - s.get (A.cf n) CF_EPOCH_CURRENT) = true) :
    regsOnly s (s.retire n) ∧ (s.retire n).get (A.cf n) CF_EPOCH_RETIRING = 0 := by
  have hdone : (s.on (A.cf n) CF_EPOCH_RETIRING && s.epochClear n (1 - s.get (A.cf n) CF_EPOCH_CURRENT)) = true := by
    rw [hon, hclear]
    rfl
  simp only [State.retire, if_pos hdone]
  exact ⟨regsOnly_trans (regsOnly_foldl (fun _ _ => regsOnly_put ..) _ s) (regsOnly_put ..),
    State.get_put_same _ _ _ _ (by decide)⟩

theorem State.retire_of_busy {s : State} {n : Nat}
    (hbusy : s.epochClear n (1 - s.get (A.cf n) CF_EPOCH_CURRENT) = false) : s.retire n = s := by
  simp only [State.retire, hbusy, Bool.and_false, Bool.false_eq_true, if_false]

/-- Settles O40. -/
theorem ruleSetCommands : Obligations.RuleSetCommands := by
  unfold Obligations.RuleSetCommands
  refine ⟨fun s n hslice hon => ⟨?_, ?_, ?_⟩, fun s n hslice hidle hwidth => ?_, fun s n w hslice hidle hwidth => ?_,
    fun s n hslice hidle => ?_, fun s n hslice hidle => ?_, fun s n hslice => exec_clearHits hslice,
    fun s n hslice => exec_cfRead hslice, fun s n hslice _ hbusy => ?_, fun s n hslice hon hclear => ?_⟩
  · rw [exec_add hslice, State.tcamAdd, if_pos hon]
  · rw [exec_remove hslice, State.tcamRemove, if_pos hon]
  · rw [exec_commitEpoch hslice, State.commitEpoch, if_pos hon]
  · rw [exec_add hslice, State.tcamAdd, if_neg (State.off_of_eq hidle), hwidth]
  · intro e mask hfree hmask haction u
    have hgood : ¬ (s.get e CF_EIN_IN != 0 || mask &&& keyReserved w != 0 ||
        !actionOk (s.get (A.cf n) CF_EA_ACTION)) = true := by
      rw [hfree, hmask, haction]
      decide
    rw [exec_add hslice, State.tcamAdd_of_fits hidle hwidth, if_neg hgood]
  · intro e
    rw [exec_remove hslice, State.tcamRemove, if_neg (State.off_of_eq hidle)]
  · have hcommit : s.commitEpoch n =
        ((s.put (A.cf n) CF_EPOCH_CURRENT (s.staging n)).put (A.cf n) CF_EPOCH_RETIRING 1).cfStatus n stOK :=
      if_neg (State.off_of_eq hidle)
    refine ⟨_, (exec_commitEpoch hslice).trans (congrArg _ hcommit),
      (((regsOnly_refl s).put ..).put ..).put .., ?_, ?_⟩ <;>
      rw [State.cfStatus, State.get_put_apart _ _ _ (by decide) (by decide)]
    · rw [State.get_put_apart _ _ _ (by decide) (by decide)]
      exact State.get_put_same _ _ _ _ (by decide)
    · exact State.get_put_same _ _ _ _ (by decide)
  · rw [exec_epochRetire hslice, State.retire_of_busy hbusy]
  · exact ⟨_, exec_epochRetire hslice, State.retire_of_clear hon hclear⟩

/-! ## Batches of the stream table (R236–R238) -/

theorem exec_stNop (n tag : Nat) (s : State) :
    exec (.stNop n tag) s = .next (s.atSlice n (·.stResult n tag stNOP 0)) := rfl

theorem exec_stCommit {s : State} {n : Nat} (tag : Nat) (h : s.isSlice n = true) :
    exec (.stCommit n tag) s = .next (s.stCommit n tag) := next_atSlice (·.stCommit n tag) h

theorem exec_stAbort {s : State} {n : Nat} (tag : Nat) (h : s.isSlice n = true) :
    exec (.stAbort n tag) s = .next (s.stAbort n tag) := next_atSlice (·.stAbort n tag) h

theorem exec_stage {s : State} {n : Nat} (tag : Nat) (h : s.isSlice n = true) :
    exec (.stage n tag) s = .next (s.stStage n tag) := next_atSlice (·.stStage n tag) h

theorem exec_stRead {s : State} {n : Nat} (tag : Nat) (h : s.isSlice n = true) :
    exec (.stRead n tag) s = .next (s.stRead n tag) := next_atSlice (·.stRead n tag) h

theorem exec_readCounts {s : State} {n : Nat} (tag : Nat) (h : s.isSlice n = true) :
    exec (.readCounts n tag) s = .next (s.readCounts n tag) :=
  next_atSlice (·.readCounts n tag) h

theorem exec_unblock {s : State} {n : Nat} (tag : Nat) (h : s.isSlice n = true) :
    exec (.unblock n tag) s = .next (s.unblock n tag) := next_atSlice (·.unblock n tag) h

theorem exec_stGrpRead {s : State} {n : Nat} (h : s.isSlice n = true) :
    exec (.stGrpRead n) s = .next (s.groupRead n) := next_atSlice (·.groupRead n) h

theorem exec_stGrpStage {s : State} {n : Nat} (h : s.isSlice n = true) :
    exec (.stGrpStage n) s = .next (s.groupStage n) := next_atSlice (·.groupStage n) h

theorem exec_batchApply (n : Nat) (s : State) : exec (.batchApply n) s = .next (s.batchApply n) := rfl

theorem exec_lateApply (n : Nat) (s : State) : exec (.lateApply n) s = .next (s.lateApply n) := rfl

theorem State.regsOnly_stResult (s : State) (n tag status fail : Nat) : regsOnly s (s.stResult n tag status fail) :=
  ((((regsOnly_refl s).put ..).put ..).put ..).put ..

theorem State.wordsKept_stResult (s : State) (n tag status fail : Nat) :
    wordsKept (· = A.st n + ST_RESULT_TAG.off) s (s.stResult n tag status fail) :=
  .put_at (.put_at (.put_at (.put_at (wordsKept_refl _ s) _ (by rfl)) _ (by rfl)) _ (by rfl)) _ (by rfl)

/-- A result shows the status, the identifier and the number of staged items. -/
theorem State.stResult_shows (s : State) (n tag status fail : Nat) :
    (s.stResult n tag status fail).get (A.st n) ST_RESULT_STATUS = status % 2 ^ 8 ∧
    (s.stResult n tag status fail).get (A.st n) ST_RESULT_TAG = tag % 2 ^ 16 ∧
    (s.stResult n tag status fail).get (A.st n) ST_RESULT_STAGED = s.batch.length % 2 ^ 16 := by
  refine ⟨State.get_put_same _ _ _ _ (by decide), ?_, ?_⟩ <;>
    rw [State.stResult, State.get_put_apart _ _ _ (by decide) (by decide),
      State.get_put_apart _ _ _ (by decide) (by decide)]
  · rw [State.get_put_apart _ _ _ (by decide) (by decide)]
    exact State.get_put_same _ _ _ _ (by decide)
  · exact State.get_put_same _ _ _ _ (by decide)

theorem State.stAbort_of_items {s : State} {n : Nat} (tag : Nat) (h : s.batch ≠ []) :
    s.stAbort n tag = State.stResult { s with batch := [] } n tag stOK 0 :=
  if_neg (by simpa using h)

theorem State.stCommit_of_fail {s : State} {n st i : Nat} (tag : Nat) (h : s.batch ≠ [])
    (hfail : s.batchFail = some (st, i)) : s.stCommit n tag = s.stResult n tag st i := by
  have hitems : ¬ s.batch.isEmpty = true := by simpa using h
  simp only [State.stCommit, if_neg hitems, hfail]

/-- The batch that a commit through slice `n` gives to the slices in service. -/
def State.committed (s : State) (n : Nat) : Update :=
  ⟨s.batch, (s.get (A.st n) ST_EPOCH_COMMITTED + 1) % 2 ^ 32, s.nowQ + nsQ (s.get (A.st n) ST_CTRL_APPLY_LEAD_NS),
    s.liveSlices⟩

/-- A COMMIT that passes changes, besides registers, the batch and the committed batch. -/
theorem State.stCommit_of_pass {s : State} {n : Nat} (tag : Nat) (h : s.batch ≠ []) (hpass : s.batchFail = none)
    (hlive : s.liveSlices ≠ []) :
    regsOnly { s with batch := [], update := some (s.committed n) } (s.stCommit n tag) := by
  have hitems : ¬ s.batch.isEmpty = true := by simpa using h
  have hslices : s.liveSlices.isEmpty = false := by simpa using hlive
  simp only [State.stCommit, if_neg hitems, hpass, hslices, Bool.false_eq_true, if_false]
  exact regsOnly_trans (regsOnly_foldl (fun _ _ => regsOnly_put ..) _ _) (State.regsOnly_stResult ..)

theorem State.batchApply_of_holds {s : State} {n : Nat} {u : Update} (hu : s.update = some u) (hn : n ∈ u.slices) :
    s.batchApply n = if u.at_ ≤ s.nowQ then s.applyUpdate n u else s := by
  simp only [State.batchApply, hu, List.contains_iff_mem, hn, true_and]

theorem State.lateApply_of_holds {s : State} {n : Nat} {u : Update} (hu : s.update = some u) (hn : n ∈ u.slices) :
    s.lateApply n = if u.at_ < s.nowQ then
      ((s.applyUpdate n u).bump (A.st n) ST_CNT_LATE_APPLY_COUNT).reportOther (srcSlice n 2) objSlice n 0 else s := by
  simp only [State.lateApply, hu, List.contains_iff_mem, hn, true_and]

/-- A slice that has applied the batch, or a module without one, changes nothing. -/
theorem State.apply_of_done {s : State} {n : Nat} (h : ∀ u ∈ s.update, n ∉ u.slices) :
    s.batchApply n = s ∧ s.lateApply n = s := by
  unfold State.batchApply State.lateApply
  cases hu : s.update with
  | none => exact ⟨rfl, rfl⟩
  | some u =>
    have hn : ¬ u.slices.contains n = true := by simpa using h u hu
    exact ⟨if_neg fun hc => hn hc.1, if_neg fun hc => hn hc.1⟩

/-- Settles O41. -/
theorem streamTableCommands : Obligations.StreamTableCommands := by
  unfold Obligations.StreamTableCommands
  refine ⟨fun s n tag hslice => ?_, fun s n tag hslice hempty => ⟨?_, ?_⟩, fun s n tag hslice hitems => ?_,
    fun s n tag hslice => exec_stage tag hslice, fun s n tag st i hslice hitems hfail => ?_,
    fun s n tag hslice hitems hpass hlive => ?_,
    fun s n tag hslice => ⟨exec_stRead tag hslice, exec_readCounts tag hslice, exec_unblock tag hslice⟩,
    fun s n hslice => ⟨exec_stGrpRead hslice, exec_stGrpStage hslice⟩, fun s n u hu hn => ⟨?_, ?_⟩,
    fun s n hdone => ⟨?_, ?_⟩⟩
  · obtain ⟨hstatus, htag, -⟩ := State.stResult_shows s n tag stNOP 0
    exact ⟨_, (exec_stNop n tag s).trans (congrArg _ (State.atSlice_of_isSlice _ hslice)), State.regsOnly_stResult ..,
      State.wordsKept_stResult _ _ _ _ _, htag, hstatus⟩
  · rw [exec_stCommit tag hslice, State.stCommit, hempty, if_pos List.isEmpty_nil]
  · rw [exec_stAbort tag hslice, State.stAbort, hempty, if_pos List.isEmpty_nil]
  · obtain ⟨hstatus, -, hstaged⟩ := State.stResult_shows { s with batch := [] } n tag stOK 0
    obtain ⟨w, hw⟩ := exists_words_of_regsOnly (State.regsOnly_stResult { s with batch := [] } n tag stOK 0)
    refine ⟨_, (exec_stAbort tag hslice).trans (congrArg _ (State.stAbort_of_items tag hitems)), ?_, ?_, hstatus, hstaged⟩
    · rw [hw]
    · rw [hw]
  · rw [exec_stCommit tag hslice, State.stCommit_of_fail tag hitems hfail]
  · obtain ⟨w, hw⟩ := exists_words_of_regsOnly (State.stCommit_of_pass (n := n) tag hitems hpass hlive)
    refine ⟨_, exec_stCommit tag hslice, ?_, ?_, ?_⟩
    · rw [hw]
    · rw [hw]
      rfl
    · rw [hw]
  · rw [exec_batchApply, State.batchApply_of_holds hu hn]
  · rw [exec_lateApply, State.lateApply_of_holds hu hn]
  · rw [exec_batchApply, (State.apply_of_done hdone).1]
  · rw [exec_lateApply, (State.apply_of_done hdone).2]

end Sys2Proof.Machine
end

/-!
PROOFS. Stream gates, flow meters, and the tables of sequence generation and recovery
(spec/08_parse_classify.md R242–R244; spec/09_redundancy.md R247–R256).
-/

section
namespace Sys2Proof.Machine

/-! ## Stream gates (R242, R243) -/

theorem exec_sgConfigChange {s : State} {n : Nat} (g tag : Nat) (h : s.isSlice n = true) :
    exec (.sgConfigChange n g tag) s = .next (s.sgChange n g tag) := next_atSlice (·.sgChange n g tag) h

theorem exec_sgCancel {s : State} {n : Nat} (g tag : Nat) (h : s.isSlice n = true) :
    exec (.sgCancel n g tag) s = .next (s.sgCancel n g tag) := next_atSlice (·.sgCancel n g tag) h

theorem exec_sgClear {s : State} {n : Nat} (g tag : Nat) (h : s.isSlice n = true) :
    exec (.sgClear n g tag) s = .next (s.sgClear n g tag) := next_atSlice (·.sgClear n g tag) h

theorem exec_sgNop {s : State} {n : Nat} (g tag : Nat) (h : s.isSlice n = true) :
    exec (.sgNop n g tag) s = .next (s.sgResult n g tag stNOP false false) :=
  next_atSlice (·.sgResult n g tag stNOP false false) h

theorem exec_sgConfigChangeTime {s : State} {n : Nat} (g : Nat) (h : s.isSlice n = true) :
    exec (.sgConfigChangeTime n g) s = .next (s.sgApply n g) := next_atSlice (·.sgApply n g) h

theorem exec_sgEntryStart {s : State} {n : Nat} (g : Nat) (h : s.isSlice n = true) :
    exec (.sgEntryStart n g) s = .next (s.sgEntry n g) := next_atSlice (·.sgEntry n g) h

theorem exec_sgDataRead {s : State} {n : Nat} (h : s.isSlice n = true) :
    exec (.sgDataRead n) s = .next ((s.put (A.st n) ST_SG_DATA_ENTRY (s.sgData n)).sgNext n) :=
  next_atSlice (fun s => (s.put (A.st n) ST_SG_DATA_ENTRY (s.sgData n)).sgNext n) h

theorem exec_fmRead {s : State} {n : Nat} (h : s.isSlice n = true) : exec (.fmRead n) s = .next (s.fmRead n) :=
  next_atSlice (·.fmRead n) h

theorem exec_fmWrite {s : State} {n : Nat} (h : s.isSlice n = true) : exec (.fmWrite n) s = .next (s.fmWrite n) :=
  next_atSlice (·.fmWrite n) h

theorem exec_clearRed {s : State} {n : Nat} (h : s.isSlice n = true) : exec (.clearRed n) s = .next (s.fmClearRed n) :=
  next_atSlice (·.fmClearRed n) h

theorem State.sgCancel_of_none {s : State} {n g : Nat} (tag : Nat) (h : (s.sgate n g).lists.pending = none) :
    s.sgCancel n g tag = s.sgResult n g tag stNOP false false := by
  simp only [State.sgCancel, h]

theorem State.sgCancel_of_pending {s : State} {n g cct : Nat} {x : GateSet} (tag : Nat)
    (h : (s.sgate n g).lists.pending = some (x, cct)) :
    s.sgCancel n g tag =
      if cct < s.nowQ + nsQ 2000 then s.sgResult n g tag stChangeLocked false false
      else ((((s.setSgLists n g { (s.sgate n g).lists with pending := none }).sgShowCct n g
        (s.sgate n g).lists.lastCct).put (A.tsgate n g) ST_SG_STATUS_CONFIG_PENDING 0).sgShowPool n).sgResult n g tag stOK
        false false := by
  simp only [State.sgCancel, h]

/-- The result of a stream gate command, with RESULT_SEQ counted on from the state before the command. -/
theorem State.sgResult_eq (s : State) (n g tag status : Nat) (adjusted replaced : Bool) :
    s.sgResult n g tag status adjusted replaced =
      ((((s.put (A.tsgate n g) ST_SG_RESULT_TAG tag).put (A.tsgate n g) ST_SG_RESULT_RESULT_SEQ
        (s.get (A.tsgate n g) ST_SG_RESULT_RESULT_SEQ + 1)).put (A.tsgate n g) ST_SG_RESULT_REPLACED (bit replaced)).put
        (A.tsgate n g) ST_SG_RESULT_BASE_ADJUSTED (bit adjusted)).put (A.tsgate n g) ST_SG_RESULT_STATUS status := by
  rw [State.sgResult, State.inc, State.get_put_apart _ _ _ (by decide) (by decide)]

theorem State.regsOnly_sgResult (s : State) (n g tag status : Nat) (adjusted replaced : Bool) :
    regsOnly s (s.sgResult n g tag status adjusted replaced) := by
  rw [State.sgResult_eq]
  exact (((((regsOnly_refl s).put ..).put ..).put ..).put ..).put ..

/-- A result leaves the other registers of its gate alone. -/
theorem State.get_sgResult_other (s : State) {n g : Nat} (tag status : Nat) (adjusted replaced : Bool) {f : Fld}
    (h : f.off ≠ ST_SG_RESULT_TAG.off) :
    (s.sgResult n g tag status adjusted replaced).get (A.tsgate n g) f = s.get (A.tsgate n g) f := by
  have hkept : wordsKept (· = A.tsgate n g + ST_SG_RESULT_TAG.off) s (s.sgResult n g tag status adjusted replaced) := by
    rw [State.sgResult_eq]
    exact .put_at (.put_at (.put_at (.put_at (.put_at (wordsKept_refl _ s) _ (by rfl)) _ (by rfl)) _ (by rfl)) _
      (by rfl)) _ (by rfl)
  unfold State.get
  rw [hkept _ fun hw => h (Nat.add_left_cancel hw)]

/-- CLEAR releases a gate held closed and shows its result; it changes registers alone. -/
theorem State.sgClear_frame (s : State) (n g tag : Nat) :
    regsOnly s (s.sgClear n g tag) ∧ (s.sgClear n g tag).get (A.tsgate n g) ST_SG_STATUS_CLOSED_OCTETS = 0 ∧
    (s.sgClear n g tag).get (A.tsgate n g) ST_SG_STATUS_CLOSED_INV_RX = 0 ∧
    (s.sgClear n g tag).get (A.tsgate n g) ST_SG_RESULT_STATUS = stOK := by
  unfold State.sgClear
  refine ⟨regsOnly_trans (((regsOnly_refl s).put ..).put ..) (State.regsOnly_sgResult ..), ?_, ?_,
    State.get_put_same _ _ _ _ (by decide)⟩
  · rw [State.get_sgResult_other _ _ _ _ _ (by decide), State.get_put_apart _ _ _ (by decide) (by decide)]
    exact State.get_put_same _ _ _ _ (by decide)
  · rw [State.get_sgResult_other _ _ _ _ _ (by decide)]
    exact State.get_put_same _ _ _ _ (by decide)

theorem State.sgApply_of_pending {s : State} {n g cct : Nat} {p : GateSet}
    (h : (s.sgate n g).lists.pending = some (p, cct)) :
    s.sgApply n g =
      if s.nowQ < cct then s
      else (((s.setSgLists n g { (s.sgate n g).lists with
        pending := none, oper := some p, entryAt := none, lastCct := cct }).put (A.tsgate n g) ST_SG_STATUS_CONFIG_PENDING
        0).sgShowPool n).sgEntry n g := by
  simp only [State.sgApply, h]

/-- An entry that is due opens or closes the gate, with no octets passed. -/
theorem State.sgEntry_of_due {s : State} {n g i e t : Nat} (h : s.sgEntryAt n g s.nowQ = some (i, e, t))
    (hnew : (s.sgate n g).lists.entryAt ≠ some t) :
    s.sgEntry n g = ((s.setSgate n g { lists := { (s.sgate n g).lists with entryAt := some t }, octets := 0 }).put
      (A.tsgate n g) ST_SG_STATUS_OPEN (bit (sgOpen e))).put (A.tsgate n g) ST_SG_STATUS_CUR_ENTRY i := by
  simp only [State.sgEntry, h, if_neg hnew]

/-- Settles O42. -/
theorem streamGateCommands : Obligations.StreamGateCommands := by
  unfold Obligations.StreamGateCommands
  refine ⟨fun s n g tag hslice => exec_sgConfigChange g tag hslice, fun s n g tag hslice hnone => ?_,
    fun s n g tag cct x hslice hpend => ?_,
    fun s n g tag hslice => ⟨⟨_, exec_sgClear g tag hslice, State.sgClear_frame s n g tag⟩, exec_sgNop g tag hslice⟩,
    fun s n g cct p hslice hpend => ?_, fun s n g i e t hslice hentry hnew => ?_, fun s n hslice => exec_sgDataRead hslice,
    fun s n hslice => ⟨exec_fmRead hslice, exec_fmWrite hslice, exec_clearRed hslice⟩⟩
  · rw [exec_sgCancel g tag hslice, State.sgCancel_of_none tag hnone]
  · rw [exec_sgCancel g tag hslice, State.sgCancel_of_pending tag hpend]
  · rw [exec_sgConfigChangeTime g hslice, State.sgApply_of_pending hpend]
  · rw [exec_sgEntryStart g hslice, State.sgEntry_of_due hentry hnew]

/-! ## Sequence generation and recovery (R247–R256) -/

theorem exec_frGenRead {s : State} {n : Nat} (h : s.isSlice n = true) : exec (.frGenRead n) s = .next (s.genRead n) :=
  next_atSlice (·.genRead n) h

theorem exec_frGenWrite {s : State} {n : Nat} (h : s.isSlice n = true) : exec (.frGenWrite n) s = .next (s.genWrite n) :=
  next_atSlice (·.genWrite n) h

theorem exec_frGenReset {s : State} {n : Nat} (h : s.isSlice n = true) : exec (.frGenReset n) s = .next (s.genReset n) :=
  next_atSlice (·.genReset n) h

theorem exec_frRecRead {s : State} {n : Nat} (h : s.isSlice n = true) : exec (.frRecRead n) s = .next (s.recRead n) :=
  next_atSlice (·.recRead n) h

theorem exec_frRecWrite {s : State} {n : Nat} (h : s.isSlice n = true) : exec (.frRecWrite n) s = .next (s.recWrite n) :=
  next_atSlice (·.recWrite n) h

theorem exec_frRecClearCounts {s : State} {n : Nat} (h : s.isSlice n = true) : exec (.frRecClearCounts n) s =
    .next ((s.recClear n (s.get (A.fr n) FR_REC_IDX_INDEX)).put (A.fr n) FR_REC_CMD_STATUS stOK) :=
  next_atSlice (fun s => (s.recClear n (s.get (A.fr n) FR_REC_IDX_INDEX)).put (A.fr n) FR_REC_CMD_STATUS stOK) h

theorem exec_latentErrorTest {s : State} {n : Nat} (i : Nat) (h : s.isSlice n = true) :
    exec (.latentErrorTest n i) s = .next (s.latentTest n i) := next_atSlice (·.latentTest n i) h

theorem exec_latentBaseReset {s : State} {n : Nat} (i : Nat) (h : s.isSlice n = true) :
    exec (.latentBaseReset n i) s = .next (s.latentReset n i) := next_atSlice (·.latentReset n i) h

/-- The timer of a recovery that runs and holds a sequence. -/
theorem State.recTimer_of_valid {s : State} {n i : Nat} (hen : s.on (A.trecf n i) FR_REC_W0_EN = true)
    (hvalid : s.on (A.trecf n i) FR_REC_W2_VALID = true) :
    s.recTimer n i =
      if s.get (A.trecf n i) FR_REC_W0_RESET_MS * 1000000 ≤ s.since (s.rec_ n i).passAt then s.recReset n i else s := by
  simp only [State.recTimer, hen, hvalid, Bool.true_and, decide_eq_true_eq]

/-- A latent error test that is due. -/
theorem State.latentTest_of_due {s : State} {n i : Nat} (hen : s.on (A.trecf n i) FR_REC_W0_EN = true)
    (hlat : s.on (A.trecf n i) FR_REC_W0_LAT_EN = true)
    (hdue : s.get (A.trecf n i) FR_REC_W1_LAT_PERIOD_MS * 1000000 ≤ s.since (s.rec_ n i).testAt) :
    let b := A.trecf n i
    let u := s.setRec n i { s.rec_ n i with testAt := s.time.clk }
    s.latentTest n i =
      if u.get b FR_REC_W1_LAT_DIFF < (u.pathBalance n i - (s.rec_ n i).base).natAbs then
        (((u.put b FR_REC_W2_LATENT 1).bump b FR_REC_W10_LATENT_ERRORS).raise (A.fr n) FR_EVENT_FLAGS 0).reportOther
          (srcSlice n 9) objNone 0 0
      else u := by
  simp only [State.latentTest, hen, hlat, decide_eq_true hdue, Bool.true_and, if_true]

theorem State.latentReset_of_enabled {s : State} {n i : Nat} (hen : s.on (A.trecf n i) FR_REC_W0_EN = true)
    (hlat : s.on (A.trecf n i) FR_REC_W0_LAT_EN = true) :
    s.latentReset n i =
      if s.get (A.trecf n i) FR_REC_W1_LAT_RESET_S * 1000000000 ≤ s.since (s.rec_ n i).baseAt then s.latentBase n i
      else s := by
  simp only [State.latentReset, hen, hlat, Bool.true_and, decide_eq_true_eq]

/-- Settles O43. -/
theorem replicationTables : Obligations.ReplicationTables := by
  unfold Obligations.ReplicationTables
  refine ⟨fun s n hslice => ⟨exec_frGenRead hslice, exec_frGenWrite hslice, exec_frGenReset hslice, exec_frRecRead hslice,
    exec_frRecWrite hslice, ?_, exec_frRecClearCounts hslice⟩, fun s n i hslice hen hvalid => ?_,
    fun s n i hslice hen hlat hdue => ?_, fun s n i hslice hen hlat => ?_⟩
  · rw [exec_frRecReset, State.atSlice_of_isSlice _ hslice, State.recResetAll]
  · rw [exec_recoveryResetTimer, State.atSlice_of_isSlice _ hslice, State.recTimer_of_valid hen hvalid]
  · intro b u
    rw [exec_latentErrorTest i hslice, State.latentTest_of_due hen hlat hdue]
  · rw [exec_latentBaseReset i hslice, State.latentReset_of_enabled hen hlat]

end Sys2Proof.Machine
end

/-!
PROOFS. State messages and digests of a pair, and the events and lanes of the control transport
(spec/09_redundancy.md R268–R272; spec/11_control_rings.md R296–R308).
-/

section
namespace Sys2Proof.Machine

/-! ## State messages (R268–R271) -/

theorem exec_stateMessageSend (type x : Nat) (s : State) :
    exec (.stateMessageSend type x) s = .next (s.stateSend type x) := rfl

theorem exec_stateMessageResend (s : State) : exec .stateMessageResend s = .next s.stateResend := rfl

theorem exec_stateMessageReceive (k : Nat) (b : List Byte) (s : State) :
    exec (.stateMessageReceive k b) s = .next (s.stateReceive k b) := rfl

theorem exec_digestClose (s : State) : exec .digestClose s = .next s.digestClose := rfl

/-- The unit sends no state messages: its pair does not run, it has no authority, or it does not hear its partner. -/
def State.noSender (s : State) : Bool := !s.pairRuns || s.role != 1 || !s.heard

theorem State.noSender_of {s : State} (h : s.pairRuns = false ∨ s.role ≠ 1 ∨ s.heard = false) : s.noSender = true := by
  rcases h with h | h | h <;> simp [State.noSender, h]

theorem State.sender_of {s : State} (hruns : s.pairRuns = true) (hrole : s.role = 1) (hheard : s.heard = true) :
    ¬ s.noSender = true := by
  simp [State.noSender, hruns, hrole, hheard]

theorem State.stateSend_of_noSender {s : State} (type x : Nat) (h : s.noSender = true) : s.stateSend type x = s :=
  if_pos h

theorem State.stateResend_of_noSender {s : State} (h : s.noSender = true) : s.stateResend = s := if_pos h

/-- The scene record that is due goes out. -/
theorem State.stateSend_scene {s : State} {x : Nat} (h : ¬ s.noSender = true) (hdue : x ∈ s.pair.sceneDue)
    (hx : s.isScene x = true) :
    s.stateSend 1 x = State.sendRecords
      { s with pair := { s.pair with sceneDue := s.pair.sceneDue.filter (· != x) } } 1 [s.sceneRecord x] := by
  have hsend : s.pair.sceneDue.contains x = true ∧ s.isScene x = true := ⟨List.contains_iff_mem.mpr hdue, hx⟩
  exact (if_neg h).trans (if_pos hsend)

theorem State.stateSend_snapshot {s : State} (x : Nat) (h : ¬ s.noSender = true) :
    s.stateSend 6 x = if s.pair.snapDue then s.sendSnapshot else s := if_neg h

/-- A state message that reaches the Mirror unit is taken where it is next in order. -/
theorem State.stateReceive_of_mirror {s : State} {k : Nat} (b : List Byte) (hk : k < 2) (hlane : (s.pairLane k).isSome = true)
    (hruns : s.pairRuns = true) (hrole : s.role = 2) :
    s.stateReceive k b =
      if s.stateNext b then
        (List.range (rd b 8 2)).foldl (fun u i => u.applyRecord (rd b 3 1)
          (slice b (16 + i * recordSize (rd b 3 1)) (recordSize (rd b 3 1))))
          { s with pair := { s.pair with ackIn := rd b 4 4 } }
      else s := by
  have hnone : (s.pairLane k).isNone = false := by simpa using hlane
  have hlow : ¬ 2 ≤ k := by omega
  cases hnext : s.stateNext b <;>
    simp [State.stateReceive, hlow, hnone, hruns, hrole, hnext]

/-- Once 1.5 ms have passed the last closable digest is closed, unless it is. -/
theorem State.digestClose_of_late {s : State} (h : 1500000 ≤ s.nowNs) :
    s.digestClose = if s.pair.closed = some s.closable then s
      else State.compareDigests { s with
        pair := { s.pair with closed := some s.closable },
        digests := s.digests.filter (fun e => decide (s.closable ≤ e.1)) } := by
  have hlate : ¬ s.nowNs < 1500000 := Nat.not_lt.mpr h
  simp only [State.digestClose, hlate, false_or]

/-- Settles O46. -/
theorem pairStateMessages : Obligations.PairStateMessages := by
  unfold Obligations.PairStateMessages
  refine ⟨fun s type x hno => ⟨?_, ?_⟩, fun s x hruns hrole hheard => ⟨fun hdue hx => ?_, ?_⟩,
    fun s hruns hrole hheard => ?_, fun s k b hk hlane hruns hrole => ?_, fun s hlate => ?_⟩
  · rw [exec_stateMessageSend, State.stateSend_of_noSender type x (State.noSender_of hno)]
  · rw [exec_stateMessageResend, State.stateResend_of_noSender (State.noSender_of hno)]
  · rw [exec_stateMessageSend, State.stateSend_scene (State.sender_of hruns hrole hheard) hdue hx]
  · rw [exec_stateMessageSend, State.stateSend_snapshot x (State.sender_of hruns hrole hheard)]
  · intro u
    exact (exec_stateMessageResend s).trans (congrArg _ (if_neg (State.sender_of hruns hrole hheard)))
  · rw [exec_stateMessageReceive, State.stateReceive_of_mirror b hk hlane hruns hrole]
  · rw [exec_digestClose, State.digestClose_of_late hlate]

/-! ## Events of the transport (R298, R308) -/

theorem exec_eventSend (s : State) : exec .eventSend s = .next s.eventSend := rfl

theorem exec_eventResend (s : State) : exec .eventResend s = .next s.eventResend := rfl

theorem exec_ack {s : State} {q c : Nat} (seq : Nat) (hserves : s.xpServes = true) (hq : q < 8) (hc : c < 8) :
    exec (.ack q c seq) s = .next (s.ackEvents q c (seq % 2 ^ 32)) := congrArg _ (if_pos ⟨hserves, hq, hc⟩)

theorem exec_datagramReceive (d : Datagram) (s : State) : exec (.datagramReceive d) s =
    .next (if !s.xpServes ∨ 2 ≤ d.lane ∨ !s.on (A.xpl d.lane) XP_LANE_CFG_LINK_UP then s
      else if d.transport then s.datagram d else s.bump (A.xpl d.lane) XP_LANE_RX_DROP_COUNT) := rfl

theorem exec_controlLaneUp {s : State} {k : Nat} (hmode : s.mode ≠ 0) (hk : k < 2) :
    exec (.controlLaneUp k) s = .next (s.laneUp k) := congrArg _ (if_pos ⟨hmode, hk⟩)

theorem exec_controlLaneLoss {s : State} {k : Nat} (hk : k < 2) (hup : s.on (A.xpl k) XP_LANE_CFG_LINK_UP = true) :
    exec (.controlLaneLoss k) s = .next (s.laneDown k) := congrArg _ (if_pos ⟨hk, hup⟩)

/-- The oldest waiting event goes out while its lane is up and fewer than 64 are unacknowledged. -/
theorem State.eventSend_of_waiting {s : State} {e : Event} {rest : List Event} (h : s.journal.events = e :: rest) :
    let q := s.get A.xp XP_CTRL_EV_SLOT
    let c := s.get A.jr JR_CTRL_EV_CHANNEL
    let n := s.get (A.xps q) (XP_CH_SEQ_EV_NEXT c)
    let x : SentEvent := ⟨q, c, n, s.time.clk, e⟩
    s.eventSend =
      if s.xpServes = true ∧ s.eventLaneUp q = true ∧ s.journal.unacked.length < 64 then
        ({ s with journal := { s.journal with events := rest, unacked := s.journal.unacked ++ [x] } }.put (A.xps q)
          (XP_CH_SEQ_EV_NEXT c) (n + 1)).sendEvent x
      else s := by
  intro q c n x
  simp only [State.eventSend, h]
  by_cases hsend : s.xpServes = true ∧ s.eventLaneUp q = true ∧ s.journal.unacked.length < 64
  · have hopen : ¬ (!s.xpServes || !s.eventLaneUp q || decide (64 ≤ s.journal.unacked.length)) = true := by
      obtain ⟨hserves, hlane, hroom⟩ := hsend
      simp [hserves, hlane, hroom]
    rw [if_pos hsend, if_neg hopen]
  · have hclosed : (!s.xpServes || !s.eventLaneUp q || decide (64 ≤ s.journal.unacked.length)) = true := by
      refine Decidable.byContradiction fun hopen => hsend ?_
      simpa [and_assoc] using hopen
    rw [if_neg hsend, if_pos hclosed]

/-- An acknowledgement drops the events it names and shows the highest of them. -/
theorem State.ackEvents_frame (s : State) (q c seq : Nat) :
    let hit := fun (e : SentEvent) => e.slot == q && e.chan == c && decide ((seq + 2 ^ 32 - e.dseq) % 2 ^ 32 < 2 ^ 31)
    (s.ackEvents q c seq).journal.unacked = s.journal.unacked.filter (fun x => !hit x) ∧
    ∀ e, (s.journal.unacked.filter hit).getLast? = some e →
      (s.ackEvents q c seq).get (A.xps q) (XP_CH_ACK_EV_ACKED c) = e.dseq % 2 ^ 32 := by
  intro hit
  cases hlast : (s.journal.unacked.filter hit).getLast? with
  | none =>
    have hack : s.ackEvents q c seq = s := by simp only [State.ackEvents, hit, hlast] <;> rfl
    have hnone : ∀ x ∈ s.journal.unacked, ¬ hit x = true :=
      List.filter_eq_nil_iff.mp (List.getLast?_eq_none_iff.mp hlast)
    refine ⟨?_, fun e he => nomatch he⟩
    rw [hack, List.filter_eq_self.mpr fun x hx => by simpa using hnone x hx]
  | some e =>
    have hack : s.ackEvents q c seq =
        State.put { s with journal := { s.journal with unacked := s.journal.unacked.filter (fun x => !hit x) } } (A.xps q)
          (XP_CH_ACK_EV_ACKED c) e.dseq := by
      simp only [State.ackEvents, hit, hlast] <;> rfl
    rw [hack]
    refine ⟨by rw [State.put_journal], fun y hy => ?_⟩
    obtain rfl := Option.some.inj hy
    exact State.get_put_same _ _ _ _ (by simp [Fld.ok, XP_CH_ACK_EV_ACKED])

/-- Settles O49. -/
theorem transportCarriesEvents : Obligations.TransportCarriesEvents := by
  unfold Obligations.TransportCarriesEvents
  refine ⟨fun s e rest hwait => ?_, fun s hserves => ?_, fun s q c seq hserves hq hc => ?_, fun s d hserves hlane => ?_,
    fun s k hk hup => exec_controlLaneLoss hk hup, fun s k hk hmode => exec_controlLaneUp hmode hk⟩
  · intro q c n x
    rw [exec_eventSend, State.eventSend_of_waiting hwait]
  · intro due
    have hopen : ¬ (!s.xpServes) = true := by simp [hserves]
    exact (exec_eventResend s).trans (congrArg _ (if_neg hopen))
  · exact ⟨_, exec_ack seq hserves hq hc, State.ackEvents_frame s q c (seq % 2 ^ 32)⟩
  · have hlow : ¬ 2 ≤ d.lane := by omega
    simp only [exec_datagramReceive, hserves, hlow, Bool.not_true, Bool.false_eq_true, false_or, Bool.not_eq_true']

end Sys2Proof.Machine
end

/-!
PROOFS. Entries of the rings, and the boot of the module (spec/11_control_rings.md R318–R324;
spec/14_image_boot.md R361–R385; spec/15_modes_inservice.md R388–R396).
-/

section
namespace Sys2Proof.Machine

/-! ## Entries of the rings (R319–R324) -/

theorem exec_descriptorExecute {s : State} {r : Nat} (h : r < 256) :
    exec (.descriptorExecute r) s = .next (s.executeEntry r) := congrArg _ (if_pos h)

/-- A running ring without an entry starts the next one. -/
theorem State.executeEntry_of_fetched {s t : State} {r : Nat} {x : Running} (hresult : s.isResult r = false)
    (hstate : s.ringState r = 1) (hrun : (s.ring r).running = none) (hstop : (s.ring r).stopping = false)
    (hfetch : s.fetchEntry r = some (x, t)) :
    let b := A.rgr r
    let k := s.get b RG_CFG_ENGINE_KIND
    let e := s.get b RG_CFG_ENGINE
    let u := t.setRing r { t.ring r with running := some x, finished := none }
    let op := bitsOf (x.words.getD 0 0) 63 56
    s.executeEntry r =
      if k = 1 ∧ s.on (A.dme e) DM_ENG_STATUS_FAULT = true then s
      else if s.on b RG_CFG_RESULT_EN = true ∧ s.ringFree (s.get b RG_CFG_RESULT_RING) = 0 then
        s.stallRings (s.get b RG_CFG_RESULT_RING)
      else if op = 0 then u.finish r stNOP 0 0
      else if op < 16 ∧ k = 1 then u.fillShadow e (s.get b RG_CFG_CHANNEL) x.words
      else if op = 16 ∧ k = 2 then u
      else u.finish r stBadValue 0 0 := by
  have hidle : ¬ (s.isResult r || s.ringState r != 1 || (s.ring r).running.isSome || (s.ring r).stopping) = true := by
    simp [hresult, hstate, hrun, hstop]
  simp only [State.executeEntry, if_neg hidle, hfetch, Bool.and_eq_true, decide_eq_true_eq, beq_iff_eq]

/-- The running TX_FRAME entry of an open ring is injected. -/
theorem exec_txFrame {s : State} {r : Nat} {e : Running} (hrun : (s.ring r).running = some e)
    (hopen : (s.ring r).finished = none) (hop : bitsOf (e.words.getD 0 0) 63 56 = 16)
    (hkind : s.get (A.rgr r) RG_CFG_ENGINE_KIND = 2) (hentry : s.entryOpen r = true) :
    let y := s.txFrame r e.words
    exec (.txFrame r) s = .next (y.2.2.finish r y.1 y.2.1 0) := by
  have heq : exec (.txFrame r) s = execTxFrame r s := rfl
  rw [heq, execTxFrame, hrun, hopen]
  exact congrArg _ (if_pos ⟨hop, hkind, hentry⟩)

theorem exec_entryComplete {s : State} {r st bytes detail : Nat} {e : Running} (hrun : (s.ring r).running = some e)
    (hfin : (s.ring r).finished = some (st, bytes, detail)) :
    exec (.entryComplete r) s = .next (s.completeEntry r e st bytes detail) := by
  have heq : exec (.entryComplete r) s = execEntryComplete r s := rfl
  rw [heq, execEntryComplete, hrun, hfin]

/-- A finished entry: without a result record the ring moves on at once, with one that finds room after it. -/
theorem State.completeEntry_eq (s : State) (r : Nat) (e : Running) (st bytes detail : Nat) :
    let rr := s.get (A.rgr r) RG_CFG_RESULT_RING
    s.completeEntry r e st bytes detail =
      if (e.words.getD 0 0).testBit 55 = false ∨ s.on (A.rgr r) RG_CFG_RESULT_EN = false then s.entryOutcome r e st
      else if s.ringFree rr ≠ 0 then (s.putResult rr (s.resultRecord r e st bytes detail)).entryOutcome r e st
      else s.completeEntry r e st bytes detail := by
  intro rr
  cases hasks : (e.words.getD 0 0).testBit 55 with
  | false =>
    rw [if_pos (.inl rfl)]
    exact if_neg (by rw [hasks, Bool.false_and]; decide)
  | true => cases hen : s.on (A.rgr r) RG_CFG_RESULT_EN with
    | false =>
      rw [if_pos (.inr rfl)]
      exact if_neg (by rw [hen, Bool.and_false]; decide)
    | true =>
      rw [if_neg (by decide)]
      split
      case isTrue hroom =>
        have hrecord : ((e.words.getD 0 0).testBit 55 && s.on (A.rgr r) RG_CFG_RESULT_EN) = true := by rw [hasks, hen]; rfl
        exact (if_pos hrecord).trans (if_pos hroom)
      case isFalse => rfl

/-- Settles O51. -/
theorem ringEntriesRun : Obligations.RingEntriesRun := by
  unfold Obligations.RingEntriesRun
  refine ⟨fun s r x t hr hresult hstate hrun hstop hfetch => ?_, fun s r e hr hrun hopen hop hkind hentry => ?_,
    fun s r e st bytes detail hr hrun hfin => ?_⟩
  · intro b k e u op ends
    exact (exec_descriptorExecute hr).trans (congrArg _ (State.executeEntry_of_fetched hresult hstate hrun hstop hfetch))
  · exact exec_txFrame hrun hopen hop hkind hentry
  · intro rr after
    exact (exec_entryComplete hrun hfin).trans (congrArg _ (State.completeEntry_eq s r e st bytes detail))

/-! ## Modes (R388, R389) -/

theorem not_ovfWord_of_lt {a : Nat} (h : a < A.ms) : ¬ ovfWord a := by
  rintro (rfl | ⟨n, rfl⟩) <;> simp only [A.ms, A.mss, MS_OVF_FLAGS, MSS_OVF_FLAGS] at h <;> omega

/-- The words that a change of mode may write: those of the MD block's status, count and event, and overflow flags. -/
def modeWord (a : Nat) : Prop := (A.md ≤ a ∧ a < A.md + 0x100) ∨ ovfWord a

theorem modeWord_md {f : Fld} (h : f.off < 0x100) : modeWord (A.md + f.off) :=
  .inl ⟨Nat.le_add_right .., Nat.add_lt_add_left h _⟩

/-- A change of mode writes MD_STATUS, its count and its event; only Service and Mirror open the datapath. -/
theorem State.setMode_frame (s : State) {m : Nat} (c : Nat) (h6 : m ≠ 6) (h7 : m ≠ 7) :
    regsOnly s (s.setMode m c) ∧ wordsKept modeWord s (s.setMode m c) := by
  unfold State.setMode State.raise
  extract_lets b s1 s2 s3 s4
  have h4 : regsOnly s s4 ∧ wordsKept modeWord s s4 := by
    have h2 : regsOnly s s2 := (((((regsOnly_refl s).put ..).put ..).put ..).put ..)
    have hk2 : wordsKept modeWord s s2 :=
      ((((wordsKept_refl _ s).put _ (modeWord_md (by decide))).put _ (modeWord_md (by decide))).put _
        (modeWord_md (by decide))).put _ (modeWord_md (by decide))
    obtain ⟨hregs, hkept⟩ := State.add_frame s2 b MD_CNT_TRANSITIONS_COUNT 1
    have h3 : regsOnly s s3 := (regsOnly_trans h2 hregs).put ..
    have hk3 : wordsKept modeWord s s3 := (wordsKept_trans hk2 fun a ha => hkept a fun hp => ha (hp.elim
      (fun e => e ▸ modeWord_md (by decide)) .inr)).put _ (modeWord_md (by decide))
    unfold s4
    split
    · exact ⟨h3, hk3⟩
    · exact ⟨h3.put .., hk3.put _ (modeWord_md (by decide))⟩
  rw [if_neg (by omega)]
  exact h4

/-- A field of MD_STATUS that is neither written after PREV_MODE and MODE nor RETURN_MODE keeps what was put in it. -/
theorem State.get_setMode (s : State) (m c : Nat) {f : Fld} (hf : f.off = MD_STATUS_MODE.off)
    (hreturn : MD_STATUS_RETURN_MODE.apart f) :
    (s.setMode m c).get A.md f = (((((s.put A.md MD_STATUS_PREV_MODE s.mode).put A.md MD_STATUS_MODE m).put A.md
      MD_STATUS_CAUSE c).put A.md MD_STATUS_SINCE (shortOf s.nowQ)).get A.md f) := by
  unfold State.setMode State.raise
  extract_lets b s1 s2 s3 s4
  have h3 : s3.get A.md f = s2.get A.md f := by
    unfold s3 b
    rw [State.get_put_other _ _ (by rw [hf]; decide),
      State.get_bump_other _ (by rw [hf]; decide) (not_ovfWord_of_lt (by rw [hf]; decide))]
  have h4 : s4.get A.md f = s3.get A.md f := by
    unfold s4
    split
    · rfl
    · exact State.get_put_apart _ _ _ (by decide) hreturn
  have hlast : (if m = 6 ∨ m = 7 then { s4 with everServed := true } else s4).get A.md f = s4.get A.md f := by
    split <;> rfl
  have hnow : s1.nowQ = s.nowQ := rfl
  rw [hlast, h4, h3, ← hnow]

theorem State.mode_setMode (s : State) (m c : Nat) : (s.setMode m c).mode = m % 2 ^ 8 := by
  rw [State.mode, State.get_setMode _ _ _ rfl (by decide), State.get_put_apart _ _ _ (by decide) (by decide),
    State.get_put_apart _ _ _ (by decide) (by decide)]
  exact State.get_put_same _ _ _ _ (by decide)

theorem State.injectionOn_of_mode {s : State} (h6 : s.mode ≠ 6) (h10 : s.mode ≠ 10) : s.injectionOn = false := by
  simp [State.injectionOn, h6, h10]

theorem State.toMode_of_off {s : State} (m c : Nat) (h : s.injectionOn = false) : s.toMode m c = s.setMode m c := by
  rw [State.toMode, h, Bool.false_and, if_neg (by decide)]

theorem wordsKept_foldl {α : Type} {p : Nat → Prop} {f : State → α → State} (hf : ∀ s x, wordsKept p s (f s x))
    (xs : List α) (s : State) : wordsKept p s (xs.foldl f s) :=
  List.foldlRecOn (motive := wordsKept p s) xs f (wordsKept_refl p s) fun _ hu x _ => wordsKept_trans hu (hf _ x)

theorem State.get_of_wordsKept {p : Nat → Prop} {s t : State} (h : wordsKept p s t) {b : Nat} {f : Fld}
    (hp : ¬ p (b + f.off)) : t.get b f = s.get b f := by
  unfold State.get
  rw [h _ hp]

/-! ## The end of Reset (R304, R371) -/

theorem exec_resetEnd (sel dimm : Nat) (s : State) : exec (.resetEnd sel dimm) s = .next (s.resetEnd sel dimm) := rfl

/-- The registers that show the keys lie in the transport's slots. -/
theorem State.showKey_frame (s : State) (q : Nat) :
    regsOnly s (s.showKey q) ∧ wordsKept (A.xps 0 ≤ ·) s (s.showKey q) := by
  have hxps {f : Fld} : A.xps 0 ≤ A.xps q + f.off := by simp only [A.xps]; omega
  exact ⟨(((regsOnly_refl s).put ..).put ..).put .., (((wordsKept_refl _ s).put _ hxps).put _ hxps).put _ hxps⟩

/-- The state at the end of Reset, before it enters Pre-Load. -/
def State.preload (s : State) (sel dimm : Nat) : State :=
  let id := (s.mram.bootId + 1) % 2 ^ 32
  { s with
    mram := { s.mram with bootId := if id = 0 then 1 else id }
    board := { s.board with dimmBytes := dimm }
    boot := { s.boot with endAt := s.time.clk, flash := sel % 4 != 1 } }

theorem State.resetEnd_of_open {s : State} (sel dimm : Nat) (hmode : s.mode = 0) (hreset : s.contacts.resetN = true)
    (hheld : s.contacts.held = false) (hrails : s.on A.pw PW_STATUS_RAILS_GOOD = true)
    (hvaux : s.on A.pw PW_STATUS_VAUX_OK = true) :
    s.resetEnd sel dimm =
      (((List.range 8).foldl (fun s q => s.showKey q) ((s.preload sel dimm).put A.sy SY_BOOT_BOOT_SEL sel)).toMode 1 1).phase
        (if sel % 4 = 1 then 2 else 3) := by
  have hopen : ¬ (s.mode ≠ 0 ∨ !s.contacts.resetN ∨ s.contacts.held ∨ !s.on A.pw PW_STATUS_RAILS_GOOD ∨
      !s.on A.pw PW_STATUS_VAUX_OK) := by
    simp [hmode, hreset, hheld, hrails, hvaux]
  exact if_neg hopen

theorem State.resetEnd_of_closed {s : State} (sel dimm : Nat)
    (h : s.mode ≠ 0 ∨ s.contacts.resetN = false ∨ s.on A.pw PW_STATUS_VAUX_OK = false) : s.resetEnd sel dimm = s := by
  refine if_pos ?_
  rcases h with h | h | h <;> simp [h]

/-- Reset ends in Pre-Load, with BOOT_SEL shown; besides registers only what the boot ROM has read changes. -/
theorem State.resetEnd_frame {s : State} (sel dimm : Nat) (hmode : s.mode = 0) (hreset : s.contacts.resetN = true)
    (hheld : s.contacts.held = false) (hrails : s.on A.pw PW_STATUS_RAILS_GOOD = true)
    (hvaux : s.on A.pw PW_STATUS_VAUX_OK = true) :
    regsOnly (s.preload sel dimm) (s.resetEnd sel dimm) ∧ (s.resetEnd sel dimm).mode = 1 ∧
      (s.resetEnd sel dimm).get A.sy SY_BOOT_BOOT_SEL = sel % 4 := by
  rw [State.resetEnd_of_open sel dimm hmode hreset hheld hrails hvaux]
  generalize hu : (List.range 8).foldl (fun s q => s.showKey q) ((s.preload sel dimm).put A.sy SY_BOOT_BOOT_SEL sel) = u
  have hkeys : wordsKept (A.xps 0 ≤ ·) ((s.preload sel dimm).put A.sy SY_BOOT_BOOT_SEL sel) u :=
    hu ▸ wordsKept_foldl (fun t q => (State.showKey_frame t q).2) _ _
  have hregs : regsOnly (s.preload sel dimm) u :=
    regsOnly_trans (regsOnly_put ..) (hu ▸ regsOnly_foldl (fun t q => (State.showKey_frame t q).1) _ _)
  have hstill : u.mode = 0 := by
    have hpre : (s.preload sel dimm).mode = s.mode := rfl
    rw [State.mode, State.get_of_wordsKept hkeys (by decide), State.get_put_other _ _ (by decide), ← State.mode, hpre,
      hmode]
  have hsel : u.get A.sy SY_BOOT_BOOT_SEL = sel % 4 := by
    rw [State.get_of_wordsKept hkeys (by decide)]
    exact State.get_put_same _ _ _ _ (by decide)
  rw [State.toMode_of_off _ _ (State.injectionOn_of_mode (by omega) (by omega)), State.phase]
  obtain ⟨hset, hkept⟩ := State.setMode_frame u (m := 1) 1 (by decide) (by decide)
  refine ⟨(regsOnly_trans hregs hset).put .., ?_, ?_⟩
  · rw [State.mode, State.get_put_other _ _ (by decide), ← State.mode]
    exact State.mode_setMode u 1 1
  · have hsy : ¬ modeWord (A.sy + SY_BOOT_BOOT_SEL.off) :=
      not_or.mpr ⟨by decide, not_ovfWord_of_lt (by decide)⟩
    rw [State.get_put_apart _ _ _ (by decide) (by decide), State.get_of_wordsKept hkept hsy, hsel]

/-! ## Images, Self-Test and Calibrate (R369–R385) -/

theorem exec_flashReadComplete (b : List Byte) (c : Crypto) (s : State) :
    exec (.flashReadComplete b c) s = .next (s.flashRead b c) := rfl

theorem exec_verify (tag : Nat) (c : Crypto) (s : State) : exec (.verify tag c) s = .next (s.imVerify tag c) := rfl

theorem exec_load (tag : Nat) (c : Crypto) (s : State) : exec (.load tag c) s = .next (s.imLoad tag c) := rfl

theorem exec_loadComplete (s : State) : exec .loadComplete s = .next s.loadDone := rfl

theorem exec_selftestComplete (fs : List Finding) (s : State) :
    exec (.selftestComplete fs) s = .next (s.selftestDone fs) := rfl

theorem exec_calibrateComplete (fs : List Finding) (lost differ : List Nat) (s : State) :
    exec (.calibrateComplete fs lost differ) s = .next (s.calibrateDone fs lost differ) := rfl

theorem exec_secverRaise (v : Nat) (s : State) : exec (.secverRaise v) s = .next (s.secverRaise v) := rfl

theorem exec_anchorRevoke (m : Nat) (s : State) : exec (.anchorRevoke m) s = .next (s.anchorRevoke m) := rfl

theorem exec_bootPllLockTimeout (s : State) : exec .bootPllLockTimeout s = .next
    (if s.mode = 1 ∧ 1000000 ≤ s.since s.boot.endAt then (s.put A.sy SY_BOOT_LAST_FAIL 12).enterHalt 5 else s) := rfl

/-- A flash image that verifies starts its load; another one fails the flash attempt. -/
theorem State.flashRead_of_boot {s : State} {b : List Byte} {c : Crypto} {r : Option ImageFail} (hmode : s.mode = 1)
    (hflash : s.boot.flash = true) : s.verifyImage b c (imgKind b == 0) = r → s.flashRead b c =
      match r with
      | none => (s.verified r).beginLoad b c 0
      | some _ => (s.verified r).flashFailed := by
  have hboot : ¬ (s.mode ≠ 1 ∨ !s.boot.flash) := by simp [hmode, hflash]
  intro hr
  simp only [State.flashRead, if_neg hboot, hr] <;> rfl

theorem State.imVerify_of_ready {s : State} {r : Option ImageFail} (tag : Nat) (c : Crypto) (h : s.imReady = true) :
    s.verifyImage s.staged c true = r → s.imVerify tag c =
      match r with
      | some f => (s.verified r).imFail tag f
      | none => (s.verified r).imResult tag stOK 0 0xFF 0 := by
  intro hr
  simp only [State.imVerify, h, Bool.not_true, Bool.false_eq_true, if_false, hr] <;> rfl

theorem State.imLoad_of_ready {s : State} {r : Option ImageFail} (tag : Nat) (c : Crypto) (h : s.imReady = true)
    (hkind : imgKind s.staged ≠ 2) : s.verifyImage s.staged c (s.loadAllowed s.staged) = r → s.imLoad tag c =
      match r with
      | some f => (s.verified r).imFail tag f
      | none => (s.verified r).loadVerified tag s.staged c := by
  intro hr
  simp only [State.imLoad, h, Bool.not_true, Bool.false_eq_true, if_false, hkind, false_and, hr] <;> rfl

theorem State.imRefuse_of_busy {s : State} (tag : Nat) (c : Crypto) (h : s.imReady = false) :
    s.imVerify tag c = s.imRefuse tag ∧ s.imLoad tag c = s.imRefuse tag := by
  have hbusy : (!s.imReady) = true := by rw [h]; rfl
  exact ⟨if_pos hbusy, if_pos hbusy⟩

/-- Load ends in Self-Test where the constants pass, in refusal otherwise. -/
theorem State.loadDone_of_load {s : State} {l : Loading} (hnext : s.boot.next = some l) (hmode : s.mode = 2) :
    let t := s.buildAll l
    s.loadDone =
      match (if constsOk l.image none && t.readbackOk l.image.consts then t.commitInitial l.image.consts else none) with
      | none => s.loadRefused
      | some u =>
        let v := u.showHeld.provision l.image.provs l.keys
        let w := { v with boot := { v.boot with next := none } }
        ((if w.get A.sy SY_BOOT_SOURCE = 1 then w.imResult w.boot.tag stOK 0 0xFF 0 else w).toMode 3 1).phase 6 := by
  have hload : ¬ s.mode ≠ 2 := fun hne => hne hmode
  simp only [State.loadDone, hnext, if_neg hload] <;> rfl

/-- Self-Test with a finding for every boot item ends in Halt or in Calibrate. -/
theorem State.selftestDone_of_found {s : State} {fs : List Finding} (hmode : s.mode = 3)
    (hall : s.bootItems.all (fun e => (findingOf fs e).isSome) = true) :
    let found := s.bootItems.filterMap (findingOf fs)
    let u := found.foldl (fun u f => u.bootItem f)
      ((List.range 16).foldl (fun u b => u.loseMemory (16 + b)) (s.loseMemory 32))
    s.selftestDone fs =
      if found.any (fun f => (f.item == 18 || decide (32 ≤ f.item)) && s.outcome f == 2) then u.enterHalt 4
      else (u.toMode 4 1).phase 7 := by
  have hdone : ¬ (s.mode ≠ 3 ∨ s.bootItems.any (fun e => (findingOf fs e).isNone)) := by
    rw [not_or, Decidable.not_not, List.any_eq_true]
    refine ⟨hmode, fun ⟨e, he, hnone⟩ => ?_⟩
    have hsome := List.all_eq_true.mp hall e he
    rw [Option.isNone_iff_eq_none.mp hnone] at hsome
    exact nomatch hsome
  exact if_neg hdone

/-- Calibrate that follows Park or Diagnostic ends in Ready. -/
theorem State.calibrateDone_of_park {s : State} (hmode : s.mode = 4) (hprev : s.get A.md MD_STATUS_PREV_MODE ≠ 3) :
    s.calibrateDone [] [] [] =
      State.toMode { (List.range 8).foldl (fun u n => u.sliceReady n) s with saved := {} } 5 1 := by
  have hboot : (s.get A.md MD_STATUS_PREV_MODE == 3) = false := beq_false_of_ne hprev
  simp only [State.calibrateDone, hboot, hmode, Bool.false_and, Bool.false_eq_true, if_false, ne_eq, not_true_eq_false,
    or_self, Nat.reduceEqDiff]

theorem State.secverRaise_eq {s : State} {v : Nat} (h : v < 2 ^ 32) :
    s.secverRaise v =
      if v < s.get A.sy SY_SECVER_MIN ∨ s.get A.im IM_HDR_SEC_VERSION < v then s.secStatus stBadValue
      else ((s.put A.sy SY_SECVER_RAISE_VERSION v).put A.sy SY_SECVER_MIN v).secStatus stOK := by
  rw [State.secverRaise, Nat.mod_eq_of_lt h]

/-- Anchors are revoked only while one that is present stays. -/
theorem State.anchorRevoke_eq {s : State} {m : Nat} (h : m < 16) :
    let revoked := (s.get A.sy SY_ANCHOR_STATUS_REVOKED) ||| m
    s.anchorRevoke m =
      if ∃ k ∈ List.range 4, (s.get A.sy SY_ANCHOR_STATUS_PRESENT).testBit k = true ∧ revoked.testBit k = false then
        ((s.put A.sy SY_ANCHOR_REVOKE_MASK m).put A.sy SY_ANCHOR_STATUS_REVOKED revoked).secStatus stOK
      else s.secStatus stBadValue := by
  intro revoked
  have hleft : (!(List.range 4).any fun k =>
      (s.get A.sy SY_ANCHOR_STATUS_PRESENT).testBit k && !revoked.testBit k) = true ↔
      ¬ ∃ k ∈ List.range 4, (s.get A.sy SY_ANCHOR_STATUS_PRESENT).testBit k = true ∧ revoked.testBit k = false := by
    rw [Bool.not_eq_true', ← Bool.not_eq_true, List.any_eq_true]
    simp only [Bool.and_eq_true, Bool.not_eq_true']
  simp only [State.anchorRevoke, Nat.mod_eq_of_lt h]
  by_cases hstay : ∃ k ∈ List.range 4, (s.get A.sy SY_ANCHOR_STATUS_PRESENT).testBit k = true ∧ revoked.testBit k = false
  · rw [if_pos hstay]
    exact if_neg fun hno => hleft.mp hno hstay
  · rw [if_neg hstay]
    exact if_pos (hleft.mpr hstay)

/-- Settles O54. -/
theorem bootBringsTheModuleUp : Obligations.BootBringsTheModuleUp := by
  unfold Obligations.BootBringsTheModuleUp
  refine ⟨fun s sel dimm hmode hreset hheld hrails hvaux => ?_, fun s sel dimm hclosed => ?_,
    fun s b c hmode hflash => ?_, fun s tag c hready => ?_, fun s tag c hready hkind => ?_,
    fun s tag c hbusy => ⟨?_, ?_⟩, fun s l hnext hmode => ?_, fun s fs hmode hall => ?_, fun s hmode hprev => ?_,
    fun s v hv => ?_, fun s m hm => ?_, exec_bootPllLockTimeout⟩
  · obtain ⟨hregs, hone, hsel⟩ := State.resetEnd_frame sel dimm hmode hreset hheld hrails hvaux
    obtain ⟨w, hw⟩ := exists_words_of_regsOnly hregs
    refine ⟨_, exec_resetEnd sel dimm s, hone, hsel, ?_, ?_⟩
    · rw [hw]
      rfl
    · rw [hw, State.preload]
      exact (decide_not ..).symm
  · rw [exec_resetEnd, State.resetEnd_of_closed sel dimm hclosed]
  · generalize hr : s.verifyImage b c (imgKind b == 0) = r
    rw [exec_flashReadComplete]
    exact congrArg _ (State.flashRead_of_boot hmode hflash hr)
  · generalize hr : s.verifyImage s.staged c true = r
    rw [exec_verify]
    exact congrArg _ (State.imVerify_of_ready tag c hready hr)
  · generalize hr : s.verifyImage s.staged c (s.loadAllowed s.staged) = r
    rw [exec_load]
    exact congrArg _ (State.imLoad_of_ready tag c hready hkind hr)
  · rw [exec_verify, (State.imRefuse_of_busy tag c hbusy).1]
  · rw [exec_load, (State.imRefuse_of_busy tag c hbusy).2]
  · intro t
    exact (exec_loadComplete s).trans (congrArg _ (State.loadDone_of_load hnext hmode))
  · intro found u
    exact (exec_selftestComplete fs s).trans (congrArg _ (State.selftestDone_of_found hmode hall))
  · rw [exec_calibrateComplete, State.calibrateDone_of_park hmode hprev]
  · rw [exec_secverRaise, State.secverRaise_eq hv]
  · intro revoked
    rw [exec_anchorRevoke, State.anchorRevoke_eq hm]

end Sys2Proof.Machine
end

/-!
PROOFS. Mode commands, fences and rebuilds (spec/15_modes_inservice.md R382–R399).
-/

section
namespace Sys2Proof.Machine

/-! ## Mode commands (R382) -/

theorem exec_goService (s : State) : exec .goService s = .next s.goService := rfl

theorem exec_park (s : State) : exec .park s = .next (s.mdCommand s.mayLeave (·.depart 9 0)) := rfl

theorem exec_diag (s : State) : exec .diag s = .next (s.mdCommand s.mayLeave (·.depart 10 0)) := rfl

theorem exec_wake (s : State) : exec .wake s = .next (s.mdCommand (s.mode == 9) (·.wake)) := rfl

theorem exec_exitDiag (s : State) : exec .exitDiag s = .next (s.mdCommand (s.mode == 10) (·.toMode 4 0)) := rfl

theorem exec_halt (s : State) : exec .halt s = .next (s.mdCommand (s.mode != 0 && s.mode != 11) (·.depart 11 0)) := rfl

theorem exec_watchdog (s : State) :
    exec .watchdog s = .next (if 5 ≤ s.mode ∧ s.mode ≤ 10 then s.enterHalt 8 else s) := rfl

theorem exec_resetModule (s : State) : exec .resetModule s = .next (s.enterReset 0) := rfl

theorem exec_switch (s : State) : exec .switch s = .next s.fwSwitch := rfl

theorem exec_rollback (s : State) : exec .rollback s = .next s.fwRollback := rfl

theorem exec_fwCoreStartTimeout (s : State) : exec .fwCoreStartTimeout s = .next s.fwTimeout := rfl

theorem State.mdCommand_of_refused {s : State} {allowed : Bool} (f : State → State) (h : allowed = false) :
    s.mdCommand allowed f = s.put A.md MD_CMD_STATUS stBadValue := by
  rw [State.mdCommand, h, if_neg (by decide), State.mdStatus]

theorem State.mdCommand_of_allowed {s : State} {allowed : Bool} (f : State → State) (h : allowed = true) :
    s.mdCommand allowed f = f (s.put A.md MD_CMD_STATUS stOK) := by
  rw [State.mdCommand, h, if_pos rfl, State.mdStatus]

/-- A unit that serves in a pair departs by way of its heartbeats, any other one at once. -/
theorem State.depart_eq (s : State) (m c : Nat) :
    (if s.serving && s.on A.up UP_CTRL_EN then s.depart m c else s.enterMode m c) = s.depart m c := by
  split
  case isTrue => rfl
  case isFalse hsingle => exact (if_neg hsingle).symm

theorem ite_true_eq_ite_false {α : Type} (b : Bool) (x y : α) :
    (if b = true then x else y) = if b = false then y else x := by
  cases b <;> rfl

/-- GO_SERVICE from Ready: at once without a pair, after listening for the partner with one. -/
theorem State.goService_of_ready {s : State} (h : s.mode = 5) :
    let ok := s.put A.md MD_CMD_STATUS stOK
    s.goService =
      if ok.on A.up UP_CTRL_EN = false then ok.serveAs 6 0
      else if ok.pair.waitFrom.isSome then ok else { ok with pair := { ok.pair with waitFrom := some ok.time.clk } } := by
  intro ok
  rw [State.goService, State.mdCommand_of_allowed _ (beq_iff_eq.mpr h)]
  exact ite_true_eq_ite_false ..

/-- The words of MRAM, fuses, sensors and supplies, which outlive Reset. -/
def keptWord (a : Nat) : Prop := keptBits a ≠ 0

/-- Reset keeps MRAM and the commands that wait, and shows mode 0 with the old mode as the one before. -/
theorem State.enterReset_frame (s : State) (c : Nat) :
    (s.enterReset c).mode = 0 ∧ (s.enterReset c).get A.md MD_STATUS_PREV_MODE = s.mode % 2 ^ 8 ∧
    (s.enterReset c).get A.md MD_STATUS_CAUSE = c % 2 ^ 8 ∧ (s.enterReset c).mram = s.mram ∧
    (s.enterReset c).pending = s.pending := by
  unfold State.enterReset
  extract_lets m t u
  have hkept : wordsKept keptWord t u := by
    refine wordsKept_foldl (fun v e => ?_) _ _
    dsimp only
    split
    case isTrue => exact wordsKept_refl _ _
    case isFalse hk => exact wordsKept_setWord _ _ hk
  have hregs : regsOnly t u := by
    refine regsOnly_foldl (fun v e => ?_) _ _
    dsimp only
    split
    · exact regsOnly_refl v
    · exact regsOnly_setWord ..
  have hmode : u.get A.md MD_STATUS_MODE = 0 :=
    ((State.get_of_wordsKept hkept (fun hne => hne (by decide))).trans (State.get_of_words (s := {}) rfl _ _)).trans rfl
  obtain ⟨w, hw⟩ := exists_words_of_regsOnly hregs
  refine ⟨?_, ?_, State.get_put_same _ _ _ _ (by decide), ?_, ?_⟩
  · rw [State.mode, State.get_put_apart _ _ _ (by decide) (by decide), State.get_put_apart _ _ _ (by decide) (by decide),
      hmode]
  · rw [State.get_put_apart _ _ _ (by decide) (by decide)]
    exact State.get_put_same _ _ _ _ (by decide)
  · rw [State.put_mram, State.put_mram, hw]
  · rw [State.put_pending, State.put_pending, hw]

theorem State.mode_lt (s : State) : s.mode < 2 ^ 8 := Nat.mod_lt _ (by decide)

/-- Settles O55. -/
theorem modeCommands : Obligations.ModeCommands := by
  unfold Obligations.ModeCommands
  refine ⟨fun s => ⟨fun h => ?_, fun h => ⟨?_, ?_⟩, fun h => ?_, fun h => ?_, fun h => ?_⟩,
    fun s => ⟨fun h => ?_, fun h => ⟨?_, ?_⟩, fun h => ?_, fun h => ?_, fun h0 h11 => ?_, exec_watchdog s⟩, fun s => ?_,
    fun s => ⟨exec_switch s, exec_rollback s, fun k hstate hnext => ?_⟩⟩
  · rw [exec_goService, State.goService, State.mdCommand_of_refused _ (beq_false_of_ne h)]
  · rw [exec_park, State.mdCommand_of_refused _ h]
  · rw [exec_diag, State.mdCommand_of_refused _ h]
  · rw [exec_wake, State.mdCommand_of_refused _ (beq_false_of_ne h)]
  · rw [exec_exitDiag, State.mdCommand_of_refused _ (beq_false_of_ne h)]
  · rw [exec_halt, State.mdCommand_of_refused _ (by rcases h with h | h <;> rw [h] <;> rfl)]
  · rw [exec_goService, State.goService_of_ready h]
  · rw [exec_park, State.mdCommand_of_allowed _ h]
    exact congrArg _ (State.depart_eq ..).symm
  · rw [exec_diag, State.mdCommand_of_allowed _ h]
    exact congrArg _ (State.depart_eq ..).symm
  · rw [exec_wake, State.mdCommand_of_allowed _ (beq_iff_eq.mpr h)]
  · rw [exec_exitDiag, State.mdCommand_of_allowed _ (beq_iff_eq.mpr h)]
  · have hmay : (s.mode != 0 && s.mode != 11) = true := by simp [h0, h11]
    rw [exec_halt, State.mdCommand_of_allowed _ hmay]
    exact congrArg _ (State.depart_eq ..).symm
  · obtain ⟨hmode, hprev, hcause, hmram, hpending⟩ := State.enterReset_frame s 0
    exact ⟨_, exec_resetModule s, hmode, hprev.trans (Nat.mod_eq_of_lt s.mode_lt), hcause, hmram, hpending⟩
  · simp only [exec_fwCoreStartTimeout, State.fwTimeout, hstate, hnext]

/-! ## Fences (R385–R390) -/

theorem exec_fence_slice (n : Nat) (s : State) : exec (.fence 0 n) s = .next (s.fence n) := rfl

theorem exec_fence_ddr (n : Nat) (s : State) : exec (.fence 1 n) s = .next (s.ddrFence n) := rfl

theorem exec_unfence_slice (n : Nat) (s : State) : exec (.unfence 0 n) s = .next (s.unfence n) := rfl

theorem exec_unfence_ddr (n : Nat) (s : State) : exec (.unfence 1 n) s = .next (s.ddrUnfence n) := rfl

/-- Another kind of fence is refused. -/
theorem exec_fence_other {k : Nat} (n : Nat) (s : State) (h : 2 ≤ k) :
    exec (.fence k n) s = .next (s.put A.md MD_FENCE_CMD_STATUS stBadValue) ∧
    exec (.unfence k n) s = .next (s.put A.md MD_FENCE_CMD_STATUS stBadValue) := by
  match k, h with
  | _ + 2, _ => exact ⟨rfl, rfl⟩

theorem exec_rebuild (n : Nat) (s : State) : exec (.rebuild n) s = .next (s.rebuild n) := rfl

theorem exec_unfenceEffective (n : Nat) (s : State) : exec (.unfenceEffective n) s = .next (s.unfenceEffective n) := rfl

theorem exec_fenceDrainComplete {s : State} {n : Nat} (h : s.isSlice n = true) :
    exec (.fenceDrainComplete n) s = .next (s.fenceDrained n) := next_atSlice (·.fenceDrained n) h

theorem exec_buildComplete (n : Nat) (ok : Bool) (s : State) :
    exec (.buildComplete n ok) s = .next (s.buildDone n ok) := rfl

theorem exec_ddrUnfenceComplete (c : Nat) (s : State) :
    exec (.ddrUnfenceComplete c) s = .next (s.ddrUnfenced c) := rfl

/-- FENCE of a slice that serves, while another one serves. -/
theorem State.fence_eq (s : State) (n : Nat) :
    s.fence n =
      if s.serving = true ∧ s.isSlice n = true ∧ s.sliceServes n = true ∧
          (∃ m ∈ List.range 8, m ≠ n ∧ s.isSlice m = true ∧ s.sliceServes m = true) then
        (s.put A.md MD_FENCE_CMD_STATUS stOK).fenceSlice n 1 1 3
      else s.put A.md MD_FENCE_CMD_STATUS stBadValue := by
  simp only [State.fence, State.fenceStatus, Bool.and_eq_true, List.any_eq_true, bne_iff_ne, and_assoc]

/-- FENCE of a memory channel of the image, while none is fenced. -/
theorem State.ddrFence_eq (s : State) (n : Nat) :
    s.ddrFence n =
      if s.image.ddrCh.testBit n = true ∧ s.ddrFenced = false ∧ (s.serving = true ∨ s.mode = 9) then
        State.toReshape (((((s.put A.md MD_FENCE_CMD_STATUS stOK).raise A.md MD_EVENT_FLAGS 1).abortItems
          (fun x => itemKind x.item == 1 && x.target == n))).requestDown 1 n true) 3
      else s.put A.md MD_FENCE_CMD_STATUS stBadValue := by
  simp only [State.ddrFence, State.fenceStatus, Bool.and_eq_true, Bool.or_eq_true, Bool.not_eq_true', beq_iff_eq,
    and_assoc]

/-- UNFENCE of a READY slice that no test holds. -/
theorem State.unfence_eq (s : State) (n : Nat) :
    let ok := s.put A.md MD_FENCE_CMD_STATUS stOK
    s.unfence n =
      if s.isSlice n = false ∨ s.sliceState n ≠ 4 ∨ n ∈ s.tests.locked ∨
          (∃ x ∈ s.tests.running, itemOffline x.item = true ∧ itemKind x.item = 0 ∧ x.target = n) then
        s.put A.md MD_FENCE_CMD_STATUS stBadValue
      else if s.boot.unfencing.any (fun e => e.1 == n) then ok
      else { ok with boot := { ok.boot with unfencing := ok.boot.unfencing ++ [(n, ok.time.clk)] } } := by
  intro ok
  have hopen : (s.isSlice n && s.sliceState n == 4 &&
        !s.tests.running.any (fun x => itemOffline x.item && itemKind x.item == 0 && x.target == n) &&
        !s.tests.locked.contains n) = true ↔
      ¬ (s.isSlice n = false ∨ s.sliceState n ≠ 4 ∨ n ∈ s.tests.locked ∨
        (∃ x ∈ s.tests.running, itemOffline x.item = true ∧ itemKind x.item = 0 ∧ x.target = n)) := by
    simp only [Bool.and_eq_true, Bool.not_eq_true', beq_iff_eq, ← Bool.not_eq_true, List.any_eq_true, not_or,
      Classical.not_not, List.contains_iff_mem, ne_eq, and_assoc]
    exact ⟨fun ⟨hin, hready, htests, hlock⟩ => ⟨hin, hready, hlock, htests⟩,
      fun ⟨hin, hready, hlock, htests⟩ => ⟨hin, hready, htests, hlock⟩⟩
  rw [State.unfence, State.fenceStatus, State.fenceStatus]
  by_cases hshut : s.isSlice n = false ∨ s.sliceState n ≠ 4 ∨ n ∈ s.tests.locked ∨
      (∃ x ∈ s.tests.running, itemOffline x.item = true ∧ itemKind x.item = 0 ∧ x.target = n)
  · rw [if_pos hshut]
    exact if_neg fun h => hopen.mp h hshut
  · rw [if_neg hshut]
    exact if_pos (hopen.mpr hshut)

theorem State.ddrUnfence_eq (s : State) (n : Nat) :
    let ok := s.put A.md MD_FENCE_CMD_STATUS stOK
    s.ddrUnfence n =
      if (s.get A.md MD_DDR_FENCE_CHANNELS).testBit n = true ∧ n ∉ s.boot.retraining then
        { ok with boot := { ok.boot with retraining := ok.boot.retraining ++ [n] } }
      else s.put A.md MD_FENCE_CMD_STATUS stBadValue := by
  intro ok
  simp only [State.ddrUnfence, State.fenceStatus, Bool.and_eq_true, Bool.not_eq_true', ← Bool.not_eq_true,
    List.contains_iff_mem] <;> rfl

theorem State.rebuild_eq (s : State) (n : Nat) :
    s.rebuild n =
      if s.isSlice n = true ∧ (s.sliceState n = 2 ∨ s.sliceState n = 5) ∧
          (s.get A.pw PW_DOMAIN_SLICES).testBit n = true then
        (s.put A.md MD_FENCE_CMD_STATUS stOK).startBuild n none
      else s.put A.md MD_FENCE_CMD_STATUS stBadValue := by
  simp only [State.rebuild, State.fenceStatus, Bool.and_eq_true, Bool.or_eq_true, beq_iff_eq, and_assoc]

theorem State.sliceState_setSlice (s : State) (n st cause : Nat) : (s.setSlice n st cause).sliceState n = st % 2 ^ 3 := by
  have hstate : (MD_SLICE_STATE_STATE n).ok := by simp [Fld.ok, MD_SLICE_STATE_STATE]
  have hcause : (MD_SLICE_STATE_CAUSE n).ok := by simp [Fld.ok, MD_SLICE_STATE_CAUSE]
  have hsince : (MD_SLICE_STATE_SINCE n).ok := by simp [Fld.ok, MD_SLICE_STATE_SINCE]
  have hcauseApart : (MD_SLICE_STATE_CAUSE n).apart (MD_SLICE_STATE_STATE n) := by
    simp [Fld.apart, MD_SLICE_STATE_CAUSE, MD_SLICE_STATE_STATE]
  have hsinceApart : (MD_SLICE_STATE_SINCE n).apart (MD_SLICE_STATE_STATE n) := by
    simp [Fld.apart, MD_SLICE_STATE_SINCE, MD_SLICE_STATE_STATE]
  rw [State.sliceState, State.setSlice, State.get_put_apart _ _ _ hsince hsinceApart,
    State.get_put_apart _ _ _ hcause hcauseApart]
  exact State.get_put_same _ _ _ _ hstate

/-- A draining slice that no transfer touches is FENCED and no longer draining. -/
theorem State.fenceDrained_frame {s : State} {n : Nat} (hfree : s.touched 0 n = false)
    (hdrain : s.drains.any (fun (d : Drain) => d.kind == 0 && d.index == n && d.fence) = true) :
    (s.fenceDrained n).drains = s.drains.filter (fun (d : Drain) => d.kind != 0 || d.index != n) ∧
    (s.sliceState n = 1 → n < 8 → (s.fenceDrained n).sliceState n = 2) := by
  have hdone : ¬ (!s.drains.any (fun (d : Drain) => d.kind == 0 && d.index == n && d.fence) || s.touched 0 n) = true := by
    rw [hdrain, hfree]
    decide
  rw [State.fenceDrained, if_neg hdone]
  extract_lets u v
  have hstate (hn : n < 8) : v.sliceState n = s.sliceState n := by
    have hu : u.sliceState n = s.sliceState n := rfl
    rw [← hu]
    exact State.get_put_other _ _ (by simp only [A.md, A.dm, MD_SLICE_STATE_STATE, DM_POWER_SLICES]; omega)
  have hdrains : v.drains = s.drains.filter (fun (d : Drain) => d.kind != 0 || d.index != n) := rfl
  refine ⟨?_, fun hone hn => ?_⟩
  · split
    · exact hdrains
    · exact hdrains
  · rw [if_pos ((hstate hn).trans hone)]
    exact State.sliceState_setSlice v n 2 _

theorem State.unfenceEffective_of_waiting {s : State} {n t : Nat}
    (h : s.boot.unfencing.find? (fun e => e.1 == n) = some (n, t)) :
    s.unfenceEffective n =
      if s.since t < 2000 then s
      else (State.setSlice { s with boot := { s.boot with
        unfencing := s.boot.unfencing.filter (fun e => e.1 != n) } } n 0 0).leaveReshape := by
  simp only [State.unfenceEffective, h]

/-- A build ends READY when the slice's constants hold and it came out well; else in FAULT with the old image. -/
theorem State.buildDone_of_building {s : State} {n : Nat} {im : Option Image} (ok : Bool)
    (h : s.boot.builds.find? (fun e => e.1 == n) = some (n, im)) :
    let u := s.rebuildSlice (im.getD s.image) n im.isNone
    let checked := constsOk u.image (some n) &&
      u.readbackOk (u.image.consts.filter (fun (c : ConstRec) => constSlice c.da == some n))
    let v := { u with boot := { u.boot with builds := u.boot.builds.filter (fun e => e.1 != n) } }
    s.buildDone n ok =
      if checked = true ∧ ok = true then
        let w := v.showHeld.setSlice n 4 (v.get A.md (MD_SLICE_STATE_CAUSE n))
        if im.isSome then w.imResult w.boot.tag stOK 0 0xFF 0 else w
      else (State.setSlice { v with image := s.image } n 5 6).buildFailed im (if checked then none else some 8) := by
  simp only [State.buildDone, h, Bool.and_eq_true]

theorem State.get_showHeld_cause (s : State) (n : Nat) :
    s.showHeld.get A.md (MD_SLICE_STATE_CAUSE n) = s.get A.md (MD_SLICE_STATE_CAUSE n) :=
  State.get_put_other _ _ (by simp only [A.md, A.im, MD_SLICE_STATE_CAUSE, IM_CONST_HELD]; omega)

/-- A memory channel that has retrained serves again, with its data lost. -/
theorem State.ddrUnfenced_of_retraining {s : State} {c : Nat} (h : c ∈ s.boot.retraining) :
    let u := { s with boot := { s.boot with retraining := s.boot.retraining.filter (· != c) } }
    s.ddrUnfenced c =
      (((((u.putBit A.md MD_DDR_FENCE_CHANNELS c false).putBit A.dm DM_POWER_DDR c false).putBit A.pw PW_DOMAIN_DDR c
        true).loseMemory c).leaveReshape) := by
  have hin : ¬ (!s.boot.retraining.contains c) = true := by simpa using h
  exact if_neg hin

/-- Settles O56. -/
theorem fencesAndRebuilds : Obligations.FencesAndRebuilds := by
  unfold Obligations.FencesAndRebuilds
  refine ⟨fun s n => ⟨?_, ?_, fun k hk => exec_fence_other n s hk, ?_, ?_, ?_⟩, fun s n t hwait => ?_,
    fun s n hslice hfree hdrain => ⟨_, exec_fenceDrainComplete hslice, State.fenceDrained_frame hfree hdrain⟩,
    fun s n im ok hbuild => ?_, fun s c hin => ?_⟩
  · rw [exec_fence_slice, State.fence_eq]
  · rw [exec_fence_ddr, State.ddrFence_eq]
  · rw [exec_unfence_slice, State.unfence_eq]
  · rw [exec_unfence_ddr, State.ddrUnfence_eq]
  · rw [exec_rebuild, State.rebuild_eq]
  · rw [exec_unfenceEffective, State.unfenceEffective_of_waiting hwait]
  · intro u checked v
    have hcause : v.showHeld.get A.md (MD_SLICE_STATE_CAUSE n) = v.get A.md (MD_SLICE_STATE_CAUSE n) :=
      State.get_showHeld_cause v n
    rw [exec_buildComplete, State.buildDone_of_building ok hbuild, hcause]
  · intro u
    rw [exec_ddrUnfenceComplete, State.ddrUnfenced_of_retraining hin]

end Sys2Proof.Machine
end

/-!
PROOFS. Fumarole's tasks, test items and fault injectors (spec/15_modes_inservice.md R394–R396;
spec/17_selftest_faults.md R415–R425).
-/

section
namespace Sys2Proof.Machine

/-! ## Passes of the tasks (R394–R396) -/

/-- A pass of task `t` with `n` findings that leaves the state `u`, where the task runs in `s`. -/
def State.passed (s : State) (t us n : Nat) (u : State) : State := if s.taskRuns t then u.passEnd t us n else s

theorem State.pass_eq (s : State) (t us : Nat) (f : State → Nat × State) :
    s.pass t us f = s.passed t us (f s).1 (f s).2 := rfl

theorem exec_tcamScrub (found : List (Nat × Nat)) (us : Nat) (s : State) :
    exec (.tcamScrub found us) s = .next (s.passed 0 us ((s.scrubbed found).map (·.2)).sum
      ((s.scrubbed found).foldl (fun u e => u.scrubEntry 7 1 e.1 e.2) s)) := rfl

theorem exec_gateScrub (found : List (Nat × Nat)) (us : Nat) (s : State) :
    exec (.gateScrub found us) s = .next (s.passed 1 us ((s.scrubbed found).map (·.2)).sum
      ((s.scrubbed found).foldl (fun u e => u.scrubEntry 8 5 e.1 e.2) s)) := rfl

/-- The findings of a stream comparison on slices in service. -/
def State.compared (s : State) (found : List (Nat × Nat)) : List (Nat × Nat) :=
  found.filter (fun e => s.isSlice e.1 && !s.sliceFenced e.1)

theorem exec_streamCompare (found : List (Nat × Nat)) (us : Nat) (s : State) :
    exec (.streamCompare found us) s = .next (s.passed 2 us (s.compared found).length
      ((s.compared found).foldl (fun u e => u.replicaRepair e.1 e.2) s)) := rfl

theorem exec_complementCheck (found : List (Nat × Nat)) (us : Nat) (s : State) :
    exec (.complementCheck found us) s = .next (s.passed 4 us found.length
      (found.foldl (fun u e => u.storedMismatch e.1 e.2) s)) := rfl

theorem exec_holdPatrol (fixed : Nat) (bad : List Nat) (hit : List (Nat × Nat × Nat)) (us : Nat) (s : State) :
    exec (.holdPatrol fixed bad hit us) s = .next (s.passed 3 us (fixed + bad.length) (s.retireCells bad hit)) := rfl

theorem exec_amapCheck (us : Nat) (s : State) :
    exec (.amapCheck us) s = .next (s.passed 5 us s.amapCheck.1 s.amapCheck.2) := rfl

theorem exec_constCheck (bad : List Nat) (us : Nat) (s : State) : exec (.constCheck bad us) s =
    .next (s.passed 6 us bad.length (bad.foldl (fun u a => u.constMismatch a) s)) := rfl

theorem exec_ddrScrub (fixed : Nat) (bad : List Nat) (us : Nat) (s : State) : exec (.ddrScrub fixed bad us) s =
    .next (s.passed 10 us (fixed + bad.length) (bad.foldl (fun u a => u.ddrError a) s)) := rfl

theorem exec_serdesAdapt {s : State} {l : Nat} (us : Nat) (hport : s.isPort l = true) (hup : s.linkUp l = true)
    (hserves : s.sliceFenced (sliceOf l) = false) : exec (.serdesAdapt l us) s = .next (s.passed 7 us 0 s) := by
  have hopen : (s.isPort l && s.linkUp l && !s.sliceFenced (sliceOf l)) = true := by rw [hport, hup, hserves]; rfl
  have heq : exec (.serdesAdapt l us) s =
    .next (if s.isPort l && s.linkUp l && !s.sliceFenced (sliceOf l) then s.passed 7 us 0 s else s) := rfl
  rw [heq, if_pos hopen]

theorem exec_oscComp (x : Int) (us : Nat) (s : State) :
    exec (.oscComp x us) s = .next (s.passed 8 us 0
      (if s.servoState = 3 then State.formAddend { s with sync := { s.sync with comp := x } } else s)) := rfl

theorem exec_telemetry (vin iin power vaux us : Nat) (s : State) :
    exec (.telemetry vin iin power vaux us) s =
      .next ((s.measure vin iin power vaux).passed 9 us 0 (s.measure vin iin power vaux).sendHealth) := rfl

theorem exec_aging (slow : List (Nat × Nat)) (us : Nat) (s : State) :
    exec (.aging slow us) s = .next (s.addHour.passed 11 us 0
      ((slow.filter (fun e => decide (e.1 < 10))).foldl (fun u e => u.ageDie e.1 e.2) s.addHour)) := rfl

theorem exec_selftestRotation (f : Finding) (hit : List (Nat × Nat × Nat)) (s : State) :
    exec (.selftestRotation f hit) s = .next (s.rotate f hit) := rfl

/-- The rotation runs the next online item with its finding. -/
theorem State.rotate_of_next {s : State} {f : Finding} {k : Nat} (hit : List (Nat × Nat × Nat))
    (h : s.nextRotation = some (k, f.item, f.target)) :
    let x : TestItem := { ticket := 0, item := f.item, target := f.target, origin := 2, at_ := s.nowQ - nsQ (f.us * 1000) }
    let u := { s with tests := { s.tests with rotation := (k + 1) % rotationSteps.length } }
    s.rotate f hit = s.passed 12 f.us f.faulty.length (u.itemEnd x f hit) := by
  have hitem : ¬ (f.item ≠ f.item ∨ f.target ≠ f.target) := by simp
  simp only [State.rotate, h, if_neg hitem, State.pass_eq]

/-- Settles O57. -/
theorem backgroundTasksRun : Obligations.BackgroundTasksRun := by
  unfold Obligations.BackgroundTasksRun
  intro ends
  refine ⟨fun s found us => ⟨exec_tcamScrub found us s, exec_gateScrub found us s, exec_streamCompare found us s,
      exec_complementCheck found us s⟩,
    fun s fixed us bad hit => ⟨exec_holdPatrol fixed bad hit us s, exec_amapCheck us s, exec_constCheck bad us s,
      exec_ddrScrub fixed bad us s⟩,
    fun s l us hport hup hserves => exec_serdesAdapt us hport hup hserves, fun s x us => exec_oscComp x us s,
    fun s vin iin power vaux us => exec_telemetry vin iin power vaux us s, fun s slow us hdies => ?_,
    fun s f hit k hnext => ?_⟩
  · have hall : slow.filter (fun e => decide (e.1 < 10)) = slow :=
      List.filter_eq_self.mpr fun e he => decide_eq_true (hdies e he)
    rw [exec_aging, hall]
    rfl
  · intro x u
    rw [exec_selftestRotation, State.rotate_of_next hit hnext]
    rfl

/-! ## Test items (R398, R415–R417) -/

theorem exec_request (i t tag : Nat) (s : State) : exec (.request i t tag) s = .next (s.testRequest i t tag) := rfl

theorem exec_testCancel (ticket tag : Nat) (s : State) :
    exec (.testCancel ticket tag) s = .next (s.testCancel ticket tag) := rfl

theorem exec_testItemComplete (ticket : Nat) (f : Finding) (hit : List (Nat × Nat × Nat)) (s : State) :
    exec (.testItemComplete ticket f hit) s = .next (s.testDone ticket f hit) := rfl

/-- A REQUEST answers its first check that fails; else the item starts, or waits while it is in conflict. -/
theorem State.testRequest_eq (s : State) (i t tag : Nat) :
    let k := (s.tests.ticket + 1) % 65536
    let x : TestItem := { ticket := k, item := i, target := t, origin := 0 }
    s.testRequest i t tag =
      if itemKnown i = false ∨ s.targetExists i t = false ∨ itemKind i = 0 ∧ s.mode = 9 then s.testResult tag 0 stBadValue
      else if itemOffline i = true ∧ s.released i t = false then s.testResult tag 0 stNeedsFence
      else if (s.tests.running ++ s.tests.queue).any (s.conflicts i t) = false then
        (s.nextTicket.startItem x).testResult tag k stOK
      else if 16 ≤ s.tests.queue.length then s.testResult tag 0 stQueueFull
      else
        let u := s.nextTicket
        State.testResult { u with tests := { u.tests with queue := u.tests.queue ++ [x] } } tag k stDeferred := by
  intro k x
  simp only [State.testRequest, Bool.or_eq_true, Bool.and_eq_true, Bool.not_eq_true', beq_iff_eq, or_assoc]
  split
  · rfl
  · split
    · rfl
    · rw [ite_true_eq_ite_false]

theorem State.testCancel_of_queued {s : State} {ticket : Nat} {x : TestItem} (tag : Nat)
    (h : s.tests.queue.find? (fun x => x.ticket == ticket) = some x) :
    let u := { s with tests := { s.tests with queue := s.tests.queue.filter (· != x) } }
    s.testCancel ticket tag =
      ((u.endItem { x with at_ := s.nowQ, clk := s.time.clk } 3).testResult tag ticket stOK).runQueue := by
  simp only [State.testCancel, h]

theorem State.testCancel_of_absent {s : State} {ticket : Nat} (tag : Nat)
    (hqueue : s.tests.queue.find? (fun x => x.ticket == ticket) = none)
    (hrun : s.tests.running.find? (fun x => x.ticket == ticket && x.origin == 0) = none) :
    s.testCancel ticket tag = s.testResult tag ticket stNOP := by
  simp only [State.testCancel, hqueue, hrun]

theorem State.testDone_of_running {s : State} {ticket : Nat} {f : Finding} {x : TestItem} (hit : List (Nat × Nat × Nat))
    (h : s.tests.running.find? (fun x => x.ticket == ticket && x.item == f.item && x.target == f.target) = some x) :
    let u := { s with tests := { s.tests with running := s.tests.running.filter (· != x) } }
    s.testDone ticket f hit = (u.itemEnd x f hit).runQueue := by
  simp only [State.testDone, h]

/-! ## Fault injectors (R418–R424) -/

theorem exec_injectorArm {s : State} {l : Nat} (k w : Nat) (h : s.isPort l = true) :
    exec (.injectorArm l k w) s =
      .next (if k < 4 && s.injectionOn && w.testBit 0 && injCtrlOk w then s.injCtrl l k (w % 2 ^ 64) else s) := by
  have heq : exec (.injectorArm l k w) s = .next (s.atPort l fun s =>
    if k < 4 && s.injectionOn && w.testBit 0 && injCtrlOk w then s.injCtrl l k (w % 2 ^ 64) else s) := rfl
  rw [heq, State.atPort_of_isPort _ h]

/-- The start of injector `k`, where it is armed for an instant. -/
def State.injStarts (s : State) (l k : Nat) : State :=
  if k < 4 && s.injectionOn && s.on (A.fii l k) FI_INJ_CTRL_ARM && s.on (A.fii l k) FI_INJ_CTRL_START_EN &&
    decide (s.injStart l k ≤ s.nowQ) then s.put (A.fii l k) FI_INJ_STATUS_ACTIVE 1 else s

theorem exec_injectorStart {s : State} {l : Nat} (k : Nat) (h : s.isPort l = true) :
    exec (.injectorStart l k) s = .next (s.injStarts l k) := by
  have heq : exec (.injectorStart l k) s = .next (s.atPort l (·.injStarts l k)) := rfl
  rw [heq, State.atPort_of_isPort _ h]

theorem exec_injectorRelease {s : State} {l k : Nat} {x : InjHeld} (h : s.isPort l = true)
    (hheld : (s.injector l k).held = some x) :
    exec (.injectorRelease l k) s = .next (if s.heldDue l k x then s.releaseHeld l k else s) := by
  have heq : exec (.injectorRelease l k) s = execInjectorRelease l k s := rfl
  rw [heq, execInjectorRelease, State.atPort_of_isPort _ h, hheld]

theorem exec_fiTskewWrite {s : State} {l : Nat} (w : Nat) (h : s.isPort l = true) :
    exec (.fiTskewWrite l w) s = .next (if s.injectionOn then s.tskew l (w % 2 ^ 64) else s) := by
  have heq : exec (.fiTskewWrite l w) s =
    .next (s.atPort l fun s => if s.injectionOn then s.tskew l (w % 2 ^ 64) else s) := rfl
  rw [heq, State.atPort_of_isPort _ h]

theorem testBit_mod_word (w : Nat) {i : Nat} (h : i < 64) : (w % 2 ^ 64).testBit i = w.testBit i := by
  rw [Nat.testBit_mod_two_pow, decide_eq_true h, Bool.true_and]

/-- A word with ARM arms the injector: its counts restart, and it is active at once or from its start instant. -/
theorem State.injCtrl_of_arm {s : State} {l k w : Nat} (h : w.testBit 0 = true) :
    let b := A.fii l k
    let u := s.setWord b (BitVec.ofNat 64 (w % 2 ^ 64 - bitsOf (w % 2 ^ 64) 23 5 * 2 ^ 5))
    let v := (u.put b FI_INJ_STATUS_DONE 0).setInjector l k { u.injector l k with selected := 0, done := 0 }
    s.injCtrl l k (w % 2 ^ 64) =
      (v.put b FI_INJ_STATUS_ACTIVE (bit (!w.testBit 4 || decide (v.injStart l k ≤ v.nowQ)))).journalInjector l := by
  intro b u v
  rw [State.injCtrl, testBit_mod_word w (by decide), testBit_mod_word w (by decide), if_pos h]

/-- Settles O58. -/
theorem testItemsAndInjectors : Obligations.TestItemsAndInjectors := by
  unfold Obligations.TestItemsAndInjectors
  refine ⟨fun s i t tag => ?_, fun s ticket tag x hqueue => ?_, fun s ticket tag hqueue hrun => ?_,
    fun s ticket f hit x hrun => ?_, fun s l k w hport hk => ⟨fun hoff => ?_, fun hon harm hok => ?_,
      fun hon harm hstart => ?_, fun h hheld hdue => ?_, fun h hheld hwait => ?_⟩, fun s l w hport hon => ?_⟩
  · intro k x
    rw [exec_request, State.testRequest_eq]
  · intro u
    rw [exec_testCancel, State.testCancel_of_queued tag hqueue]
  · rw [exec_testCancel, State.testCancel_of_absent tag hqueue hrun]
  · intro u
    rw [exec_testItemComplete, State.testDone_of_running hit hrun]
  · have hclosed : ¬ (k < 4 && s.injectionOn && w.testBit 0 && injCtrlOk w) = true := by simp [hoff]
    rw [exec_injectorArm k w hport, if_neg hclosed]
  · have hopen : (k < 4 && s.injectionOn && w.testBit 0 && injCtrlOk w) = true := by simp [hk, hon, harm, hok]
    rw [exec_injectorArm k w hport, if_pos hopen, State.injCtrl_of_arm harm]
  · rw [exec_injectorStart k hport, State.injStarts, hon, harm, hstart, decide_eq_true hk]
    simp only [Bool.true_and, decide_eq_true_eq]
  · rw [exec_injectorRelease hport hheld, if_pos hdue]
  · rw [exec_injectorRelease hport hheld, hwait, if_neg (by decide)]
  · intro v
    rw [exec_fiTskewWrite w hport, if_pos hon, State.tskew]

end Sys2Proof.Machine
end

/-!
PROOFS. The power manager, the PMBus and the contacts (spec/16_power.md R400–R414;
spec/18_contacts_electrical.md R432–R447).
-/

section
namespace Sys2Proof.Machine

/-! ## Supplies and domains (R401–R404) -/

theorem exec_supplyInRange (addr : Nat) (s : State) : exec (.supplyInRange addr) s = .next (s.supplyGood addr) := rfl

theorem exec_vinLow (below9 : Bool) (s : State) : exec (.vinLow below9) s = .next (s.vinLow below9) := rfl

theorem exec_vauxOutOfRange (s : State) : exec .vauxOutOfRange s =
    .next ((if s.mode = 0 then s else s.enterReset 10).put A.pw PW_STATUS_VAUX_OK 0) := rfl

theorem exec_railFault (kind i : Nat) (units : List (Nat × Nat)) (s : State) :
    exec (.railFault kind i units) s = .next (s.railFault kind i units) := rfl

theorem exec_domainOff (b : Nat) (s : State) : exec (.domainOff b) s = .next (s.domainOff b) := rfl

theorem exec_domainOn (b : Nat) (s : State) : exec (.domainOn b) s = .next (s.domainRaise b) := rfl

theorem exec_capEvaluate {s : State} (w : Nat) (h : s.mode ≠ 0) :
    exec (.capEvaluate w) s = .next (s.capEvaluate w) := congrArg _ (if_neg h)

theorem exec_temperatureRead (ts : List Int) (s : State) :
    exec (.temperatureRead ts) s = .next (s.temperatureRead ts) := rfl

/-- VIN too low outside Reset and Halt latches its faults and halts the module; below 9 V every rail goes off. -/
theorem State.vinLow_of_running {s : State} (below9 : Bool) :
    let u := (s.put A.pw PW_STATUS_VIN_OK 0).latchWord (2 ^ 3 + 2 ^ 13)
    let v := (u.raise A.pw PW_EVENT_FLAGS 5).powerOffSlices
    u.mode ≠ 0 → v.mode ≠ 11 → s.vinLow below9 = if below9 then (v.enterHalt 6).allRailsOff else v.enterHalt 6 := by
  intro u v hu hv
  have heq : s.vinLow below9 =
      if below9 then (if u.mode = 0 then u else if v.mode = 11 then v else v.enterHalt 6).allRailsOff
      else if u.mode = 0 then u else if v.mode = 11 then v else v.enterHalt 6 := rfl
  rw [heq, if_neg hu, if_neg hv]

/-- DOMAIN_OFF of a bank group that there is. -/
theorem State.domainOff_of_lt {s : State} {b : Nat} (h : b < 16) :
    s.domainOff b =
      if s.groupInUse b = true ∨ s.groupServes b = true then s.put A.pw PW_DOMAIN_CMD_STATUS stBadValue
      else if s.domainOn 2 b then (s.put A.pw PW_DOMAIN_CMD_STATUS stOK).requestDown 2 b false
      else s.put A.pw PW_DOMAIN_CMD_STATUS stNOP := by
  have hlow : ¬ 16 ≤ b := Nat.not_le.mpr h
  simp only [State.domainOff, State.domainStatus, hlow, false_or]

theorem State.domainRaise_of_lt {s : State} {b : Nat} (h : b < 16) :
    let up := s.domainOn 2 b && !s.domainDown 2 b
    let u := State.putBit { s with drains := s.drains.filter (fun (d : Drain) => d.kind != 2 || d.index != b) } A.dm
      DM_POWER_CALDERA_BANKS b false
    s.domainRaise b =
      if up then u.put A.pw PW_DOMAIN_CMD_STATUS stNOP else (u.setBank b true).put A.pw PW_DOMAIN_CMD_STATUS stOK :=
  if_neg (Nat.not_le.mpr h)

theorem State.domain_of_absent {s : State} {b : Nat} (h : 16 ≤ b) :
    s.domainOff b = s.put A.pw PW_DOMAIN_CMD_STATUS stBadValue ∧
    s.domainRaise b = s.put A.pw PW_DOMAIN_CMD_STATUS stBadValue := ⟨if_pos (.inl h), if_pos h⟩

/-! ## PMBus (R411) -/

theorem exec_clearFaults (s : State) :
    exec .clearFaults s = .next (if s.on A.pw PW_STATUS_VAUX_OK then s.clearFaults else s) := rfl

theorem exec_statusWord (s : State) : exec .statusWord s = .next (s.pmbus (le 2 s.statusWord)) := rfl

theorem exec_statusTemperature (s : State) : exec .statusTemperature s = .next (s.pmbus (le 1 s.power.temp)) := rfl

theorem exec_readVin (s : State) : exec .readVin s = .next (s.pmbusValue (s.get A.pw PW_INPUT_VIN_MV) 1000) := rfl

theorem exec_readIin (s : State) : exec .readIin s = .next (s.pmbusValue (s.get A.pw PW_INPUT_IIN_10MA) 100) := rfl

theorem exec_readTemperature1 (s : State) : exec .readTemperature1 s = .next (s.pmbusValue s.tjMax 16) := rfl

theorem exec_readPin (s : State) : exec .readPin s = .next (s.pmbusValue (s.get A.pw PW_INPUT_POWER_W) 1) := rfl

theorem exec_pmbusRevision (s : State) : exec .pmbusRevision s = .next (s.pmbus [0x33]) := rfl

theorem exec_mfrId (s : State) : exec .mfrId s = .next (s.pmbus [4, 0x4C, 0x41, 0x4D, 0x42]) := rfl

theorem exec_mfrModel (s : State) :
    exec .mfrModel s = .next (s.pmbus [8, 0x53, 0x4E, 0x44, 0x2D, 0x32, 0x30, 0x34, 0x38]) := rfl

theorem exec_pmbusUnsupported (s : State) :
    exec .pmbusUnsupported s = .next (if s.on A.pw PW_STATUS_VAUX_OK then s.latchWord (2 ^ 1) else s) := rfl

theorem State.pmbus_of_vaux {s : State} (b : Bytes) (h : s.on A.pw PW_STATUS_VAUX_OK = true) :
    s.pmbus b = s.emit (.pmbus b) := if_pos h

/-- Without VAUX the PMBus is silent. -/
theorem State.pmbus_of_noVaux {s : State} (b : Bytes) (h : s.on A.pw PW_STATUS_VAUX_OK = false) : s.pmbus b = s :=
  if_neg (by rw [h]; decide)

/-- Settles O59. -/
theorem powerManagerActs : Obligations.PowerManagerActs := by
  unfold Obligations.PowerManagerActs
  refine ⟨fun s addr => exec_supplyInRange addr s, fun s => ⟨fun hu hv => ⟨?_, ?_⟩, exec_vauxOutOfRange s⟩,
    fun s i units => ⟨exec_railFault 0 i units s, exec_railFault 1 i units s, exec_railFault 3 i units s⟩,
    fun s b => ⟨fun hb => ⟨?_, ?_⟩, fun hb => ?_, fun hb => ?_⟩, fun s w hmode => exec_capEvaluate w hmode,
    fun s t ts => exec_temperatureRead (t :: ts) s,
    fun s hvaux => ⟨?_, ?_, ?_, ?_, ?_, ?_, ?_, ?_, ?_, ?_, ?_⟩, fun s hoff => ⟨?_, ?_, ?_, ?_⟩⟩
  · rw [exec_vinLow, State.vinLow_of_running false hu hv]
    rfl
  · rw [exec_vinLow, State.vinLow_of_running true hu hv]
    rfl
  · rw [exec_domainOff, (State.domain_of_absent hb).1]
  · rw [exec_domainOn, (State.domain_of_absent hb).2]
  · rw [exec_domainOff, State.domainOff_of_lt hb]
  · rw [exec_domainOn, State.domainRaise_of_lt hb]
  · rw [exec_clearFaults, if_pos hvaux]
  · rw [exec_statusWord, State.pmbus_of_vaux _ hvaux, State.statusWord]
  · rw [exec_statusTemperature, State.pmbus_of_vaux _ hvaux]
  · rw [exec_readVin, State.pmbusValue, State.pmbus_of_vaux _ hvaux]
  · rw [exec_readIin, State.pmbusValue, State.pmbus_of_vaux _ hvaux]
  · rw [exec_readTemperature1, State.pmbusValue, State.pmbus_of_vaux _ hvaux]
  · rw [exec_readPin, State.pmbusValue, State.pmbus_of_vaux _ hvaux]
  · rw [exec_pmbusRevision, State.pmbus_of_vaux _ hvaux]
  · rw [exec_mfrId, State.pmbus_of_vaux _ hvaux]
  · rw [exec_mfrModel, State.pmbus_of_vaux _ hvaux]
  · rw [exec_pmbusUnsupported, if_pos hvaux]
    rfl
  · rw [exec_statusWord, State.pmbus_of_noVaux _ hoff]
  · rw [exec_readVin, State.pmbusValue, State.pmbus_of_noVaux _ hoff]
  · rw [exec_mfrId, State.pmbus_of_noVaux _ hoff]
  · rw [exec_pmbusUnsupported, hoff, if_neg (by decide)]

/-! ## RESET_N and the test access port (R432, R444, R447) -/

theorem exec_resetNAssert (s : State) : exec .resetNAssert s =
    .next (let t := if s.mode = 0 then s else s.enterReset 10
      { t with contacts := { t.contacts with resetN := false } }) := rfl

theorem exec_resetNRelease (s : State) : exec .resetNRelease s =
    .next { s with contacts := { s.contacts with
      resetN := true, held := s.contacts.held || (s.mode == 0 && decide (3 ≤ s.contacts.tap)) } } := rfl

theorem exec_tapTestLogicReset (s : State) : exec .tapTestLogicReset s =
    .next { s with contacts := { s.contacts with tap := 1, held := false } } := rfl

theorem exec_bypass (s : State) : exec .bypass s = .next (s.tapLoad 0 0) := rfl

theorem exec_idcode (s : State) : exec .idcode s = .next (s.tapLoad 1 0x1204894F) := rfl

theorem exec_samplePreload (s : State) : exec .samplePreload s = .next (s.fresh.2.tapLoad 2 s.fresh.1.toNat) := rfl

theorem exec_extest (s : State) : exec .extest s = .next (s.tapTest 3) := rfl

theorem exec_clamp (s : State) : exec .clamp s = .next (s.tapTest 4) := rfl

theorem exec_highz (s : State) : exec .highz s = .next (s.tapTest 5) := rfl

theorem exec_extestPulse (s : State) : exec .extestPulse s = .next (s.tapTest 6) := rfl

theorem exec_extestTrain (s : State) : exec .extestTrain s = .next (s.tapTest 7) := rfl

/-- The instruction `i` is loaded, and `v` shifted out. -/
def State.tapShift (s : State) (i v : Nat) : State :=
  State.emit { s with contacts := { s.contacts with tap := i } } (.tap i v)

theorem State.tapLoad_of_runs {s : State} (i v : Nat) (h : s.tapRuns = true) : s.tapLoad i v = s.tapShift i v := if_pos h

theorem State.tapRuns_fresh {s : State} (h : s.tapRuns = true) : s.fresh.2.tapRuns = true := h

/-- While RESET_N is high a test instruction is BYPASS. -/
theorem State.tapTest_of_high {s : State} (i : Nat) (hruns : s.tapRuns = true) (h : s.contacts.resetN = true) :
    s.tapTest i = s.tapShift 0 0 := by
  rw [State.tapTest, if_pos h, State.tapLoad_of_runs 0 0 hruns]

/-- While RESET_N is low CLAMP and HIGHZ select the bypass register. -/
theorem State.tapTest_of_bypass {s : State} {i : Nat} (hruns : s.tapRuns = true) (h : s.contacts.resetN = false)
    (hi : i = 4 ∨ i = 5) : s.tapTest i = s.tapShift i 0 := by
  rw [State.tapTest, h, if_neg (by decide), if_pos hi, State.tapLoad_of_runs i 0 hruns]

/-- While RESET_N is low the other test instructions shift out the boundary register. -/
theorem State.tapTest_of_boundary {s : State} {i : Nat} (hruns : s.tapRuns = true) (h : s.contacts.resetN = false)
    (hi : ¬ (i = 4 ∨ i = 5)) : s.tapTest i = s.fresh.2.tapShift i s.fresh.1.toNat := by
  rw [State.tapTest, h, if_neg (by decide), if_neg hi, State.tapLoad_of_runs _ _ (State.tapRuns_fresh hruns)]

/-- Settles O60. -/
theorem contactsAndTestPort : Obligations.ContactsAndTestPort := by
  unfold Obligations.ContactsAndTestPort
  refine ⟨fun s => ⟨exec_resetNAssert s, exec_resetNRelease s, exec_tapTestLogicReset s⟩, fun s hruns => ?_⟩
  intro put v
  refine ⟨?_, ?_, ?_, fun hhigh => ⟨?_, ?_, ?_, ?_, ?_⟩, fun hlow => ⟨?_, ?_, ?_, ?_, ?_⟩⟩
  · rw [exec_bypass, State.tapLoad_of_runs _ _ hruns, State.tapShift]
  · rw [exec_idcode, State.tapLoad_of_runs _ _ hruns, State.tapShift]
  · rw [exec_samplePreload, State.tapLoad_of_runs _ _ (State.tapRuns_fresh hruns), State.tapShift]
  · rw [exec_extest, State.tapTest_of_high _ hruns hhigh, State.tapShift]
  · rw [exec_clamp, State.tapTest_of_high _ hruns hhigh, State.tapShift]
  · rw [exec_highz, State.tapTest_of_high _ hruns hhigh, State.tapShift]
  · rw [exec_extestPulse, State.tapTest_of_high _ hruns hhigh, State.tapShift]
  · rw [exec_extestTrain, State.tapTest_of_high _ hruns hhigh, State.tapShift]
  · rw [exec_extest, State.tapTest_of_boundary hruns hlow (by decide), State.tapShift]
  · rw [exec_clamp, State.tapTest_of_bypass hruns hlow (.inl rfl), State.tapShift]
  · rw [exec_highz, State.tapTest_of_bypass hruns hlow (.inr rfl), State.tapShift]
  · rw [exec_extestPulse, State.tapTest_of_boundary hruns hlow (by decide), State.tapShift]
  · rw [exec_extestTrain, State.tapTest_of_boundary hruns hlow (by decide), State.tapShift]

end Sys2Proof.Machine
end

/-!
PROOFS. The canonical form of register words and memory (O5): the shapes in which it passes through a definition.
An operation `s.f` keeps it by the lemma `State.wf.f`, so that `h.f.g` proves it of `(s.f).g`.
-/

section
namespace Sys2Proof.Machine

theorem State.wf.setWord {s : State} {a : Nat} {v : Word} (h : s.wf) : (s.setWord a v).wf := State.wf_setWord h a v

theorem State.wf.put {s : State} {b : Nat} {f : Fld} {v : Nat} (h : s.wf) : (s.put b f v).wf := State.wf_put h b f v

theorem State.wf.clearWords {s : State} {p : Nat → Bool} (h : s.wf) : (s.clearWords p).wf := State.wf_clearWords h p

theorem State.wf.setMemBytes {s : State} {a : Nat} {bs : Bytes} (h : s.wf) : (s.setMemBytes a bs).wf :=
  State.wf_setMemBytes h a bs

theorem State.wf.loseMemory {s : State} {u : Nat} (h : s.wf) : (s.loseMemory u).wf := State.wf_loseMemory h u

/-- The canonical form speaks of the register words, the memory, the undefined units and the layout of DDR5 in the image
alone. -/
theorem State.wf.relayout {s : State} {image : Image}
    {time arms sync journal board pair testFails scenes held launches feeds sources queues flows wires credits
     gates merges everServed cells drifts markSecond windows evcs samplers lsBuf qsBuf injectors digests recirc
     crossing captures slow exports capRings exportSeqs capCounts slowBuckets sgates meters batch update recs
     rings xp channels lastStart drains mram boot firmware tests power contacts saved out free pending : _} (h : s.wf)
    (hgran : image.ddrG = s.image.ddrG) (hchannels : image.ddrCh = s.image.ddrCh) :
    State.wf { s with
      image, time, arms, sync, journal, board, pair, testFails, scenes, held, launches, feeds, sources, queues, flows,
      wires, credits, gates, merges, everServed, cells, drifts, markSecond, windows, evcs, samplers, lsBuf,
      qsBuf, injectors, digests, recirc, crossing, captures, slow, exports, capRings, exportSeqs, capCounts,
      slowBuckets, sgates, meters, batch, update, recs, rings, xp, channels, lastStart, drains, mram, boot,
      firmware, tests, power, contacts, saved, out, free, pending } :=
  wf_mk_eq.mpr (canonical_of h hgran hchannels)

theorem State.wf.update {s : State}
    {time arms sync journal board pair testFails scenes held launches feeds sources queues flows wires credits
     gates merges everServed cells drifts markSecond windows evcs samplers lsBuf qsBuf injectors digests recirc
     crossing captures slow exports capRings exportSeqs capCounts slowBuckets sgates meters batch update recs
     rings xp channels lastStart drains mram boot firmware tests power contacts saved out free pending : _} (h : s.wf) :
    State.wf { s with
      time, arms, sync, journal, board, pair, testFails, scenes, held, launches, feeds, sources, queues, flows,
      wires, credits, gates, merges, everServed, cells, drifts, markSecond, windows, evcs, samplers, lsBuf,
      qsBuf, injectors, digests, recirc, crossing, captures, slow, exports, capRings, exportSeqs, capCounts,
      slowBuckets, sgates, meters, batch, update, recs, rings, xp, channels, lastStart, drains, mram, boot,
      firmware, tests, power, contacts, saved, out, free, pending } :=
  h.relayout rfl rfl

theorem State.wf.ite {c : Prop} {inst : Decidable c} {s t : State} (hs : s.wf) (ht : t.wf) :
    (if c then s else t).wf := by
  split
  · exact hs
  · exact ht

theorem State.wf.foldl {α : Type} {f : State → α → State} {xs : List α} {s : State} (h : s.wf)
    (hf : ∀ u x, u.wf → (f u x).wf) : (xs.foldl f s).wf := wf_foldl hf h

theorem State.wf.foldl_snd {α β : Type} {f : β × State → α → β × State} {xs : List α} {p : β × State} (h : p.2.wf)
    (hf : ∀ u x, u.2.wf → (f u x).2.wf) : (xs.foldl f p).2.wf := wf_foldl2 hf h

theorem State.wf.ite_snd {α : Type} {c : Prop} {inst : Decidable c} {p q : α × State} (hp : p.2.wf) (hq : q.2.wf) :
    (if c then p else q).2.wf := by
  split
  · exact hp
  · exact hq

theorem State.wf.ofSnd {α : Type} {a : α} {s : State} (h : s.wf) : ((a, s) : α × State).2.wf := h

theorem snd3_wf {α β γ : Type} {p : α × β × γ × State} {a : α} {b : β} {c : γ} {t : State} (e : p = (a, b, c, t))
    (h : p.2.2.2.wf) : t.wf := by
  subst e
  exact h

theorem SMap.get_filter_of_keeps {α : Type} {d : α} {k : Nat} {f : Nat × α → Bool} (hf : ∀ v, f (k, v) = true)
    (m : SMap α) : SMap.get d (m.filter f) k = SMap.get d m k := by
  induction m with
  | nil => rfl
  | cons e m ih =>
    obtain ⟨k', v⟩ := e
    by_cases hk : k = k'
    · subst hk
      simp [hf, SMap.get]
    · cases hfe : f (k', v) <;> simp [List.filter_cons, hfe, SMap.get, hk, ih]

theorem memUnit_of_not_ddr {s t : State} {a : Nat} (ha : regionOf a ≠ .ddr) : t.memUnit a = s.memUnit a := by
  unfold State.memUnit
  cases hr : regionOf a <;> simp_all

theorem sixteen_le_memUnit {s : State} {a : Nat} (ha : regionOf a ≠ .ddr) : 16 ≤ s.memUnit a := by
  unfold State.memUnit
  cases hr : regionOf a <;> simp_all

/-- Without DDR5 the memory is in its canonical form under every image. -/
theorem State.wf.forgetDdr_canonical {s : State} {words : SMap Word} (h : s.wf) (hwords : SMap.wf resetWord words = true)
    (im : Image) : Canonical words s.forgetDdr.mem s.forgetDdr.undef im := by
  refine ⟨hwords, SMap.wfIf_filter_imp ?_ h.2⟩
  intro a v hkeep hv
  have ha : regionOf a ≠ .ddr := by simpa using hkeep
  have hundef : State.undefAt { words, mem := s.forgetDdr.mem, undef := s.forgetDdr.undef, image := im } a = s.undefAt a := by
    unfold State.undefAt
    rw [memUnit_of_not_ddr (s := s) ha]
    exact congrArg (· != 0) (SMap.get_filter_of_keeps (fun _ => by simpa using sixteen_le_memUnit ha) s.undef)
  rw [hundef]
  exact hv

end Sys2Proof.Machine
end

/-!
PROOFS. What rebuilding a slice leaves alone: the image in force, and with it the layout of DDR5 (spec/15_modes_inservice.md
R387).
-/

section
namespace Sys2Proof.Machine

/-- The image in force is `im`: what rebuilding a slice keeps, once it has put the image in force. -/
def State.imageIs (s : State) (im : Image) : Prop := s.image = im

theorem State.imageIs.setWord {im : Image} {s : State} {a : Nat} {v : Word} (h : s.imageIs im) :
    (s.setWord a v).imageIs im := h

theorem State.imageIs.put {im : Image} {s : State} {b : Nat} {f : Fld} {v : Nat} (h : s.imageIs im) :
    (s.put b f v).imageIs im := h

theorem State.imageIs.clearWords {im : Image} {s : State} {p : Nat → Bool} (h : s.imageIs im) :
    (s.clearWords p).imageIs im := h

theorem State.imageIs.update {im : Image} {s : State} {words : SMap Word} {mem : List Host.Cell} {undef : SMap Nat}
    {time arms sync journal board pair testFails scenes held launches feeds sources queues flows wires credits
     gates merges everServed cells drifts markSecond windows evcs samplers lsBuf qsBuf injectors digests recirc
     crossing captures slow exports capRings exportSeqs capCounts slowBuckets sgates meters batch update recs
     rings xp channels lastStart drains mram boot firmware tests power contacts saved out free pending : _} (h : s.imageIs im) :
    State.imageIs { s with
      words, mem, undef,
      time, arms, sync, journal, board, pair, testFails, scenes, held, launches, feeds, sources, queues, flows,
      wires, credits, gates, merges, everServed, cells, drifts, markSecond, windows, evcs, samplers, lsBuf,
      qsBuf, injectors, digests, recirc, crossing, captures, slow, exports, capRings, exportSeqs, capCounts,
      slowBuckets, sgates, meters, batch, update, recs, rings, xp, channels, lastStart, drains, mram, boot,
      firmware, tests, power, contacts, saved, out, free, pending } im := h

theorem State.imageIs.ite {im : Image} {c : Prop} {inst : Decidable c} {s t : State} (hs : s.imageIs im)
    (ht : t.imageIs im) : (if c then s else t).imageIs im := by
  split
  · exact hs
  · exact ht

theorem State.imageIs.foldl {im : Image} {α : Type} {f : State → α → State} {xs : List α} {s : State}
    (h : s.imageIs im) (hf : ∀ u x, u.imageIs im → (f u x).imageIs im) : (xs.foldl f s).imageIs im := by
  induction xs generalizing s with
  | nil => exact h
  | cons x xs ih => exact ih (hf s x h)

theorem State.imageIs.inc {im0 : Image} {s : State} {b : Nat} {f : Fld} {n : Nat} (h : s.imageIs im0) :
    (s.inc b f n).imageIs im0 :=
  h.put

theorem State.imageIs.raise {im0 : Image} {s : State} {b : Nat} {f : Fld} {i : Nat} (h : s.imageIs im0) :
    (s.raise b f i).imageIs im0 :=
  h.put

theorem State.imageIs.overflow {im0 : Image} {s : State} {a : Nat} (h : s.imageIs im0) : (s.overflow a).imageIs im0 := by
  unfold State.overflow
  split
  · exact h.raise
  · split
    · exact h.raise
    · exact h

theorem State.imageIs.add {im0 : Image} {s : State} {b : Nat} {f : Fld} {n : Nat} (h : s.imageIs im0) :
    (s.add b f n).imageIs im0 :=
  h.put.ite h.put.overflow

theorem State.imageIs.bump {im0 : Image} {s : State} {b : Nat} {f : Fld} (h : s.imageIs im0) :
    (s.bump b f).imageIs im0 :=
  h.add

theorem State.imageIs.setWire {im0 : Image} {s : State} {l : Nat} {w : Wire} (h : s.imageIs im0) :
    (s.setWire l w).imageIs im0 :=
  h.update

theorem State.imageIs.freeRelay {im0 : Image} {s : State} {l k : Nat} (h : s.imageIs im0) :
    (s.freeRelay l k).imageIs im0 :=
  h.put

theorem State.imageIs.setFeed {im0 : Image} {s : State} {x : Nat} {f : FeedState} (h : s.imageIs im0) :
    (s.setFeed x f).imageIs im0 :=
  h.update

theorem State.imageIs.grantsDue {im0 : Image} {s : State} {p : Nat → Bool} (h : s.imageIs im0) :
    (s.grantsDue p).imageIs im0 :=
  .foldl h fun _ _ hu => hu.setFeed.ite hu

theorem State.imageIs.pressure {im0 : Image} {s : State} {l : Nat} (h : s.imageIs im0) : (s.pressure l).imageIs im0 :=
  h.put.ite h.put.put.grantsDue

theorem State.imageIs.freeHeld {im0 : Image} {s : State} {h : Held} (hs : s.imageIs im0) :
    (s.freeHeld h).imageIs im0 :=
  hs.put.put.put.put.pressure

theorem State.imageIs.freeLaunch {im0 : Image} {s : State} {x : Launch} (h : s.imageIs im0) :
    (s.freeLaunch x).imageIs im0 := by
  unfold State.freeLaunch
  split
  · exact h.freeHeld
  · exact h.freeRelay

theorem State.imageIs.dropHeld {im0 : Image} {s : State} {p : Held → Bool} (h : s.imageIs im0) :
    (s.dropHeld p).imageIs im0 :=
  .foldl h.update fun _ _ hu => hu.freeHeld

theorem State.imageIs.dropLaunches {im0 : Image} {s : State} {p : Launch → Bool} (h : s.imageIs im0) :
    (s.dropLaunches p).imageIs im0 :=
  .foldl h.update fun _ _ hu => hu.freeLaunch

theorem State.imageIs.recount {im0 : Image} {s t : State} (h : t.imageIs im0) : (s.recount t).imageIs im0 := h.put

theorem State.imageIs.countCell {im0 : Image} {s : State} {i : Nat} (h : s.imageIs im0) :
    (s.countCell i).imageIs im0 := by
  unfold State.countCell
  split
  · exact h.inc.pressure
  · exact h.inc
  · exact h

theorem State.imageIs.showCct {im0 : Image} {s : State} {l q : Nat} (h : s.imageIs im0) :
    (s.showCct l q).imageIs im0 :=
  h.put.put

theorem State.imageIs.classOpen {im0 : Image} {s : State} {l : Nat} {g : GateSet} (h : s.imageIs im0) :
    (s.classOpen l g).imageIs im0 := by
  unfold State.classOpen
  refine .foldl ?_ fun u _ hu => ?_
  · exact h
  · split
    · exact hu.put.put
    · exact hu.put.put

theorem State.imageIs.setBlocked {im0 : Image} {s : State} {n x : Nat} {on : Bool} (h : s.imageIs im0) :
    (s.setBlocked n x on).imageIs im0 :=
  h.put

theorem State.imageIs.applyItem {im0 : Image} {s : State} {n : Nat} {x : BatchItem} (h : s.imageIs im0) :
    (s.applyItem n x).imageIs im0 :=
  .ite (.foldl h fun _ _ hu => hu.put) (.setBlocked (.foldl h fun _ _ hu => hu.put))

theorem State.imageIs.applyItems {im0 : Image} {s : State} {n : Nat} {xs : List BatchItem} (h : s.imageIs im0) :
    (s.applyItems n xs).imageIs im0 :=
  .foldl h fun _ _ hu => hu.applyItem

theorem State.imageIs.sgShowPool {im0 : Image} {s : State} {n : Nat} (h : s.imageIs im0) :
    (s.sgShowPool n).imageIs im0 :=
  h.put.put

theorem State.imageIs.loseTx {im0 : Image} {s : State} {l : Nat} {t : Tx} (h : s.imageIs im0) :
    (s.loseTx l t).imageIs im0 := by
  unfold State.loseTx
  extract_lets u
  have hu : u.imageIs im0 := h.ite h.bump
  split
  · exact hu.freeLaunch
  · exact hu.freeRelay

theorem State.imageIs.setRate {im0 : Image} {s : State} {l code : Nat} (h : s.imageIs im0) :
    (s.setRate l code).imageIs im0 :=
  .foldl h.put.put fun _ _ hu => hu.put

theorem State.imageIs.showGates {im0 : Image} {s : State} {l : Nat} (h : s.imageIs im0) :
    (s.showGates l).imageIs im0 := by
  unfold State.showGates
  extract_lets _ _ u
  have hu : u.imageIs im0 := by
    unfold u
    split
    · exact h.put.put
    · exact h
  split
  · exact hu.showCct
  · exact hu

theorem State.imageIs.buildPort {im0 : Image} {s : State} {im : Image} {p : PortRec} (h : s.imageIs im0) :
    (s.buildPort im p).imageIs im0 := by
  unfold State.buildPort
  extract_lets _ u _ u1 u2 _ u3
  have hu : u.imageIs im0 := h.put.put
  have hu1 : u1.imageIs im0 := by
    unfold u1
    split
    · exact hu.put.put.put.put
    · exact hu
  have hu2 : u2.imageIs im0 := hu1.put.put.ite hu1
  have hu3 : u3.imageIs im0 := .foldl hu2 fun _ _ hu => hu.put.put.put.put.put
  exact hu3.setRate

theorem State.imageIs.buildSlice {im0 : Image} {s : State} {im : Image} {n : Nat} (h : s.imageIs im0) :
    (s.buildSlice im n).imageIs im0 := by
  unfold State.buildSlice
  extract_lets u u1 u2 u3 _ u4
  have hu : u.imageIs im0 := by
    unfold u
    split
    · exact h.put.put
    · exact h
  have hu1 : u1.imageIs im0 := hu.put.put
  have hu2 : u2.imageIs im0 := hu1.put.put
  have hu3 : u3.imageIs im0 := hu2.put
  have hu4 : u4.imageIs im0 := .foldl hu3 fun _ _ hu => hu.put.put.put.put
  exact .foldl hu4 fun _ _ hu => hu.buildPort

theorem State.imageIs.emptySlice {im0 : Image} {s : State} {n : Nat} (h : s.imageIs im0) :
    (s.emptySlice n).imageIs im0 :=
  .foldl (.foldl h.dropHeld.dropLaunches fun _ _ hu => .foldl hu.setFeed fun _ _ hu => hu.freeHeld) fun _ _ hu =>
    .foldl hu.setWire fun _ _ hu => hu.loseTx

theorem State.imageIs.resetSlice {im0 : Image} {s : State} {n : Nat} {keep : Bool} (h : s.imageIs im0) :
    (s.resetSlice n keep).imageIs im0 :=
  h.emptySlice.put.clearWords.update

theorem State.imageIs.forgetCell {im0 : Image} {s : State} {c : Nat} (h : s.imageIs im0) :
    (s.forgetCell c).imageIs im0 :=
  h.clearWords.update

theorem State.imageIs.rehome {im0 : Image} {s old : State} {c a : Nat} (h : s.imageIs im0) :
    (s.rehome old c a).imageIs im0 := by
  unfold State.rehome
  split
  · exact .foldl h fun _ _ hu => hu.setWord
  · exact h

theorem State.imageIs.settleCells {im0 : Image} {s old : State} {n : Nat} (h : s.imageIs im0) :
    (s.settleCells old n).imageIs im0 := by
  unfold State.settleCells
  refine .foldl ?_ fun u _ hu => ?_
  · exact h
  · split
    · exact hu.rehome.ite hu.forgetCell
    · exact hu

theorem State.imageIs.copyTable {im0 : Image} {s : State} {base : Nat → Nat} {m n : Nat} (h : s.imageIs im0) :
    (s.copyTable base m n).imageIs im0 :=
  .foldl h fun _ _ hu => hu.setWord.ite hu

theorem State.imageIs.loadReplica {im0 : Image} {s : State} {n : Nat} (h : s.imageIs im0) :
    (s.loadReplica n).imageIs im0 := by
  unfold State.loadReplica
  extract_lets u u1
  have hu : u.imageIs im0 := h.clearWords
  have hu1 : u1.imageIs im0 := hu.copyTable.copyTable
  split
  · exact hu1.applyItems
  · exact hu1

theorem State.imageIs.copyFr {im0 : Image} {s : State} {n : Nat} (h : s.imageIs im0) : (s.copyFr n).imageIs im0 := by
  unfold State.copyFr
  split
  · exact h
  · exact .foldl h fun _ _ hu => hu.setWord.ite (hu.setWord.ite hu)

theorem State.imageIs.showGolden {im0 : Image} {s : State} {n : Nat} (h : s.imageIs im0) :
    (s.showGolden n).imageIs im0 := by
  unfold State.showGolden
  extract_lets u
  have hu : u.imageIs im0 := by
    unfold u
    refine .foldl ?_ fun u1 _ hu1 => ?_
    · exact h
    · split
      · exact hu1.put.put.put.classOpen.showGates
      · exact hu1
  exact hu.sgShowPool

end Sys2Proof.Machine
end

/-!
PROOFS. The canonical form (O5) through the state's own operations, feeds and scene clocks.
-/

section
namespace Sys2Proof.Machine

/-! ### Registers and memory -/

theorem State.wf.inc {s : State} {b : Nat} {f : Fld} {n : Nat} (h : s.wf) : (s.inc b f n).wf := h.put

theorem State.wf.putI {s : State} {b : Nat} {f : Fld} {i : Int} (h : s.wf) : (s.putI b f i).wf := h.put

theorem State.wf.fresh {s : State} (h : s.wf) : s.fresh.2.wf := h.update

theorem State.wf.emit {s : State} {o : Output} (h : s.wf) : (s.emit o).wf := h.update

theorem State.wf.atSlice {s : State} {n : Nat} {f : State → State} (h : s.wf) (hf : ∀ u, u.wf → (f u).wf) :
    (s.atSlice n f).wf := (hf s h).ite h

theorem State.wf.atPort {s : State} {l : Nat} {f : State → State} (h : s.wf) (hf : ∀ u, u.wf → (f u).wf) :
    (s.atPort l f).wf := (hf s h).ite h

theorem State.wf.freeRange {s : State} {a n : Nat} (h : s.wf) : (s.freeRange a n).wf := h.setMemBytes.update

theorem State.wf.setMemWord {s : State} {a w : Nat} (h : s.wf) : (s.setMemWord a w).wf := h.setMemBytes

theorem State.wf.setMemWords {s : State} {a : Nat} {ws : List Nat} (h : s.wf) : (s.setMemWords a ws).wf :=
  h.setMemBytes

/-! ### Event flags and counters -/

theorem State.wf.raise {s : State} {b : Nat} {f : Fld} {i : Nat} (h : s.wf) : (s.raise b f i).wf := h.put

theorem State.wf.overflow {s : State} {a : Nat} (h : s.wf) : (s.overflow a).wf := by
  unfold State.overflow
  split
  · exact h.raise
  · split
    · exact h.raise
    · exact h

theorem State.wf.add {s : State} {b : Nat} {f : Fld} {n : Nat} (h : s.wf) : (s.add b f n).wf :=
  h.put.ite h.put.overflow

theorem State.wf.bump {s : State} {b : Nat} {f : Fld} (h : s.wf) : (s.bump b f).wf := h.add

/-! ### Rings, event messages and the journal -/

theorem State.wf.formEvent {s : State} {kind : Nat} {body : Bytes} (h : s.wf) : (s.formEvent kind body).wf :=
  h.update.update.ite (h.update.bump.update.ite h.update.bump)

theorem State.wf.setRing {s : State} {r : Nat} {x : RingState} (h : s.wf) : (s.setRing r x).wf := h.update

theorem State.wf.ringEvent {s : State} {r : Nat} (h : s.wf) : (s.ringEvent r).wf := h.setRing.formEvent

theorem State.wf.ringAdvance {s : State} {r : Nat} (h : s.wf) : (s.ringAdvance r).wf :=
  h.setRing.ringEvent.ite h.setRing

theorem State.wf.ringPut {s : State} {r : Nat} {ws : List Nat} (h : s.wf) : (s.ringPut r ws).wf :=
  (h.setMemWords.put.bump.raise.ite h.setMemWords.put.bump).ringAdvance

theorem State.wf.settleBucket {s : State} {src n : Nat} (h : s.wf) : (s.settleBucket src n).wf := h.update

theorem State.wf.jrWrite {s : State} {sev : Nat} {ws : List Nat} (h : s.wf) : (s.jrWrite sev ws).wf :=
  h.ringPut.inc.bump.formEvent.ite h.ringPut.inc.bump

theorem State.wf.jrRef {s : State} (h : s.wf) : s.jrRef.wf := h.jrWrite.update.ite h

theorem State.wf.jrEntry {s : State} {src : Nat} {r : Report} {coalesced : Bool} {count first last lost : Nat}
    (h : s.wf) : (s.jrEntry src r coalesced count first last lost).wf :=
  h.jrRef.jrWrite

theorem State.wf.setCoal {s : State} {src : Nat} {c : Option Coalescer} (h : s.wf) : (s.setCoal src c).wf :=
  h.update.put.put

theorem State.wf.jrFold {s : State} {src : Nat} {r : Report} (h : s.wf) : (s.jrFold src r).wf := by
  unfold State.jrFold
  extract_lets _ _ u u1 u2 u3
  have hu : u.wf := h.setCoal
  have hu1 : u1.wf := hu.put.put
  have hu2 : u2.wf := hu1.put.put
  have hu3 : u3.wf := hu2.put.put
  split
  · exact hu3.put
  · exact h.setCoal.put.put.put.ite h.setCoal.put.put.put.put

theorem State.wf.reportAs {s : State} {src : Nat} {r : Report} (h : s.wf) : (s.reportAs src r).wf :=
  h.bump.settleBucket.jrEntry.ite h.bump.update.jrFold

theorem State.wf.report {s : State} {src code kind object detail : Nat} (h : s.wf) :
    (s.report src code kind object detail).wf :=
  h.reportAs

theorem State.wf.reportOther {s : State} {src kind object detail : Nat} (h : s.wf) :
    (s.reportOther src kind object detail).wf :=
  h.report

theorem State.wf.jrFlush {s : State} {src spare : Nat} (h : s.wf) : (s.jrFlush src spare).wf := by
  unfold State.jrFlush
  split
  · exact h
  · exact h.settleBucket.jrEntry.bump.setCoal.put.put.put.put.put.put.put.ite h

theorem State.wf.jrPass {s : State} (h : s.wf) : s.jrPass.wf :=
  .ite (.update (.bump (.jrEntry (.foldl h fun _ _ hu => hu.jrFlush)))) h

theorem State.wf.limited {s : State} {key n : Nat} {mk : Nat → State → State} (h : s.wf)
    (hmk : ∀ c u, u.wf → (mk c u).wf) : (s.limited key n mk).wf := (hmk _ _ h.update).ite h.update

/-! ### Segments of a scene clock -/

theorem State.wf.putStamp {s : State} {b : Nat} {fs fn ff : Fld} {q : Nat} (h : s.wf) : (s.putStamp b fs fn ff q).wf :=
  h.put.put.put

theorem State.wf.setScene {s : State} {c : Nat} {x : SceneState} (h : s.wf) : (s.setScene c x).wf := h.update

theorem State.wf.putQueueSeg {s : State} {c k : Nat} {g : Segment} (h : s.wf) : (s.putQueueSeg c k g).wf :=
  h.put.put.putStamp.put.put.putStamp.put.put

theorem State.wf.setQueueSegs {s : State} {c : Nat} {gs : List Segment} (h : s.wf) : (s.setQueueSegs c gs).wf :=
  .put (.foldl h.clearWords fun _ _ hu => hu.putQueueSeg)

theorem State.wf.moveSegments {s : State} {c : Nat} {d : Int} (h : s.wf) : (s.moveSegments c d).wf := by
  unfold State.moveSegments
  extract_lets _ u
  have hu : u.wf := by
    unfold u
    split
    · exact h.putStamp
    · exact h
  exact hu.setQueueSegs

/-! ### Counters, windows and samples -/

theorem State.wf.setWindow {s : State} {l : Nat} {w : Option Window} (h : s.wf) : (s.setWindow l w).wf := h.update

theorem State.wf.evCount {s : State} {l code : Nat} {cls : Option Nat} {n : Nat} (h : s.wf) :
    (s.evCount l code cls n).wf :=
  .foldl h fun _ _ hu => hu.add.ite hu

theorem State.wf.bwEvent {s : State} {l code : Nat} {cls : Option Nat} {n : Nat} (h : s.wf) :
    (s.bwEvent l code cls n).wf := by
  unfold State.bwEvent
  split
  · exact h
  · exact h.setWindow.ite h

theorem State.wf.event {s : State} {l code : Nat} {cls : Option Nat} {n : Nat} (h : s.wf) :
    (s.event l code cls n).wf :=
  h.evCount.bwEvent

theorem State.wf.countRx {s : State} {l bytes : Nat} (h : s.wf) : (s.countRx l bytes).wf := by
  unfold State.countRx
  extract_lets u
  have hu : u.wf := h.bump.add
  split
  · exact hu
  · exact hu.setWindow

theorem State.wf.windowTx {s : State} {l bytes : Nat} {cls : Option Nat} {launch : Bool} (h : s.wf) :
    (s.windowTx l bytes cls launch).wf := by
  unfold State.windowTx
  split
  · exact h
  · exact h.setWindow.bwEvent.bwEvent.bwEvent.ite h.setWindow.bwEvent.bwEvent

theorem State.wf.countTx {s : State} {l bytes : Nat} {cls : Option Nat} {launch : Bool} (h : s.wf) :
    (s.countTx l bytes cls launch).wf :=
  h.bump.add.evCount.evCount.evCount.ite h.bump.add.evCount.evCount

theorem State.wf.sample {s : State} {l : Nat} {x : Sample} (h : s.wf) : (s.sample l x).wf :=
  ((h.update.inc.fresh.update.put.ite h.update.inc.bump).ite h.update).ite h

/-! ### Cell time -/

theorem State.wf.setCell {s : State} {c : Nat} {x : CellState} (h : s.wf) : (s.setCell c x).wf := h.update

/-! ### The egress side of a port -/

theorem State.wf.setWire {s : State} {l : Nat} {w : Wire} (h : s.wf) : (s.setWire l w).wf := h.update

theorem State.wf.setQueue {s : State} {l k : Nat} {q : List EgFrame} (h : s.wf) : (s.setQueue l k q).wf := h.update

theorem State.wf.setFlow {s : State} {l f : Nat} {q : List EgFrame} (h : s.wf) : (s.setFlow l f q).wf := h.update

theorem State.wf.setCredit {s : State} {l k : Nat} {c : Credit} (h : s.wf) : (s.setCredit l k c).wf := h.update

theorem State.wf.setGateLists {s : State} {l : Nat} {g : GateLists} (h : s.wf) : (s.setGateLists l g).wf := h.update

theorem State.wf.setMerge {s : State} {l : Nat} {m : MergeState} (h : s.wf) : (s.setMerge l m).wf := h.update

theorem State.wf.headChanged {s : State} {l f n : Nat} {wasEmpty : Bool} (h : s.wf) :
    (s.headChanged l f n wasEmpty).wf :=
  h.put.put

theorem State.wf.groupIdle {s : State} {l : Nat} (h : s.wf) : (s.groupIdle l).wf := by
  unfold State.groupIdle
  split
  · extract_lets _
    split
    · exact h
    · exact h.put.setMerge
  · exact h

theorem State.wf.recredit {s : State} {l : Nat} (h : s.wf) : (s.recredit l).wf :=
  .foldl h fun _ _ hu => hu.setCredit.ite hu

theorem State.wf.noteDepth {s : State} {l k : Nat} (h : s.wf) : (s.noteDepth l k).wf := h.setCredit

theorem State.wf.takeRelay {s : State} {l k : Nat} (h : s.wf) : (s.takeRelay l k).wf := h.inc

theorem State.wf.freeRelay {s : State} {l k : Nat} (h : s.wf) : (s.freeRelay l k).wf := h.put

theorem State.wf.journalOversize {s : State} {l k : Nat} {stream : Option Nat} (h : s.wf) :
    (s.journalOversize l k stream).wf := by
  unfold State.journalOversize
  split
  · exact .limited h (fun _ _ hu => hu.report)
  · exact .limited h (fun _ _ hu => hu.report)

theorem State.wf.dropOversize {s : State} {l k : Nat} {f : EgFrame} (h : s.wf) : (s.dropOversize l k f).wf :=
  h.bump.raise.event.freeRelay.journalOversize

theorem State.wf.append {s : State} {l k : Nat} {f : EgFrame} (h : s.wf) : (s.append l k f).wf := by
  unfold State.append
  split
  · split
    · exact (h.bump.ite h).bump.freeRelay.ite ((h.bump.ite h).groupIdle.setFlow.headChanged.ite (h.bump.ite
        h).groupIdle.setFlow).noteDepth
  · exact h.setQueue.recredit.noteDepth

theorem State.wf.enqueue {s : State} {l k : Nat} {f : EgFrame} (h : s.wf) : (s.enqueue l k f).wf :=
  h.bump.event.freeRelay.ite (h.dropOversize.ite h.append)

theorem State.wf.relay {s : State} {l k : Nat} {f : EgFrame} (h : s.wf) : (s.relay l k f).wf :=
  h.takeRelay.enqueue.ite h.bump

theorem State.wf.sendOwn {s : State} {l : Nat} {b : Bytes} {own : OwnKind} (h : s.wf) : (s.sendOwn l b own).wf :=
  h.enqueue

/-! ### Stream table entries -/

theorem State.wf.streamMissed {s : State} {x : Nat} (h : s.wf) : (s.streamMissed x).wf := h.bump

/-! ### Fault items, cleanliness and the mode -/

theorem State.wf.noteClean {s : State} (h : s.wf) : s.noteClean.wf := h.ite h.update

theorem State.wf.setMode {s : State} {m c : Nat} (h : s.wf) : (s.setMode m c).wf :=
  (h.put.put.put.put.bump.raise.ite h.put.put.put.put.bump.raise.put).update.ite (h.put.put.put.put.bump.raise.ite
    h.put.put.put.put.bump.raise.put)

theorem State.wf.setSlice {s : State} {n st cause : Nat} (h : s.wf) : (s.setSlice n st cause).wf := h.put.put.put

/-! ### Hold memory and conversion -/

theorem State.wf.setFeed {s : State} {x : Nat} {f : FeedState} (h : s.wf) : (s.setFeed x f).wf := h.update

theorem State.wf.showSlot {s : State} {b : Nat} {x1 : Option (Nat × Nat)} (h : s.wf) : (s.showSlot b x1).wf := by
  unfold State.showSlot
  split
  · exact h.put.putStamp.put
  · exact h.put.putStamp.put

theorem State.wf.showFeed {s : State} {x : Nat} (h : s.wf) : (s.showFeed x).wf := h.put.showSlot

theorem State.wf.grantsDue {s : State} {p : Nat → Bool} (h : s.wf) : (s.grantsDue p).wf :=
  .foldl h fun _ _ hu => hu.setFeed.ite hu

theorem State.wf.pressure {s : State} {l : Nat} (h : s.wf) : (s.pressure l).wf := h.put.ite h.put.put.grantsDue

theorem State.wf.takeCells {s : State} {l x a c : Nat} (h : s.wf) : (s.takeCells l x a c).wf :=
  h.inc.inc.inc.inc.pressure

theorem State.wf.freeHeld {s : State} {h : Held} (hs : s.wf) : (s.freeHeld h).wf := hs.put.put.put.put.pressure

theorem State.wf.freeLaunch {s : State} {x : Launch} (h : s.wf) : (s.freeLaunch x).wf := by
  unfold State.freeLaunch
  split
  · exact h.freeHeld
  · exact h.freeRelay

theorem State.wf.dropHeld {s : State} {p : Held → Bool} (h : s.wf) : (s.dropHeld p).wf :=
  .foldl h.update fun _ _ hu => hu.freeHeld

theorem State.wf.dropLaunches {s : State} {p : Launch → Bool} (h : s.wf) : (s.dropLaunches p).wf :=
  .foldl h.update fun _ _ hu => hu.freeLaunch

theorem State.wf.freeRetained {s : State} {x : Nat} (h : s.wf) : (s.freeRetained x).wf :=
  .foldl h.setFeed fun _ _ hu => hu.freeHeld

theorem State.wf.noteFeed {s : State} {x which n : Nat} (h : s.wf) : (s.noteFeed x which n).wf :=
  h.setFeed.report.ite h.setFeed

theorem State.wf.checkEnded {s : State} {x : Nat} (h : s.wf) : (s.checkEnded x).wf := by
  unfold State.checkEnded
  split
  · exact h.put.freeRetained.setFeed.ite h
  · exact h

theorem State.wf.advanceTo {s : State} {x q : Nat} {slot : Option (Nat × Nat)} (h : s.wf) :
    (s.advanceTo x q slot).wf :=
  (h.setFeed.put.put.ite h.setFeed.put).checkEnded.showFeed

theorem State.wf.resolve {s : State} {x q e t : Nat} (h : s.wf) : (s.resolve x q e t).wf :=
  h.advanceTo.ite (h.setFeed.ite h)

theorem State.wf.resolveGone {s : State} {hs : List Held} (h : s.wf) : (s.resolveGone hs).wf :=
  .foldl h fun _ _ hu => hu.ite hu.resolve

theorem State.wf.noteLate {s : State} {x : Nat} {qs : List Nat} (h : s.wf) : (s.noteLate x qs).wf := h.setFeed

theorem State.wf.countLate {s : State} {x n : Nat} (h : s.wf) : (s.countLate x n).wf :=
  .noteFeed (.foldl h.add fun _ _ hu => hu.add.event)

theorem State.wf.formRepeat {s : State} {x q e t : Nat} (h : s.wf) : (s.formRepeat x q e t).wf := by
  conv in State.formRepeat => delta State.formRepeat
  extract_lets _ _ u
  have hu : u.wf := h.put.bump
  split
  · exact hu
  · exact hu.update

theorem State.wf.lateFail {s : State} {x : Nat} {slot : Option (Nat × Nat)} (h : s.wf) : (s.lateFail x slot).wf := by
  unfold State.lateFail
  extract_lets _ _ u _
  have hu : u.wf := h.countLate
  split
  · exact hu.put.setFeed.showFeed
  · exact hu.formRepeat.noteLate.advanceTo.ite hu.put.noteLate.advanceTo
  · exact hu.put.noteLate.advanceTo
  · exact hu.noteLate.advanceTo

theorem State.wf.failBelow {s : State} {x k : Nat} (h : s.wf) : (s.failBelow x k).wf :=
  h.ite (h.lateFail.ite (h.advanceTo.ite (h.countLate.put.ite h.countLate).noteLate.advanceTo))

theorem State.wf.convert {s : State} {x q : Nat} (h : s.wf) : (s.convert x q).wf := by
  unfold State.convert
  split
  · exact h
  · split
    · exact h
    · split
      · exact h
      · exact h.ite ((h.failBelow.ite h).ite (h.failBelow.ite h).update.resolve)

theorem State.wf.convertDue {s : State} {c : Nat} (h : s.wf) : (s.convertDue c).wf :=
  .foldl h fun _ _ hu => hu.convert

theorem State.wf.newEpoch {s : State} {c : Nat} (h : s.wf) : (s.newEpoch c).wf :=
  .foldl h fun _ _ hu => hu.freeRetained.setFeed.showFeed

theorem State.wf.holdChanged {s : State} {c : Nat} {ends : Bool} (h : s.wf) : (s.holdChanged c ends).wf :=
  .foldl h fun _ _ hu => hu.setFeed.showFeed

theorem State.wf.idleFeed {s : State} {x : Nat} (h : s.wf) : (s.idleFeed x).wf :=
  h.freeRetained.setFeed.put.put.put.showFeed

theorem State.wf.stopFeed {s : State} {x : Nat} (h : s.wf) : (s.stopFeed x).wf :=
  h.dropHeld.dropLaunches.put.freeRetained.showFeed

theorem State.wf.setD {s : State} {x d : Nat} (h : s.wf) : (s.setD x d).wf :=
  h.stopFeed.report.ite h.setFeed.showFeed

/-! ### Bank groups -/

theorem State.wf.putBit {s : State} {b : Nat} {f : Fld} {i : Nat} {v : Bool} (h : s.wf) : (s.putBit b f i v).wf :=
  h.put

theorem State.wf.recount {s t : State} (h : t.wf) : (s.recount t).wf := h.put

theorem State.wf.countCell {s : State} {i : Nat} (h : s.wf) : (s.countCell i).wf := by
  unfold State.countCell
  split
  · exact h.inc.pressure
  · exact h.inc
  · exact h

theorem State.wf.retireCell {s : State} {i : Nat} (h : s.wf) : (s.retireCell i).wf :=
  h.ite h.update.countCell.recount

theorem State.wf.setBank {s : State} {b : Nat} {on : Bool} (h : s.wf) : (s.setBank b on).wf :=
  (h.putBit.ite h.putBit.loseMemory).recount

/-! ### Access -/

theorem State.wf.amapMismatch {s : State} {i : Nat} (h : s.wf) : (s.amapMismatch i).wf :=
  State.wf.report (h.relayout (image := { s.image with
    amap := s.image.amap.modify i (fun r => { r with dead := true }) }) rfl rfl)

theorem State.wf.mapDecides {s : State} {q : Nat} {g : Right} {a n : Nat} (h : s.wf) : (s.mapDecides q g a n).2.wf := by
  unfold State.mapDecides
  split
  · exact h
  · split
    · split
      · exact h
      · exact h.amapMismatch
    · exact h

theorem State.wf.hasRight {s : State} {q : Nat} {g : Right} {a n : Nat} (h : s.wf) : (s.hasRight q g a n).2.wf := by
  unfold State.hasRight
  split
  · exact h.mapDecides
  · exact h

theorem State.wf.permit {s : State} {q : Nat} {g : Right} {a n : Nat} (h : s.wf) : (s.permit q g a n).2.wf := by
  unfold State.permit
  extract_lets _
  split
  · exact h
  · exact h.hasRight

theorem State.wf.countDenied {s : State} {st : Nat} (h : s.wf) : (s.countDenied st).wf := h.bump.ite h

theorem State.wf.amapCheck {s : State} (h : s.wf) : s.amapCheck.2.wf := by
  unfold State.amapCheck
  refine .foldl_snd ?_ fun r _ hr => ?_
  · exact h
  · split
    · split
      · exact hr
      · exact hr.amapMismatch
    · exact hr

/-! ### Envelopes, late tests, sources and grants -/

theorem State.wf.seen {s : State} {x : Nat} (h : s.wf) : (s.seen x).wf := h.put.put.update

theorem State.wf.countStale {s : State} {x q : Nat} (h : s.wf) : (s.countStale x q).wf := h.bump.ite h.bump

theorem State.wf.holdFull {s : State} {x l : Nat} {port : Bool} (h : s.wf) : (s.holdFull x l port).wf :=
  .ite (.limited h.bump.noteFeed.bump.event (fun _ _ hu => hu.report)) h.bump.noteFeed

theorem State.wf.fileCopy {s : State} {x l : Nat} {h : Held} (hs : s.wf) : (s.fileCopy x l h).2.wf := by
  unfold State.fileCopy
  extract_lets _ u _
  have hu : u.wf := hs.dropHeld
  split
  · exact hs.streamMissed
  · split
    · exact hs.holdFull
    · split
      · exact hs.holdFull
      · exact hu.takeCells.update

theorem State.wf.filed {s : State} {x : Nat} {h : Held} (hs : s.wf) : (s.filed x h).wf := by
  unfold State.filed
  extract_lets u _ u1 u2
  have hu : u.wf := hs.put.put.ite hs
  have hu1 : u1.wf := hu.setFeed
  have hu2 : u2.wf := by
    unfold u2
    split
    · exact (hu1.put.ite hu1).ite hu
    · exact hu
  exact hu2.bump.seen.showFeed

theorem State.wf.file {s : State} {x : Nat} {h : Held} (hs : s.wf) : (s.file x h).2.wf := by
  unfold State.file
  split
  · rename_i _ _ u hr
    have hu : u.wf := snd_wf hr (.foldl_snd hs fun _ _ hu => hu.fileCopy)
    split
    · exact hu.filed
    · exact hu

theorem State.wf.heldUp {s : State} {x : Nat} {h : Held} (hs : s.wf) : (s.heldUp x h).wf := by
  unfold State.heldUp
  split
  · exact hs.put.setFeed.setD
  · exact hs

theorem State.wf.arriveLate {s : State} {x : Nat} {h : Held} (hs : s.wf) : (s.arriveLate x h).wf := by
  unfold State.arriveLate
  extract_lets _ u u1
  have hu : u.wf := hs.ite hs.failBelow
  have hu1 : u1.wf := hu.ite hu.countLate
  split
  · split
    · rename_i _ u2 hr
      have hu2 : u2.wf := snd_wf hr hu1.file
      exact hu2.heldUp.ite hu2
    · rename_i _ u2 hr
      exact snd_wf hr hu1.file
  · exact hu.lateFail.ite hu

theorem State.wf.acceptFrame {s : State} {x : Nat} {e : Envelope} (h : s.wf) : (s.acceptFrame x e).wf := by
  unfold State.acceptFrame
  extract_lets _ _ _ _ _
  split
  · exact h.bump
  · split
    · exact h.bump
    · split
      · exact h.countStale
      · split
        · exact h.bump
        · split
          · exact h.bump.noteFeed
          · split
            · exact h.arriveLate
            · split
              · rename_i _ u hr
                have hu : u.wf := snd_wf hr h.file
                exact hu.put.setFeed.ite hu
              · rename_i _ u hr
                exact snd_wf hr h.file

theorem State.wf.acceptHeartbeat {s : State} {x n : Nat} {e : Envelope} (h : s.wf) : (s.acceptHeartbeat x n e).wf :=
  h.bump.ite (h.countStale.ite (((h.seen.bump.put.put.ite h.seen.bump).noteLate.advanceTo.ite
    (h.seen.bump.put.put.ite h.seen.bump)).ite ((h.seen.bump.put.put.ite h.seen.bump).noteLate.advanceTo.ite
    (h.seen.bump.put.put.ite h.seen.bump)).setFeed).showFeed)

theorem State.wf.acceptEnd {s : State} {x n : Nat} {e : Envelope} (h : s.wf) : (s.acceptEnd x n e).wf :=
  (h.seen.bump.put.put.ite h.seen.bump).setFeed.checkEnded

theorem State.wf.acceptRequest {s : State} {x n : Nat} (h : s.wf) : (s.acceptRequest x n).wf :=
  h.seen.bump.ite h.seen.setFeed

theorem State.wf.envelope {s : State} {l : Nat} {e : Envelope} (h : s.wf) : (s.envelope l e).wf := by
  unfold State.envelope
  extract_lets _
  split
  · exact h.bump
  · exact h.bump.acceptFrame.ite (h.acceptHeartbeat.ite (h.acceptEnd.ite h.acceptRequest))

theorem State.wf.receiveEnvelope {s : State} {l : Nat} {b : Bytes} {kind : Nat} (h : s.wf) :
    (s.receiveEnvelope l b kind).wf := by
  unfold State.receiveEnvelope
  split
  · exact h.countRx.envelope
  · exact h

theorem State.wf.lateTest {s : State} {x : Nat} (h : s.wf) : (s.lateTest x).wf := by
  unfold State.lateTest
  extract_lets _
  split
  · exact h
  · split
    · exact h
    · split
      · exact h
      · exact h.lateFail.ite h

theorem State.wf.holdLimit {s : State} {x : Nat} (h : s.wf) : (s.holdLimit x).wf := by
  unfold State.holdLimit
  split
  · exact h.countLate.noteLate.advanceTo.ite h
  · exact h

theorem State.wf.formGrant {s : State} {x : Nat} {r : Grant × State} (h : s.wf) (hr : s.formGrant x = some r) :
    r.2.wf := by
  unfold State.formGrant at hr
  dsimp only at hr
  split at hr
  · cases hr
  · split at hr
    · cases hr
    · cases hr
      exact h.setFeed

theorem State.wf.sendGrants {s : State} {n i : Nat} {gs : List Grant} (h : s.wf) : (s.sendGrants n i gs).wf :=
  .ite (.foldl h fun _ _ hu => hu.add.bump.relay) h

theorem State.wf.formGrants {s : State} {xs : List Nat} (h : s.wf) : (s.formGrants xs).2.wf := by
  unfold State.formGrants
  refine .foldl_snd h fun r _ hu => ?_
  split
  · rename_i heq
    exact hu.formGrant heq
  · exact hu

theorem State.wf.grantPeriod {s : State} {n i : Nat} (h : s.wf) : (s.grantPeriod n i).wf :=
  h.update.formGrants.sendGrants.ite h

theorem State.wf.grantEvents {s : State} {n i : Nat} (h : s.wf) : (s.grantEvents n i).wf :=
  .ite (.sendGrants (.formGrants (.foldl h fun _ _ hu => hu.setFeed))) h

theorem State.wf.grantAnswer {s : State} {x : Nat} (h : s.wf) : (s.grantAnswer x).wf := by
  unfold State.grantAnswer
  dsimp only
  refine State.wf.ite ?_ h
  split
  · rename_i heq
    exact (h.setFeed.formGrant heq).sendGrants
  · exact h.setFeed

theorem State.wf.sourceTimeout {s : State} {n i : Nat} (h : s.wf) : (s.sourceTimeout n i).wf :=
  h.update.put.report.ite h

theorem State.wf.copyWords {s : State} {dst src o n : Nat} (h : s.wf) : (s.copyWords dst src o n).wf := by
  induction n generalizing s o with
  | zero => exact h
  | succ n ih => exact ih h.setWord

theorem State.wf.feedRead {s : State} (h : s.wf) : s.feedRead.wf := h.showFeed.copyWords.put

theorem State.wf.feedWrite {s : State} (h : s.wf) : s.feedWrite.wf :=
  (h.copyWords.stopFeed.ite (h.copyWords.idleFeed.ite h.copyWords)).put.ite h.put

theorem State.wf.feedClear {s : State} (h : s.wf) : s.feedClear.wf := .put (.foldl h fun _ _ hu => hu.put)

theorem State.wf.feedReset {s : State} (h : s.wf) : s.feedReset.wf := h.setD.put

/-! ### Scene clocks -/

theorem State.wf.discarded {s : State} {c : Nat} {f : Fld} {n : Nat} (h : s.wf) : (s.discarded c f n).wf :=
  h.ite h.add.raise

theorem State.wf.discardHeld {s : State} {c : Nat} {f : Fld} {p : Held → Bool} (h : s.wf) : (s.discardHeld c f p).wf :=
  h.dropHeld.discarded.resolveGone

theorem State.wf.segResult {s : State} {c tag status index flushed : Nat} {adj : Bool} (h : s.wf) :
    (s.segResult c tag status index flushed adj).wf :=
  h.put.inc.put.put.put.put

theorem State.wf.sceneChanged {s : State} {c : Nat} (h : s.wf) : (s.sceneChanged c).wf := h.update

theorem State.wf.push {s : State} {c kind tag : Nat} (h : s.wf) : (s.push c kind tag).wf :=
  ((h.setScene.ite h).putQueueSeg.put.putStamp.raise.ite (h.setScene.ite
    h).putQueueSeg.put.putStamp).sceneChanged.segResult.ite h.segResult

theorem State.wf.flush {s : State} {c tag : Nat} (h : s.wf) : (s.flush c tag).wf :=
  h.segResult.ite (h.segResult.ite h.setQueueSegs.discardHeld.sceneChanged.segResult)

theorem State.wf.segNop {s : State} {c tag : Nat} (h : s.wf) : (s.segNop c tag).wf := h.segResult

theorem State.wf.segCommand {s : State} {c w : Nat} (h : s.wf) : (s.segCommand c w).wf := by
  unfold State.segCommand
  extract_lets _
  split
  · exact h.segNop
  · exact h.push
  · exact h.flush
  · exact h.segResult

theorem State.wf.putCurSeg {s : State} {c : Nat} {g : Segment} (h : s.wf) : (s.putCurSeg c g).wf :=
  h.putStamp.put.putStamp.put.put.put

theorem State.wf.endEpoch {s : State} {c old prev : Nat} {g : Segment} (h : s.wf) : (s.endEpoch c old prev g).wf :=
  h.update.add.ite h.discardHeld

theorem State.wf.endHold {s : State} {c p : Nat} (h : s.wf) : (s.endHold c p).wf := by
  unfold State.endHold
  split
  · exact h.inc.setScene.put.holdChanged
  · exact h

theorem State.wf.switchFrom {s : State} {c : Nat} {f g : Segment} (h : s.wf) : (s.switchFrom c f g).wf := by
  unfold State.switchFrom
  extract_lets _ _ _ _ _ u u1 u2 u3 u4 _ u5
  have hu : u.wf := h.setScene
  have hu1 : u1.wf := hu.inc.ite hu
  have hu2 : u2.wf := hu1.inc.ite hu1
  have hu3 : u3.wf := (hu2.discardHeld.ite hu2).ite hu2.endEpoch.newEpoch.raise
  have hu4 : u4.wf := hu3.endHold.ite hu3
  have hu5 : u5.wf := hu4.setScene.put
  exact hu5.holdChanged.ite hu4

theorem State.wf.segmentSwitch {s : State} {c : Nat} (h : s.wf) : (s.segmentSwitch c).wf := by
  unfold State.segmentSwitch
  split
  · split
    · extract_lets _ u u1 u2 u3
      have hu : u.wf := h.convertDue
      have hu1 : u1.wf := by
        unfold u1
        split
        · exact hu.switchFrom
        · exact hu.put.newEpoch.raise
      have hu2 : u2.wf := hu1.putCurSeg.setQueueSegs
      have hu3 : u3.wf := hu2.raise
      exact hu3.raise.ite hu3
    · exact h
  · exact h

theorem State.wf.disableScene {s : State} {c : Nat} (h : s.wf) : (s.disableScene c).wf :=
  .foldl h.endHold.dropLaunches.discarded.discardHeld.setQueueSegs.put fun _ _ hu => hu.idleFeed

theorem State.wf.cellCtrl {s : State} {c w : Nat} (h : s.wf) : (s.cellCtrl c w).wf :=
  h.put.put.put.put.put.put.put.put.disableScene.ite (h.put.put.put.put.put.put.put.put.setScene.put.ite
    h.put.put.put.put.put.put.put.put)

theorem State.wf.cellEnable {s : State} {c : Nat} {en : Bool} (h : s.wf) : (s.cellEnable c en).wf :=
  h.cellCtrl.ite h

theorem State.wf.scNowRead {s : State} {c : Nat} (h : s.wf) : (s.scNowRead c).wf := h.put.put.put.put

theorem State.wf.sceneSync {s : State} {c l : Nat} (h : s.wf) : (s.sceneSync c l).wf := h.setScene.inc.sendOwn.ite h

theorem State.wf.sceneFollowUp {s : State} {c l seq te : Nat} (h : s.wf) : (s.sceneFollowUp c l seq te).wf :=
  h.sendOwn

theorem State.wf.sceneAnnounce {s : State} {c l : Nat} (h : s.wf) : (s.sceneAnnounce c l).wf :=
  h.setScene.put.put.sendOwn.ite h

end Sys2Proof.Machine
end

/-!
PROOFS. The canonical form (O5) through launch, transmission, time and cycles.
-/

section
namespace Sys2Proof.Machine

/-! ### Fault injectors -/

theorem State.wf.setInjector {s : State} {l k : Nat} {x : Injector} (h : s.wf) : (s.setInjector l k x).wf :=
  h.update.put

theorem State.wf.countInjected {s : State} {l k : Nat} (h : s.wf) : (s.countInjected l k).wf := h.bump.setInjector

theorem State.wf.checkLimit {s : State} {l k : Nat} (h : s.wf) : (s.checkLimit l k).wf := h.put.put.put.ite h

theorem State.wf.injected {s : State} {l k : Nat} (h : s.wf) : (s.injected l k).wf := h.countInjected.checkLimit

theorem State.wf.meetOne {s : State} {l k dir : Nat} {f : InjFrame} (h : s.wf) : (s.meetOne l k dir f).1.wf := by
  unfold State.meetOne
  extract_lets -underBinder _ u _
  have hu : u.wf := h.inc
  split
  · exact h
  · split
    · exact hu.setInjector
    · extract_lets -underBinder u1
      have hu1 : u1.wf := hu.setInjector
      split
      · exact hu1
      · split
        · exact hu1.injected
        · extract_lets -underBinder _
          split
          · exact hu1
          · exact hu1.injected
        · exact hu1.countInjected

theorem State.wf.meet {ks : List Nat} {s : State} {l dir : Nat} {f : InjFrame} (h : s.wf) :
    (State.meet ks s l dir f).1.wf := by
  induction ks generalizing s f with
  | nil => exact h
  | cons k ks ih =>
    unfold State.meet
    split
    · rename_i heq
      exact ih (fst_wf heq h.meetOne)
    · exact h.meetOne

theorem State.wf.inject {s : State} {l dir i : Nat} {f : InjFrame} (h : s.wf) : (s.inject l dir i f).1.wf := by
  unfold State.inject
  split
  · exact h.meet
  · exact h

theorem State.wf.holdFrame {s : State} {l k : Nat} {h : InjHeld} (hs : s.wf) : (s.holdFrame l k h).wf :=
  hs.setInjector

/-! ### Staging and launch -/

theorem State.wf.stage {s : State} {l : Nat} (h : s.wf) : (s.stage l).wf := by
  unfold State.stage
  split
  · exact h
  · exact h.update.ite (h.update.ite (h.update.bump.raise.ite h.update))

theorem State.wf.journalMiss {s : State} {l cause : Nat} (h : s.wf) : (s.journalMiss l cause).wf :=
  h.update.report.ite h.update

theorem State.wf.takeLaunch {s : State} {l : Nat} (h : s.wf) : (s.takeLaunch l).wf := h.update

theorem State.wf.miss {s : State} {l : Nat} {x : Launch} {cause : Nat} (h : s.wf) : (s.miss l x cause).wf :=
  (h.takeLaunch.freeLaunch.bump.raise.raise.ite
    h.takeLaunch.freeLaunch.bump.raise).streamMissed.event.journalMiss.sample

theorem State.wf.late {s : State} {l : Nat} {x : Launch} (h : s.wf) : (s.late l x).wf := h.bump.raise.event

theorem State.wf.lateDrop {s : State} {l : Nat} {x : Launch} {start : Nat} (h : s.wf) : (s.lateDrop l x start).wf :=
  h.takeLaunch.freeLaunch.late.bump.raise.sample

theorem State.wf.digest {s : State} {l : Nat} {x : Launch} {rtag : Nat} (h : s.wf) : (s.digest l x rtag).wf :=
  h.update

theorem State.wf.realLaunch {s : State} {l : Nat} {x : Launch} (h : s.wf) : (s.realLaunch l x).wf :=
  .ite (.foldl h.put.setFeed fun _ _ hu => hu.freeHeld) h

theorem State.wf.startLaunch {s : State} {l : Nat} {x : Launch} {b : Bytes} {start : Nat} {dropped : Bool}
    (h : s.wf) : (s.startLaunch l x b start dropped).wf :=
  ((((h.digest.ite h).takeLaunch.realLaunch.bump.late.put.ite (h.digest.ite h).takeLaunch.realLaunch.bump.late).ite
    (h.digest.ite h).takeLaunch.realLaunch.bump).ite (((h.digest.ite h).takeLaunch.realLaunch.bump.late.put.ite
    (h.digest.ite h).takeLaunch.realLaunch.bump.late).ite (h.digest.ite
    h).takeLaunch.realLaunch.bump).windowTx).setWire.recredit

theorem State.wf.launch {s : State} {l : Nat} (h : s.wf) : (s.launch l).wf := by
  unfold State.launch
  split
  · exact h
  · split
    · exact h
    · split
      · exact h.miss
      · exact h
      · extract_lets _ _
        split
        · exact h
        · split
          · exact h.lateDrop
          · split
            · rename_i _ u _ hr
              have hu : u.wf := fst_wf hr h.inject
              exact hu.startLaunch
            · rename_i _ u hr
              have hu : u.wf := fst_wf hr h.inject
              exact hu.startLaunch
            · rename_i _ u _ _ hr
              have hu : u.wf := fst_wf hr h.inject
              exact hu.takeLaunch.holdFrame

theorem State.wf.rwRead {s : State} {n : Nat} (h : s.wf) : (s.rwRead n).wf := by
  unfold State.rwRead
  extract_lets _
  split
  · exact h.put
  · exact h.put.put.put.put.put

theorem State.wf.rwWrite {s : State} {n : Nat} (h : s.wf) : (s.rwWrite n).wf := by
  unfold State.rwWrite
  extract_lets _ _ _ _ _
  split
  · exact h.put
  · exact h.put.put.put.put.put.ite h.put

/-! ### Gate list commands -/

theorem State.wf.gateResult {s : State} {l tag status : Nat} {adjusted replaced : Bool} (h : s.wf) :
    (s.gateResult l tag status adjusted replaced).wf :=
  h.put.inc.put.put.put

theorem State.wf.showCct {s : State} {l q : Nat} (h : s.wf) : (s.showCct l q).wf := h.put.put

theorem State.wf.gateChange {s : State} {l tag : Nat} (h : s.wf) : (s.gateChange l tag).wf :=
  (h.setGateLists.showCct.put.bump.ite h.setGateLists.showCct.put).gateResult.ite h.gateResult

theorem State.wf.gateCancel {s : State} {l tag : Nat} (h : s.wf) : (s.gateCancel l tag).wf := by
  unfold State.gateCancel
  extract_lets _ u
  have hu : u.wf := h.setGateLists.showCct
  split
  · exact h.gateResult
  · exact h.gateResult.ite hu.put.gateResult

theorem State.wf.gateCmd {s : State} {l op tag : Nat} (h : s.wf) : (s.gateCmd l op tag).wf := by
  unfold State.gateCmd
  split
  · exact h.gateResult
  · exact h.gateChange
  · exact h.gateCancel
  · exact h.gateResult

theorem State.wf.setHold {s : State} {l : Nat} {on : Bool} (h : s.wf) : (s.setHold l on).wf :=
  h.put.put.bump.ite h.put.put

theorem State.wf.enterGate {s : State} {l i e : Nat} (h : s.wf) : (s.enterGate l i e).wf :=
  (h.put.put.setHold.ite (h.put.put.setHold.ite h.put.put)).recredit

theorem State.wf.gateEntry {s : State} {l : Nat} {intact : Bool} (h : s.wf) : (s.gateEntry l intact).wf := by
  unfold State.gateEntry
  extract_lets _
  split
  · exact h
  · exact h.ite (h.setGateLists.enterGate.ite h.setGateLists.raise.report)

theorem State.wf.applyGateEn {s : State} {l : Nat} (h : s.wf) : (s.applyGateEn l).wf :=
  h.ite (h.setGateLists.gateEntry.ite h.setGateLists.put.setHold.recredit)

theorem State.wf.classOpen {s : State} {l : Nat} {g : GateSet} (h : s.wf) : (s.classOpen l g).wf := by
  unfold State.classOpen
  refine .foldl ?_ fun u _ hu => ?_
  · exact h
  · split
    · exact hu.put.put
    · exact hu.put.put

theorem State.wf.gateApply {s : State} {l : Nat} (h : s.wf) : (s.gateApply l).wf := by
  unfold State.gateApply
  extract_lets _ _
  split
  · exact h
  · split
    · exact h
    · extract_lets u u1 u2 u3 u4 u5
      have hu : u.wf := by
        unfold u
        split
        · exact h
        · exact h.ite (h.raise.ite h.raise)
      have hu1 : u1.wf := hu.setGateLists
      have hu2 : u2.wf := hu1.put.put
      have hu3 : u3.wf := hu2.put.put
      have hu4 : u4.wf := hu3.put.put
      have hu5 : u5.wf := hu4.raise.bump
      exact hu5.classOpen.gateEntry

theorem State.wf.gateNext {s : State} {l : Nat} (h : s.wf) : (s.gateNext l).wf := h.inc.ite h

theorem State.wf.gateDataWrite {s : State} {l v : Nat} (h : s.wf) : (s.gateDataWrite l v).wf :=
  h.setGateLists.gateNext.ite h

/-! ### MAC merge and LLDP -/

theorem State.wf.setActive {s : State} {l : Nat} {on : Bool} (h : s.wf) : (s.setActive l on).wf :=
  h.ite h.put.raise.setMerge.recredit

theorem State.wf.startVerify {s : State} {l : Nat} (h : s.wf) : (s.startVerify l).wf :=
  h.put.ite (h.put.setMerge.ite h.put)

theorem State.wf.refreshPe {s : State} {l : Nat} (h : s.wf) : (s.refreshPe l).wf :=
  (h.startVerify.ite h).ite (h.startVerify.ite h).put.put.put.setActive

theorem State.wf.verifySend {s : State} {l : Nat} (h : s.wf) : (s.verifySend l).wf :=
  h.ite (h.ite (h.put.raise.reportOther.ite h.setMerge.inc.sendOwn))

theorem State.wf.verifyReceive {s : State} {l : Nat} {response : Bool} (h : s.wf) : (s.verifyReceive l response).wf :=
  (h.put.refreshPe.ite h).ite (h.inc.sendOwn.ite h)

theorem State.wf.restartVerify {s : State} {l : Nat} (h : s.wf) : (s.restartVerify l).wf := h.startVerify.refreshPe

theorem State.wf.lldpSend {s : State} {l : Nat} (h : s.wf) : (s.lldpSend l).wf := h.setMerge.sendOwn.ite h

theorem State.wf.peerGone {s : State} {l : Nat} (h : s.wf) : (s.peerGone l).wf := h.put.put.put.put.refreshPe

theorem State.wf.lldpReceive {s : State} {l : Nat} {f : Bytes} (h : s.wf) : (s.lldpReceive l f).wf := by
  unfold State.lldpReceive
  extract_lets _
  split
  · exact h
  · split
    · exact h.peerGone.ite h.put.put.put.put.setMerge.refreshPe
    · exact h

theorem State.wf.lldpExpire {s : State} {l : Nat} (h : s.wf) : (s.lldpExpire l).wf := h.peerGone.ite h

/-! ### Transmission selection -/

theorem State.wf.dropQueueHeads {s : State} {l k : Nat} (h : s.wf) : (s.dropQueueHeads l k).wf :=
  .ite h (.foldl h.setQueue fun _ _ hu => hu.dropOversize)

theorem State.wf.dropFlowHeads {s : State} {l i k : Nat} {fs : List EgFrame} (h : s.wf) :
    (s.dropFlowHeads l i k fs).wf := by
  induction fs generalizing s with
  | nil => exact h
  | cons f q ih =>
    unfold State.dropFlowHeads
    dsimp only
    split
    · refine ih ?_
      split
      · exact h.setFlow.dropOversize.headChanged
      · exact h.setFlow.dropOversize
    · exact h

theorem State.wf.dropHeads {s : State} {l : Nat} (h : s.wf) : (s.dropHeads l).wf :=
  .foldl (.foldl h fun _ _ hu => hu.dropQueueHeads) fun _ _ hu => hu.dropFlowHeads

theorem State.wf.countDefer {s : State} {l k : Nat} (h : s.wf) : (s.countDefer l k).wf := h.bump.event

theorem State.wf.noteDeferred {s : State} {l : Nat} (h : s.wf) : (s.noteDeferred l).wf :=
  .foldl (.foldl h fun _ _ hu => hu.setQueue.countDefer.ite hu) fun _ _ hu => hu.setFlow.countDefer.ite hu

theorem State.wf.takePick {s : State} {l : Nat} {p : Pick} (h : s.wf) : (s.takePick l p).wf := by
  unfold State.takePick
  dsimp only
  split
  · exact h.setQueue
  · split
    · exact h.setFlow.put.setMerge.headChanged
    · exact h.setFlow.put.setMerge

theorem State.wf.startFrame {s : State} {l : Nat} {p : Pick} {b : Bytes} (h : s.wf) : (s.startFrame l p b).wf :=
  (h.windowTx.setMerge.ite h.windowTx).setWire

theorem State.wf.serve {s : State} {l : Nat} {p : Pick} (h : s.wf) : (s.serve l p).wf := by
  unfold State.serve
  extract_lets u _
  have hu : u.wf := h.noteDepth.takePick
  split
  · rename_i _ u1 _ hr
    have hu1 : u1.wf := fst_wf hr hu.inject
    exact hu1.startFrame
  · rename_i _ u1 hr
    have hu1 : u1.wf := fst_wf hr hu.inject
    exact hu1.freeRelay
  · rename_i _ u1 _ _ hr
    have hu1 : u1.wf := fst_wf hr hu.inject
    exact hu1.holdFrame

theorem State.wf.continuation {s : State} {l : Nat} {x : Tx} (h : s.wf) : (s.continuation l x).wf :=
  h.put.setWire.ite h

theorem State.wf.select {s : State} {l : Nat} (h : s.wf) : (s.select l).wf := by
  unfold State.select
  extract_lets _ u u1
  have hu : u.wf := h.dropHeads.noteDeferred
  have hu1 : u1.wf := by
    unfold u1
    split
    · exact hu.serve
    · exact hu.continuation
    · split
      · exact hu.serve
      · exact hu
  exact h.ite hu1.groupIdle.recredit

theorem State.wf.preempt {s : State} {l : Nat} (h : s.wf) : (s.preempt l).wf := by
  unfold State.preempt
  extract_lets _ _
  split
  · exact h
  · exact h.ite (h.emit.setWire.put.bump.event.bump.event.ite h.emit.setWire.put.bump.event).recredit

theorem State.wf.algoApply {s : State} {l k : Nat} (h : s.wf) : (s.algoApply l k).wf :=
  h.put.setCredit.recredit.ite h

theorem State.wf.qsClass {s : State} {l q k : Nat} (h : s.wf) : (s.qsClass l q k).wf :=
  h.setMerge.setCredit.update.put.ite h.setMerge.setCredit.bump

theorem State.wf.queueSample {s : State} {l : Nat} (h : s.wf) : (s.queueSample l).wf :=
  .ite (.ite h (.setMerge (.foldl h fun _ _ hu => hu.qsClass))) h.setMerge

/-! ### Time inputs and the servo -/

theorem State.wf.setInput {s : State} {i : Nat} {x : InputState} (h : s.wf) : (s.setInput i x).wf := h.update

theorem State.wf.selectInput {s : State} (h : s.wf) : s.selectInput.wf := h.put

theorem State.wf.showInput {s : State} {i : Nat} (h : s.wf) : (s.showInput i).wf :=
  (h.putI.put.put.put.ite h.putI.put.put).selectInput

theorem State.wf.measurePd {s : State} {i : Nat} {d : Int} (h : s.wf) : (s.measurePd i d).wf :=
  (h.putI.setInput.ite h.putI.setInput.put.put.put).report.showInput.ite h.putI.setInput.showInput

theorem State.wf.suspectEnd {s : State} {i : Nat} (h : s.wf) : (s.suspectEnd i).wf :=
  h.ite (h.put.put.put.showInput.ite (h.put.put.ite h.setInput.inc.put))

theorem State.wf.flushPd {s : State} {i : Nat} (h : s.wf) : (s.flushPd i).wf := h.setInput.showInput

theorem State.wf.clearFaulty {s : State} {i : Nat} (h : s.wf) : (s.clearFaulty i).wf := h.put.put.ite h

theorem State.wf.formAddend {s : State} (h : s.wf) : s.formAddend.wf := h.putI.putI

theorem State.wf.servoUpdate {s : State} {o : Int} {r : Nat} (h : s.wf) : (s.servoUpdate o r).wf :=
  h.update.formAddend.ite h.update.formAddend

theorem State.wf.enterHoldover {s : State} (h : s.wf) : s.enterHoldover.wf := h.update.put.raise.put.formAddend

theorem State.wf.showStep {s : State} {pending armed : Bool} (h : s.wf) : (s.showStep pending armed).wf :=
  h.put.put.put

theorem State.wf.withdrawStep {s : State} (h : s.wf) : s.withdrawStep.wf := h.showStep.raise.update

theorem State.wf.raiseStep {s : State} {o : Int} (h : s.wf) : (s.raiseStep o).wf :=
  h.putI.ite ((h.putI.update.put.showStep.ite h.putI.update.put.showStep.enterHoldover).raise.report.ite
    h.putI.update.put.showStep.update)

theorem State.wf.slew {s : State} {o : Int} {r : Nat} (h : s.wf) : (s.slew o r).wf := by
  unfold State.slew
  extract_lets u _ _ _ u1 u2
  have hu : u.wf := h.withdrawStep.ite h
  have hu1 : u1.wf := hu.update
  have hu2 : u2.wf := by
    unfold u2
    split
    · exact hu1.ite hu1.put.raise
    · exact hu1.put.ite hu1
    · exact hu1.put
  exact hu2.servoUpdate

theorem State.wf.offsetSample {s : State} {i : Nat} {o : Int} {seq : Nat} (h : s.wf) : (s.offsetSample i o seq).wf :=
  h.putI.put.put.update.raiseStep.ite h.putI.put.put.update.slew

theorem State.wf.syncReceive {s : State} {i domain seq origin : Nat} {corr : Int} {rx tick : Nat} {log : Int}
    (h : s.wf) : (s.syncReceive i domain seq origin corr rx tick log).wf :=
  h.ite ((h.setInput.bump.ite h.setInput).selectInput.update.offsetSample.ite (h.setInput.bump.ite
    h.setInput).selectInput)

theorem State.wf.ppsEdge {s : State} {falling : Bool} (h : s.wf) : (s.ppsEdge falling).wf :=
  (h.put.put.put.put.setInput.selectInput.offsetSample.ite h.put.put.put.put.setInput.selectInput).ite h

theorem State.wf.holdoverTimeout {s : State} (h : s.wf) : s.holdoverTimeout.wf :=
  (h.ite (h.setInput.selectInput.enterHoldover.report.ite h.setInput.selectInput.update)).ite h

theorem State.wf.commitAddend {s : State} {v : Nat} (h : s.wf) : (s.commitAddend v).2.wf := by
  unfold State.commitAddend
  split
  · exact h.put.formAddend
  · exact h

theorem State.wf.applyRole {s : State} (h : s.wf) : s.applyRole.wf := h.ite h.update.put.selectInput.formAddend

theorem State.wf.stepAuth {s : State} {seq : Nat} (h : s.wf) : (s.stepAuth seq).2.wf := by
  unfold State.stepAuth
  split
  · exact h.put.showStep.update
  · exact h.raise

/-! ### Messages of the physical domain -/

theorem State.wf.physSync {s : State} {l : Nat} (h : s.wf) : (s.physSync l).wf := h.setInput.sendOwn.ite h

theorem State.wf.physFollowUp {s : State} {l seq te : Nat} (h : s.wf) : (s.physFollowUp l seq te).wf := by
  unfold State.physFollowUp
  split
  · exact h.sendOwn

theorem State.wf.physAnnounce {s : State} {l : Nat} (h : s.wf) : (s.physAnnounce l).wf :=
  h.setInput.fresh.sendOwn.ite h

theorem State.wf.announceReceive {s : State} {i domain : Nat} {v : AnnounceVec} (h : s.wf) :
    (s.announceReceive i domain v).wf := by
  unfold State.announceReceive
  split
  · exact h
  · split
    · exact h.update
    · extract_lets _ u
      have hu : u.wf := h.setInput
      split
      · exact hu.put.selectInput
      · exact hu

theorem State.wf.pdelayReq {s : State} {l : Nat} (h : s.wf) : (s.pdelayReq l).wf := h.setInput.sendOwn.ite h

theorem State.wf.pdelayMeasure {s : State} {l seq t2 t3 t4 : Nat} {nrr : Option Int} (h : s.wf) :
    (s.pdelayMeasure l seq t2 t3 t4 nrr).wf := by
  unfold State.pdelayMeasure
  extract_lets _ _ u u1 u2
  have hu : u.wf := h.setInput
  have hu1 : u1.wf := hu.putI.put
  have hu2 : u2.wf := hu1.ite hu1.bump
  split
  · exact h
  · exact h.ite hu2.measurePd

theorem State.wf.pdelayRespond {s : State} {l seq req rx : Nat} (h : s.wf) : (s.pdelayRespond l seq req rx).wf :=
  h.sendOwn.ite h

theorem State.wf.pdelayFollowUp {s : State} {l seq req te : Nat} (h : s.wf) : (s.pdelayFollowUp l seq req te).wf :=
  h.sendOwn

theorem State.wf.delayReqFrame {s : State} {i seq : Nat} (h : s.wf) : (s.delayReqFrame i seq).2.wf := by
  unfold State.delayReqFrame
  extract_lets _ _
  split
  · exact h
  · exact h.fresh
  · exact h.fresh

theorem State.wf.delayReq {s : State} {i : Nat} (h : s.wf) : (s.delayReq i).wf :=
  ((h.setInput.delayReqFrame.sendOwn.ite h).ite h.setInput.emit).ite h

theorem State.wf.delayResp {s : State} {i seq t4 : Nat} {corr log : Int} (h : s.wf) :
    (s.delayResp i seq t4 corr log).wf := by
  unfold State.delayResp
  extract_lets _ u
  have hu : u.wf := h.setInput
  split
  · exact h
  · split
    · exact hu.measurePd
    · exact h

theorem State.wf.ownSent {s : State} {l : Nat} {own : OwnKind} {te : Nat} (h : s.wf) : (s.ownSent l own te).wf := by
  unfold State.ownSent
  split
  · exact h.physFollowUp
  · exact h.sceneFollowUp
  · exact h.setInput
  · exact h.pdelayFollowUp
  · exact h.update
  · exact h

/-! ### Time pins -/

theorem State.wf.setPin {s : State} {p : Nat} {x : PinState} (h : s.wf) : (s.setPin p x).wf := h.update

theorem State.wf.atPin {s : State} {p : Nat} {f : State → State} (h : s.wf) (hf : ∀ u, u.wf → (f u).wf) :
    (s.atPin p f).wf := (hf s h).ite h

theorem State.wf.showArmed {s : State} {p : Nat} {on : Bool} (h : s.wf) : (s.showArmed p on).wf := h.put.put

theorem State.wf.tpArm {s : State} {p : Nat} (h : s.wf) : (s.tpArm p).2.wf := by
  unfold State.tpArm
  extract_lets _ _ _ _ _ _ f
  split
  · split
    · exact h
    · split
      · exact h.put
      · exact h.setPin.showArmed.put
  · split
    · exact h
    · exact h.setPin.showArmed.put
  · exact h

theorem State.wf.tpDisarm {s : State} {p : Nat} (h : s.wf) : (s.tpDisarm p).wf := h.setPin.showArmed

theorem State.wf.pulse {s : State} {p t : Nat} (h : s.wf) : (s.pulse p t).wf := h.emit.inc

theorem State.wf.tpCompare {s : State} {p : Nat} (h : s.wf) : (s.tpCompare p).wf := by
  unfold State.tpCompare
  extract_lets _
  split
  · exact h
  · exact h.ite (h.pulse.setPin.ite h.pulse.tpDisarm)

theorem State.wf.skipTarget {s : State} {p : Nat} {d : Int} (h : s.wf) : (s.skipTarget p d).wf := by
  unfold State.skipTarget
  extract_lets _ u
  have hu : u.wf := h.put
  split
  · exact h
  · exact h.ite (hu.setPin.ite hu.tpDisarm)

theorem State.wf.tpCapture {s : State} {p : Nat} {rising : Bool} (h : s.wf) : (s.tpCapture p rising).wf :=
  (h.put.ite h.setPin.put).ite h

theorem State.wf.tpCapRead {s : State} {p : Nat} (h : s.wf) : (s.tpCapRead p).wf := by
  unfold State.tpCapRead
  extract_lets _ _ f
  split
  · exact h.setPin.putStamp.put.put
  · exact h.fresh.fresh.put.put.put.put

theorem State.wf.ppsOut {s : State} (h : s.wf) : s.ppsOut.wf := h.ite (h.update.emit.ite h.update)

theorem State.wf.tbNowRead {s : State} (h : s.wf) : s.tbNowRead.wf := h.putStamp

/-! ### Cycle matrices -/

theorem State.wf.showEff {s : State} {c x : Nat} (h : s.wf) : (s.showEff c x).wf := h.put.put

theorem State.wf.matrixResult {s : State} {c tag status cyc win : Nat} {replaced : Bool} (h : s.wf) :
    (s.matrixResult c tag status cyc win replaced).wf :=
  h.put.inc.put.put.put.put

theorem State.wf.setMatrix {s : State} {c : Nat} {m : List Basic} {eff : Nat} (h : s.wf) : (s.setMatrix c m eff).wf :=
  h.setCell.put.put.put.raise.showEff

theorem State.wf.startMatrix {s : State} {c : Nat} (h : s.wf) : (s.startMatrix c).wf := h.ite h.setCell

theorem State.wf.matrixCommit {s : State} {c tag : Nat} (h : s.wf) : (s.matrixCommit c tag).wf := by
  unfold State.matrixCommit
  extract_lets _ _ _ _ u _
  have hu : u.wf := h.matrixResult
  split
  · exact h.matrixResult
  · split
    · exact h.matrixResult
    · split
      · exact hu.setCell.put.showEff
      · exact hu.setMatrix.startMatrix
      · exact hu.setMatrix

theorem State.wf.atCell {s : State} {c : Nat} {f : State → State} (h : s.wf) (hf : ∀ u, u.wf → (f u).wf) :
    (s.atCell c f).wf := (hf s h).ite h

theorem State.wf.matrixCancel {s : State} {c tag : Nat} (h : s.wf) : (s.matrixCancel c tag).wf := by
  unfold State.matrixCancel
  extract_lets _ u
  have hu : u.wf := h.setCell.put
  split
  · exact h.matrixResult
  · exact h.matrixResult.ite hu.showEff.matrixResult

theorem State.wf.matrixCmd {s : State} {c op tag : Nat} (h : s.wf) : (s.matrixCmd c op tag).wf := by
  unfold State.matrixCmd
  split
  · exact h.matrixResult
  · exact h.matrixCommit
  · exact h.matrixCancel
  · exact h.matrixResult

theorem State.wf.matrixApply {s : State} {c : Nat} (h : s.wf) : (s.matrixApply c).wf := by
  unfold State.matrixApply
  extract_lets _
  split
  · exact h
  · exact h.setMatrix.ite (h.ite h.setMatrix.setCell)

theorem State.wf.startCell {s : State} {c : Nat} (h : s.wf) : (s.startCell c).2.wf := by
  unfold State.startCell
  extract_lets _ _ u u1 u2
  have hu : u.wf := h.setCell
  have hu1 : u1.wf := hu.put.put
  have hu2 : u2.wf := hu1.put.put
  split
  · exact h
  · exact hu2.startMatrix

theorem State.wf.stopCell {s : State} {c : Nat} (h : s.wf) : (s.stopCell c).wf :=
  h.update.setCell.put.put.matrixApply

theorem State.wf.enableCell {s : State} {c : Nat} {en : Bool} (h : s.wf) : (s.enableCell c en).2.wf := by
  unfold State.enableCell
  split
  · exact h
  · split
    · exact h.startCell
    · exact h.stopCell

theorem State.wf.correct {s : State} {c : Nat} (h : s.wf) : (s.correct c).wf := by
  unfold State.correct
  extract_lets _ _ _ u u1
  have hu : u.wf := h.setCell
  have hu1 : u1.wf := hu.put.bump
  split
  · exact h
  · split
    · exact h.putI.putI.setCell
    · exact h.setCell.ite hu1.raise.reportOther

theorem State.wf.cycleStart {s : State} {c : Nat} (h : s.wf) : (s.cycleStart c).wf := by
  unfold State.cycleStart
  extract_lets _ _ u _ _
  have hu : u.wf := h.correct
  split
  · exact h
  · exact h.ite (hu.setCell.bump.ite hu.setCell.bump.put)

theorem State.wf.mxNext {s : State} {n : Nat} (h : s.wf) : (s.mxNext n).wf := h.inc.ite h

theorem State.wf.mxWrite {s : State} {n v : Nat} (h : s.wf) : (s.mxWrite n v).wf := h.setCell.mxNext.ite h

theorem State.wf.mxCycWrite {s : State} {n v : Nat} (h : s.wf) : (s.mxCycWrite n v).wf := h.setCell.ite h

theorem State.wf.mxHdrWrite {s : State} {n v : Nat} (h : s.wf) : (s.mxHdrWrite n v).wf := h.setCell.ite h

theorem State.wf.nodeWrite {s : State} {n w : Nat} (h : s.wf) : (s.nodeWrite n w).wf :=
  h.ite (h.put.ite h.setWord.put)

theorem State.wf.setMark {s : State} {c m : Nat} {x : Mark} (h : s.wf) : (s.setMark c m x).wf := h.setCell

theorem State.wf.markWrite {s : State} {n w : Nat} (h : s.wf) : (s.markWrite n w).wf :=
  h.ite (h.put.ite h.setMark.put)

theorem State.wf.markEvent {s : State} {c m t : Nat} (h : s.wf) : (s.markEvent c m t).wf :=
  h.update.formEvent.ite h.update.bump.raise

theorem State.wf.fireMark {s : State} {c m : Nat} (h : s.wf) : (s.fireMark c m).wf := by
  have hmark {x : Mark} {b : Prop} [Decidable b] {t : Nat} :
      (if b then (s.setMark c m x).markEvent c m t else s.setMark c m x).wf := h.setMark.markEvent.ite h.setMark
  unfold State.fireMark
  dsimp only
  split
  · exact h
  · split
    · exact h.setMark
    · exact h.setMark.ite (hmark.emit.ite hmark)

end Sys2Proof.Machine
end

/-!
PROOFS. The canonical form (O5) through the pipelines from ingress to transmission.
-/

section
namespace Sys2Proof.Machine

/-! ### The TCAM and its rule sets -/

theorem State.wf.putWide {s : State} {b : Nat} {f : Nat → Fld} {v : Nat} (h : s.wf) : (s.putWide b f v).wf :=
  .foldl h fun _ _ hu => hu.put

theorem State.wf.cfStatus {s : State} {n st : Nat} (h : s.wf) : (s.cfStatus n st).wf := h.put

theorem State.wf.cfRead {s : State} {n : Nat} (h : s.wf) : (s.cfRead n).wf :=
  h.copyWords.copyWords.copyWords.cfStatus

theorem State.wf.tcamAdd {s : State} {n : Nat} (h : s.wf) : (s.tcamAdd n).wf := by
  unfold State.tcamAdd
  extract_lets _ _ _ _
  split
  · exact h.cfStatus
  · split
    · exact h.cfStatus
    · exact h.cfStatus.ite h.putWide.putWide.put.put.raise.cfStatus

theorem State.wf.tcamRemove {s : State} {n : Nat} (h : s.wf) : (s.tcamRemove n).wf :=
  h.cfStatus.ite (h.put.cfStatus.ite h.cfStatus)

theorem State.wf.commitEpoch {s : State} {n : Nat} (h : s.wf) : (s.commitEpoch n).wf :=
  h.cfStatus.ite h.put.put.cfStatus

theorem State.wf.clearHits {s : State} {n : Nat} (h : s.wf) : (s.clearHits n).wf := h.put.cfStatus

theorem State.wf.cfCommand {s : State} {n op : Nat} (h : s.wf) : (s.cfCommand n op).wf := by
  unfold State.cfCommand
  split
  · exact h.cfRead
  · exact h.tcamAdd
  · exact h.tcamRemove
  · exact h.commitEpoch
  · exact h.clearHits
  · exact h.cfStatus

theorem State.wf.retire {s : State} {n : Nat} (h : s.wf) : (s.retire n).wf :=
  .ite (.put (.foldl h fun _ _ hu => hu.put)) h

/-! ### The stream table -/

theorem State.wf.stResult {s : State} {n tag status fail : Nat} (h : s.wf) : (s.stResult n tag status fail).wf :=
  h.put.put.put.put

theorem State.wf.stRead {s : State} {n tag : Nat} (h : s.wf) : (s.stRead n tag).wf := h.copyWords.stResult

theorem State.wf.readCounts {s : State} {n tag : Nat} (h : s.wf) : (s.readCounts n tag).wf := h.copyWords.stResult

theorem State.wf.setBlocked {s : State} {n x : Nat} {on : Bool} (h : s.wf) : (s.setBlocked n x on).wf := h.put

theorem State.wf.unblock {s : State} {n tag : Nat} (h : s.wf) : (s.unblock n tag).wf :=
  .stResult (.foldl h fun _ _ hu => hu.setBlocked)

theorem State.wf.stStage {s : State} {n tag : Nat} (h : s.wf) : (s.stStage n tag).wf := by
  unfold State.stStage
  extract_lets _ _ _
  split
  · exact h.update.stResult
  · exact h.stResult

theorem State.wf.stAbort {s : State} {n tag : Nat} (h : s.wf) : (s.stAbort n tag).wf :=
  h.stResult.ite h.update.stResult

theorem State.wf.groupRead {s : State} {n : Nat} (h : s.wf) : (s.groupRead n).wf := h.copyWords.put

theorem State.wf.groupStage {s : State} {n : Nat} (h : s.wf) : (s.groupStage n).wf := by
  unfold State.groupStage
  extract_lets _ _
  split
  · exact h.update.put.put
  · exact h.put

theorem State.wf.applyItem {s : State} {n : Nat} {x : BatchItem} (h : s.wf) : (s.applyItem n x).wf :=
  .ite (.foldl h fun _ _ hu => hu.put) (.setBlocked (.foldl h fun _ _ hu => hu.put))

theorem State.wf.applyItems {s : State} {n : Nat} {xs : List BatchItem} (h : s.wf) : (s.applyItems n xs).wf :=
  .foldl h fun _ _ hu => hu.applyItem

theorem State.wf.stCommit {s : State} {n tag : Nat} (h : s.wf) : (s.stCommit n tag).wf := by
  unfold State.stCommit
  split
  · exact h.stResult
  · split
    · exact h.stResult
    · exact .stResult (.foldl (h.update.applyItems.ite h.update) fun _ _ hu => hu.put)

theorem State.wf.stCommand {s : State} {n op tag : Nat} (h : s.wf) : (s.stCommand n op tag).wf := by
  unfold State.stCommand
  split
  · exact h.stResult
  · exact h.stRead
  · exact h.stStage
  · exact h.stCommit
  · exact h.stAbort
  · exact h.readCounts
  · exact h.unblock
  · exact h.stResult

theorem State.wf.groupCommand {s : State} {n op : Nat} (h : s.wf) : (s.groupCommand n op).wf := by
  unfold State.groupCommand
  split
  · exact h.groupRead
  · exact h.groupStage
  · exact h.put

theorem State.wf.applyUpdate {s : State} {n : Nat} {u : Update} (h : s.wf) : (s.applyUpdate n u).wf :=
  h.applyItems.applyItems.put.put.update

theorem State.wf.batchApply {s : State} {n : Nat} (h : s.wf) : (s.batchApply n).wf := by
  unfold State.batchApply
  split
  · exact h.applyUpdate.ite h
  · exact h

theorem State.wf.lateApply {s : State} {n : Nat} (h : s.wf) : (s.lateApply n).wf := by
  unfold State.lateApply
  split
  · exact h.applyUpdate.bump.reportOther.ite h
  · exact h

theorem State.wf.stCount {s : State} {x k : Nat} (h : s.wf) : (s.stCount x k).wf := h.bump

/-! ### Stream gates and flow meters -/

theorem State.wf.setSgate {s : State} {n g : Nat} {x : SGate} (h : s.wf) : (s.setSgate n g x).wf := h.update

theorem State.wf.setSgLists {s : State} {n g : Nat} {x : GateLists} (h : s.wf) : (s.setSgLists n g x).wf :=
  h.setSgate

theorem State.wf.sgResult {s : State} {n g tag status : Nat} {adjusted replaced : Bool} (h : s.wf) :
    (s.sgResult n g tag status adjusted replaced).wf :=
  h.put.inc.put.put.put

theorem State.wf.sgShowCct {s : State} {n g q : Nat} (h : s.wf) : (s.sgShowCct n g q).wf := h.put.put

theorem State.wf.sgShowPool {s : State} {n : Nat} (h : s.wf) : (s.sgShowPool n).wf := h.put.put

theorem State.wf.sgChange {s : State} {n g tag : Nat} (h : s.wf) : (s.sgChange n g tag).wf :=
  h.sgResult.ite (h.sgResult.ite h.setSgLists.sgShowCct.put.sgShowPool.sgResult)

theorem State.wf.sgCancel {s : State} {n g tag : Nat} (h : s.wf) : (s.sgCancel n g tag).wf := by
  unfold State.sgCancel
  extract_lets _ u
  have hu : u.wf := h.setSgLists.sgShowCct
  split
  · exact h.sgResult
  · exact h.sgResult.ite hu.put.sgShowPool.sgResult

theorem State.wf.sgClear {s : State} {n g tag : Nat} (h : s.wf) : (s.sgClear n g tag).wf := h.put.put.sgResult

theorem State.wf.sgCmd {s : State} {n g op tag : Nat} (h : s.wf) : (s.sgCmd n g op tag).wf := by
  unfold State.sgCmd
  split
  · exact h.sgResult
  · exact h.sgChange
  · exact h.sgCancel
  · exact h.sgClear

theorem State.wf.sgEntry {s : State} {n g : Nat} (h : s.wf) : (s.sgEntry n g).wf := by
  unfold State.sgEntry
  extract_lets _ _ _
  split
  · exact h
  · exact h.ite h.setSgate.put.put

theorem State.wf.sgControl {s : State} {n g : Nat} (h : s.wf) : (s.sgControl n g).wf :=
  h.sgEntry.ite h.setSgLists.put.put

theorem State.wf.sgApply {s : State} {n g : Nat} (h : s.wf) : (s.sgApply n g).wf := by
  unfold State.sgApply
  extract_lets _
  split
  · exact h
  · exact h.ite h.setSgLists.put.sgShowPool.sgEntry

theorem State.wf.sgNext {s : State} {n : Nat} (h : s.wf) : (s.sgNext n).wf := h.inc.ite h

theorem State.wf.sgDataWrite {s : State} {n v : Nat} (h : s.wf) : (s.sgDataWrite n v).wf :=
  h.setSgLists.sgNext.ite h

theorem State.wf.setMeter {s : State} {n m : Nat} {x : Meter} (h : s.wf) : (s.setMeter n m x).wf := h.update

theorem State.wf.fmRead {s : State} {n : Nat} (h : s.wf) : (s.fmRead n).wf := h.copyWords.put

theorem State.wf.fmWrite {s : State} {n : Nat} (h : s.wf) : (s.fmWrite n).wf := h.copyWords.put.setMeter.put

theorem State.wf.fmClearRed {s : State} {n : Nat} (h : s.wf) : (s.fmClearRed n).wf := h.put.put

theorem State.wf.fmCommand {s : State} {n op : Nat} (h : s.wf) : (s.fmCommand n op).wf := by
  unfold State.fmCommand
  split
  · exact h.fmRead
  · exact h.fmWrite
  · exact h.fmClearRed
  · exact h.put

theorem State.wf.fmColour {s : State} {n m len t : Nat} {dei : Bool} (h : s.wf) : (s.fmColour n m len t dei).2.wf := by
  unfold State.fmColour
  extract_lets _ _ _ _ _ _ _ _ _ _
  split
  · exact h.setMeter
  · split
    · exact h.setMeter
    · split
      · exact h.setMeter
      · exact h.setMeter

theorem State.wf.filter {s : State} {n x : Nat} {e : Entry} {len : Nat} (h : s.wf) : (s.filter n x e len).2.wf := by
  unfold State.filter
  extract_lets _ u
  have hu : u.wf := h.setBlocked.ite h
  split
  · exact hu.stCount
  · exact h

theorem State.wf.gateDrop {s : State} {n g x : Nat} {octets : Bool} (h : s.wf) : (s.gateDrop n g x octets).wf :=
  ((h.put.ite h).ite (h.put.ite h)).stCount

theorem State.wf.gateJudge {s : State} {n g x len q : Nat} (h : s.wf) : (s.gateJudge n g x len q).2.wf := by
  unfold State.gateJudge
  extract_lets u _ _ _
  have hu : u.wf := h.sgEntry
  split
  · split
    · exact hu.gateDrop
    · split
      · exact hu.stCount
      · exact hu
  · split
    · exact hu.gateDrop
    · split
      · exact hu.stCount
      · split
        · split
          · exact hu.gateDrop
          · exact hu.setSgate
        · exact hu.setSgate

theorem State.wf.meterJudge {s : State} {n m x t : Nat} {b : Bytes} (h : s.wf) : (s.meterJudge n m x t b).2.wf := by
  unfold State.meterJudge
  extract_lets _ _ _
  split
  · rename_i _ u hr
    exact snd_wf hr h.fmColour
  · rename_i _ u hr
    have hu : u.wf := snd_wf hr h.fmColour
    split
    · exact hu.stCount
    · exact hu
  · rename_i _ _ u _ _ hr
    have hu : u.wf := snd_wf hr h.fmColour
    exact (hu.put.ite hu).stCount

theorem State.wf.police {s : State} {n x : Nat} {e : Entry} {q t : Nat} {b : Bytes} (h : s.wf) :
    (s.police n x e q t b).2.wf := by
  have hgate {u : State} (hu : u.wf) : (match e.gate with
      | some g => u.gateJudge n g x b.length q
      | none => (true, u)).2.wf := by
    split
    · exact hu.gateJudge
    · exact hu
  have hmeter {u : State} (hu : u.wf) : (match e.meter with
      | some m => u.meterJudge n m x t b
      | none => (.pass b, u)).2.wf := by
    split
    · exact hu.meterJudge
    · exact hu
  unfold State.police
  split
  · rename_i heq
    exact snd_wf heq h.filter
  · rename_i heq
    have hu := snd_wf heq h.filter
    dsimp only
    split
    · rename_i heq
      exact snd_wf heq (hgate hu)
    · rename_i heq
      have hv := snd_wf heq (hgate hu)
      split
      · rename_i heq
        exact (snd_wf heq (hmeter hv)).stCount
      · rename_i heq
        exact snd_wf heq (hmeter hv)

/-! ### Generation and recovery -/

theorem State.wf.everySlice {s : State} {f : Nat → State → State} (h : s.wf) (hf : ∀ n u, u.wf → (f n u).wf) :
    (s.everySlice f).wf := h.foldl fun u n hu => (hf n u hu).ite hu

theorem State.wf.generate {s : State} {n g c : Nat} (h : s.wf) : (s.generate n g c).2.wf := by
  unfold State.generate
  extract_lets _ _
  split
  · exact h
  · split
    · exact h.put.bump
    · split
      · exact h.bump
      · exact h

theorem State.wf.genRead {s : State} {n : Nat} (h : s.wf) : (s.genRead n).wf := h.copyWords.put

theorem State.wf.genWrite {s : State} {n : Nat} (h : s.wf) : (s.genWrite n).wf :=
  .put (.everySlice h (fun _ _ hu => hu.put.put))

theorem State.wf.genReset {s : State} {n : Nat} (h : s.wf) : (s.genReset n).wf :=
  .put (.everySlice h (fun _ _ hu => hu.put))

theorem State.wf.genCommand {s : State} {n op : Nat} (h : s.wf) : (s.genCommand n op).wf := by
  unfold State.genCommand
  split
  · exact h.genRead
  · exact h.genWrite
  · exact h.genReset
  · exact h.put

theorem State.wf.setRec {s : State} {n i : Nat} {x : RecState} (h : s.wf) : (s.setRec n i x).wf := h.update

theorem State.wf.recReset {s : State} {n i : Nat} (h : s.wf) : (s.recReset n i).wf := h.put.setRec.bump.raise

theorem State.wf.recTimer {s : State} {n i : Nat} (h : s.wf) : (s.recTimer n i).wf := h.recReset.ite h

theorem State.wf.recPass {s : State} {n i q hist : Nat} (h : s.wf) : (s.recPass n i q hist).wf := h.bump.setRec.put

theorem State.wf.recJudge {s : State} {n i q : Nat} (h : s.wf) : (s.recJudge n i q).2.wf := by
  unfold State.recJudge
  extract_lets u _ _ _ _ _ u1 _ _ _ u2
  have hu : u.wf := h.recTimer
  have hu1 : u1.wf := hu.recPass
  have hu2 : u2.wf := hu.add
  split
  · exact hu.recPass.put
  · split
    · split
      · exact hu.bump
      · exact hu1.ite hu1.bump
    · split
      · exact hu.bump
      · split
        · split
          · exact hu.bump
          · exact hu.recPass.bump
        · exact hu2.recPass

theorem State.wf.recover {s : State} {n : Nat} {f rtag gen : Option Nat} (h : s.wf) : (s.recover n f rtag gen).2.wf := by
  unfold State.recover
  split
  · exact h
  · extract_lets _
    split
    · exact h
    · split
      · exact h.recJudge
      · exact h.bump

theorem State.wf.recRead {s : State} {n : Nat} (h : s.wf) : (s.recRead n).wf := h.copyWords.put

theorem State.wf.latentBase {s : State} {n i : Nat} (h : s.wf) : (s.latentBase n i).wf := h.setRec.put

theorem State.wf.recStore {s : State} {n m i : Nat} (h : s.wf) : (s.recStore n m i).wf :=
  h.copyWords.setRec.setRec.latentBase.ite h.copyWords.setRec

theorem State.wf.recWrite {s : State} {n : Nat} (h : s.wf) : (s.recWrite n).wf :=
  .ite (.put (.everySlice h (fun _ _ hu => hu.recStore))) h.put

theorem State.wf.recResetAll {s : State} {n : Nat} (h : s.wf) : (s.recResetAll n).wf :=
  .put (.everySlice h (fun _ _ hu => hu.recReset))

theorem State.wf.recClear {s : State} {n i : Nat} (h : s.wf) : (s.recClear n i).wf :=
  .foldl h.setRec fun _ _ hu => hu.put

theorem State.wf.recClearCounts {s : State} {n : Nat} (h : s.wf) : (s.recClearCounts n).wf := h.recClear.put

theorem State.wf.recCommand {s : State} {n op : Nat} (h : s.wf) : (s.recCommand n op).wf := by
  unfold State.recCommand
  split
  · exact h.recRead
  · exact h.recWrite
  · exact h.recResetAll
  · exact h.recClearCounts
  · exact h.put

theorem State.wf.latentTest {s : State} {n i : Nat} (h : s.wf) : (s.latentTest n i).wf :=
  (h.setRec.put.bump.raise.reportOther.ite h.setRec).ite h

theorem State.wf.latentReset {s : State} {n i : Nat} (h : s.wf) : (s.latentReset n i).wf := h.latentBase.ite h

/-! ### The guardian of the cells -/

theorem State.wf.countVerdict {s : State} {l v : Nat} (h : s.wf) : (s.countVerdict l v).wf :=
  h.ite (((h.bump.raise.ite h.bump).raise.event.ite (h.bump.raise.ite h.bump)).raise.ite ((h.bump.raise.ite
    h.bump).raise.event.ite (h.bump.raise.ite h.bump)))

theorem State.wf.journalVerdict {s : State} {f : GuardIn} {j : Judged} (h : s.wf) : (s.journalVerdict f j).wf :=
  .ite (.limited h (fun _ _ hu => hu.report)) h

theorem State.wf.noteCorrupt {s : State} {c l : Nat} {i : Inst} (h : s.wf) : (s.noteCorrupt c l i).wf :=
  h.ite h.setCell.raise.report

theorem State.wf.setDrift {s : State} {d ch : Nat} {x : Drift} (h : s.wf) : (s.setDrift d ch x).wf := h.update

theorem State.wf.driftWarn {s : State} {c d ch l : Nat} {e : Int} {thr : Nat} (h : s.wf) :
    (s.driftWarn c d ch l e thr).wf :=
  .ite (.formEvent (.limited h.raise (fun _ _ hu => hu.report))) (.limited h.raise (fun _ _ hu => hu.report))

theorem State.wf.driftSample {s : State} {c d ch l : Nat} {x : Int} (h : s.wf) : (s.driftSample c d ch l x).wf :=
  h.setDrift.driftWarn.ite (h.setDrift.ite h.setDrift)

theorem State.wf.takeSamples {s : State} {f : GuardIn} {j : Judged} (h : s.wf) : (s.takeSamples f j).wf := by
  unfold State.takeSamples
  split
  · exact (h.driftSample.setCell.ite h.driftSample).ite h
  · exact h

theorem State.wf.noteAccepted {s : State} {f : GuardIn} {j : Judged} (h : s.wf) : (s.noteAccepted f j).wf := by
  unfold State.noteAccepted
  split
  · split
    · extract_lets _ _ _
      split
      · exact h.setCell
      · exact h.setCell
      · exact h
    · exact h
  · exact h

theorem State.wf.guard {s : State} {f : GuardIn} {stepped : Bool} (h : s.wf) : (s.guard f stepped).2.wf := by
  unfold State.guard
  extract_lets _ u u1 u2 u3
  have hu : u.wf := by
    unfold u
    split
    · exact h.noteCorrupt
    · exact h
  have hu1 : u1.wf := hu.countVerdict.journalVerdict
  have hu2 : u2.wf := hu1.bump.ite hu1
  have hu3 : u3.wf := hu2.ite hu2.takeSamples
  split
  · exact h
  · exact hu3.noteAccepted

theorem State.wf.launchFrame {s : State} {l stream tc t0 : Nat} {k : LaunchKind} {b : Bytes} (h : s.wf) :
    (s.launchFrame l stream tc t0 k b).wf :=
  h.takeRelay.update.ite h.bump

theorem State.wf.keepFrame {s : State} {f : GuardIn} {j : Judged} {b : Bytes} {stream : Nat} {trailer : Bool}
    {ports : List Nat} (h : s.wf) : (s.keepFrame f j b stream trailer ports).wf := by
  unfold State.keepFrame
  split
  · exact h.setCell.ite h
  · exact h

theorem State.wf.suppress {s : State} {c : Nat} {x : CapFrame} (h : s.wf) : (s.suppress c x).2.wf :=
  h.countVerdict.bump

theorem State.wf.coldstart {s : State} {f : GuardIn} {x : CapFrame} (h : s.wf) : (s.coldstart f x).2.wf := by
  unfold State.coldstart
  extract_lets _ _ _ _ r
  have hr : r.2.wf := h.suppress
  split
  · exact h.setCell
  · split
    · exact h.setCell
    · exact hr
  · exact hr

theorem State.wf.startAt {s : State} {c t : Nat} (h : s.wf) : (s.startAt c t).wf := by
  unfold State.startAt
  extract_lets _ _
  split
  · exact h.putI.setCell
  · exact h

theorem State.wf.coldForward {s : State} {c : Nat} {keep : CapFrame → State → State} (h : s.wf)
    (hkeep : ∀ x0 u, u.wf → (keep x0 u).wf) : (s.coldForward c keep).wf := by
  unfold State.coldForward
  extract_lets _ _ u
  have hu : u.wf := h.setCell
  split
  · exact .ite h (.raise (.put (.startAt (.foldl (.foldl (hkeep _ _ hu.countVerdict) fun _ _ hu => hkeep _ _
      hu.suppress) fun _ _ hu => hu.launchFrame))))
  · exact h

theorem State.wf.substitute {s : State} {c ch cyc win : Nat} (h : s.wf) : (s.substitute c ch cyc win).wf := by
  unfold State.substitute
  extract_lets _ _
  split
  · exact .ite h (.ite h.setCell (.bump (.foldl h.setCell.setCell fun _ _ hu => hu.launchFrame)))
  · exact h

/-! ### Capture and the slow path -/

theorem State.wf.takeFrame {s : State} {n p : Nat} {x : CapFrame} (h : s.wf) : (s.takeFrame n p x).wf :=
  h.update.ite h.update

theorem State.wf.capture {s : State} {x : CapFrame} {dropped : Bool} (h : s.wf) : (s.capture x dropped).wf :=
  h.ite (h.takeFrame.ite h)

theorem State.wf.captureErrored {s : State} {x : CapFrame} (h : s.wf) : (s.captureErrored x).wf := h.takeFrame.ite h

theorem State.wf.setCapRing {s : State} {r : Nat} {x : CapRing} (h : s.wf) : (s.setCapRing r x).wf := h.update

theorem State.wf.nextCapSeq {s : State} {r : Nat} (h : s.wf) : (s.nextCapSeq r).wf := h.setCapRing

theorem State.wf.writeCapRef {s : State} {r : Nat} {x : CapFrame} (h : s.wf) : (s.writeCapRef r x).wf :=
  h.ringPut.nextCapSeq.setCapRing

theorem State.wf.dropRecord {s : State} {r : Nat} {x : CapFrame} (h : s.wf) : (s.dropRecord r x).wf :=
  h.nextCapSeq.ite h.nextCapSeq.bump

theorem State.wf.dropFull {s : State} {r : Nat} {x : CapFrame} (h : s.wf) : (s.dropFull r x).wf :=
  h.bump.bump.dropRecord

theorem State.wf.writeRecord {s : State} {r type : Nat} {short : Bool} {snap : Nat} {x : CapFrame} (h : s.wf) :
    (s.writeRecord r type short snap x).wf := by
  unfold State.writeRecord
  extract_lets _ _ u
  have hu : u.wf := h.writeCapRef.ite h
  split
  · exact h.dropFull
  · exact h.dropFull.ite (hu.setMemBytes.setCapRing.ringPut.nextCapSeq.ite
      hu.setMemBytes.setCapRing.ringPut.nextCapSeq.bump)

theorem State.wf.captureRecord {s : State} {limit : Nat} (h : s.wf) : (s.captureRecord limit).wf := by
  unfold State.captureRecord
  split
  · exact h
  · extract_lets u _
    have hu : u.wf := h.update
    split
    · exact hu.bump.dropRecord
    · exact hu.bump.dropRecord
    · exact hu.writeRecord

theorem State.wf.slowRecord {s : State} (h : s.wf) : s.slowRecord.wf := by
  unfold State.slowRecord
  split
  · exact h
  · exact h.update.writeRecord

theorem State.wf.captureExport {s : State} (h : s.wf) : s.captureExport.wf := by
  unfold State.captureExport
  split
  · exact h
  · exact h.update.bump.ite (h.update.bump.bump.ite h.update.update.bump.relay)

theorem State.wf.restartExports {s : State} {p : Nat} (h : s.wf) : (s.restartExports p).wf := h.update

/-! ### The ingress half -/

theorem State.wf.terminate {s : State} {a : Arrival} (h : s.wf) : (s.terminate a).wf := by
  unfold State.terminate
  extract_lets u u1
  have hu : u.wf := h.bump
  have hu1 : u1.wf := hu.ite hu.bump
  split
  · exact hu1.pdelayRespond.ite hu
  · exact hu

theorem State.wf.countFound {s : State} {l : Nat} {f : Matched} (h : s.wf) : (s.countFound l f).wf := by
  unfold State.countFound
  extract_lets _ u u1
  have hu : u.wf := by
    unfold u
    split
    · exact h.bump
    · exact h
  have hu1 : u1.wf := hu.bump.ite hu
  split
  · exact hu1.bump
  · exact hu1

theorem State.wf.rxEvents {s : State} {a : Arrival} {cls : Option Nat} (h : s.wf) : (s.rxEvents a cls).wf :=
  h.event.event

theorem State.wf.toSlow {s : State} {a : Arrival} {r : Nat} (h : s.wf) : (s.toSlow a r).wf :=
  h.update.bump.event.update.ite h.bump

theorem State.wf.unreachable {s : State} {x : Option Nat} (h : s.wf) : (s.unreachable x).wf := by
  unfold State.unreachable
  split
  · exact h.streamMissed
  · exact h

theorem State.wf.takePorts {s : State} {cells : Nat} {ls : List Nat} (h : s.wf) : (s.takePorts cells ls).2.wf := by
  induction ls generalizing s with
  | nil => exact h
  | cons l ls ih =>
    unfold State.takePorts
    split
    · exact ih h.takeRelay
    · exact ih h.bump

theorem State.wf.toCaldera {s : State} {h : Handed} {ports : List Nat} (hs : s.wf) : (s.toCaldera h ports).wf :=
  .foldl hs fun _ _ hu => hu.unreachable.ite (hu.takePorts.ite hu.takePorts.update)

theorem State.wf.leaveCaldera {s : State} {n : Nat} {x1 gen : Option Nat} {b : Bytes} (h : s.wf) :
    (s.leaveCaldera n x1 gen b).2.wf := by
  unfold State.leaveCaldera
  extract_lets _
  split
  · rename_i _ u hr
    exact snd_wf hr h.recover
  · rename_i _ u hr
    exact snd_wf hr h.recover

theorem State.wf.starForward {s : State} {h : Handed} {f : GuardIn} {j : Judged} {mirror trailer : Bool}
    {ports : List Nat} (hs : s.wf) : (s.starForward h f j mirror trailer ports).wf := by
  unfold State.starForward
  extract_lets _ _ u
  have hu : u.wf := by
    unfold u
    refine .foldl ?_ fun u1 _ hu1 => ?_
    · exact hs
    · split
      · exact hu1.unreachable
      · split
        · rename_i _ u2 hr
          exact snd_wf hr hu1.leaveCaldera
        · rename_i _ _ u2 hr
          have hu2 : u2.wf := snd_wf hr hu1.leaveCaldera
          exact .foldl hu2 fun _ _ hu => hu.launchFrame
  exact hu.keepFrame

theorem State.wf.passOn {s : State} {a : Arrival} {p : PortRec} {x : Option Nat} {act port : Nat}
    {slot : Option Nat} {again : Bool} {j : Judged} {cap : CapFrame} {b : Bytes} (h : s.wf) :
    (s.passOn a p x act port slot again j cap b).wf := by
  unfold State.passOn
  extract_lets _ r u _ _
  have hr : r.2.wf := by
    unfold r
    split
    · exact h.generate
    · exact h
  have hu : u.wf := hr.capture
  exact hu.toCaldera.ite hu.starForward

theorem State.wf.judgeFrame {s : State} {a : Arrival} {x : Option Nat} {act port : Nat} {slot : Option Nat}
    {again : Bool} (h : s.wf) : (s.judgeFrame a x act port slot again).wf := by
  unfold State.judgeFrame
  split
  · exact h
  · extract_lets _ _ u u1 _ _ r _ u2
    have hu : u.wf := h.rxEvents
    have hu1 : u1.wf := by
      unfold u1
      split
      · exact hu.stCount
      · exact hu
    have hr : r.2.wf := hu1.guard
    have hu2 : u2.wf := hr
    split
    · split
      · rename_i _ _ u3 hr1
        have hu3 : u3.wf := snd_wf hr1 hu2.coldstart
        exact hu3.capture
      · rename_i _ u3 hr1
        exact snd_wf hr1 hu2.coldstart
    · split
      · exact hu2.capture
      · split
        · exact hu2.passOn
        · split
          · rename_i _ _ u3 hr1
            have hu3 : u3.wf := snd_wf hr1 hu2.police
            exact hu3.capture
          · rename_i _ _ u3 hr1
            have hu3 : u3.wf := snd_wf hr1 hu2.police
            exact hu3.passOn

theorem State.wf.recirculate {s : State} {a : Arrival} {f : Matched} (h : s.wf) : (s.recirculate a f).wf :=
  h.bump.event.update.ite h.bump

theorem State.wf.follow {s : State} {a : Arrival} {f : Matched} {slot : Option Nat} {again : Bool} (h : s.wf) :
    (s.follow a f slot again).wf := by
  unfold State.follow
  split
  · exact h.judgeFrame
  · exact h.judgeFrame
  · exact h.recirculate
  · exact h.rxEvents.toSlow
  · exact h.rxEvents.capture.ite h.rxEvents

theorem State.wf.recircPass {s : State} {n p : Nat} (h : s.wf) : (s.recircPass n p).wf := by
  unfold State.recircPass
  split
  · exact h
  · exact h.update.countFound.follow

theorem State.wf.parseFrame {s : State} {a : Arrival} (h : s.wf) : (s.parseFrame a).wf := by
  unfold State.parseFrame
  split
  · exact h.rxEvents.terminate
  · split
    · exact h.rxEvents.envelope
    · exact h.countFound.follow

theorem State.wf.receive {s : State} {a : Arrival} {full : Bool} (h : s.wf) : (s.receive a full).wf :=
  (h.bump.event.captureErrored.ite h.bump.event).ite ((h.countRx.rxEvents.ite h.countRx.rxEvents.bump).ite
    (h.countRx.rxEvents.bump.ite ((h.countRx.rxEvents.bump.ite h.countRx.rxEvents).ite (h.countRx.rxEvents.ite
    h.countRx.parseFrame))))

theorem State.wf.arrive {s : State} {a : Arrival} {full : Bool} (h : s.wf) : (s.arrive a full).wf := by
  unfold State.arrive
  split
  · exact h.receive
  · split
    · rename_i _ u _ hr
      have hu : u.wf := fst_wf hr h.inject
      exact hu.receive
    · rename_i _ u hr
      exact fst_wf hr h.inject
    · rename_i _ u _ _ hr
      have hu : u.wf := fst_wf hr h.inject
      exact hu.holdFrame

theorem State.wf.split {s : State} {n : Nat} {x : Crossing} (h : s.wf) : (s.split n x).2.wf := by
  have hr : (if s.sliceServes n then s.leaveCaldera n x.rec_ x.gen x.bytes else (none, s.unreachable x.stream)).2.wf
    := by
    split
    · exact h.leaveCaldera
    · exact h.unreachable
  unfold State.split
  dsimp only
  split
  · rename_i heq
    exact (snd_wf heq hr).foldl fun _ _ hu => hu.freeRelay
  · rename_i heq
    exact snd_wf heq hr

theorem State.wf.offer {s : State} {x : Crossing} (h : s.wf) : (s.offer x).2.wf := by
  unfold State.offer
  extract_lets _ _
  split
  · exact h.enqueue
  · exact h

theorem State.wf.leave {s : State} {n : Nat} (h : s.wf) : (s.leave n).wf := by
  unfold State.leave
  dsimp only
  split
  · exact h
  · split
    · exact h
    · refine State.wf.update ?_
      split
      · exact h.offer
      · exact h.split

theorem State.wf.joinFragment {s : State} {l : Nat} {x b : Bytes} {count next sof : Nat} (h : s.wf) :
    (s.joinFragment l x b count next sof).wf := by
  unfold State.joinFragment
  extract_lets _ _ f
  split
  · exact h.setMerge
  · exact h.setMerge.bump.arrive
  · exact h.setMerge.arrive

theorem State.wf.fragment {s : State} {l smd count frag : Nat} {b : Bytes} (h : s.wf) :
    (s.fragment l smd count frag b).wf := by
  unfold State.fragment
  extract_lets _ u u1 _
  have hu : u.wf := h.bump.ite h
  have hu1 : u1.wf := hu.bump.ite hu
  split
  · exact hu.bump
  · split
    · exact hu1.joinFragment
    · split
      · exact hu.joinFragment.ite hu.bump.setMerge
      · exact hu.bump

/-! ### Transmission and links -/

theorem State.wf.launchDone {s : State} {l : Nat} {t : Tx} {x : Launch} (h : s.wf) : (s.launchDone l t x).wf :=
  h.sample.setFeed.ite h.sample.freeLaunch

theorem State.wf.transmitDone {s : State} {l : Nat} (h : s.wf) : (s.transmitDone l).wf := by
  unfold State.transmitDone
  extract_lets _ u
  have hu : u.wf := h.setWire
  split
  · exact h
  · split
    · exact h
    · extract_lets _ u1 u2 u3 u4
      have hu1 : u1.wf := hu.ite hu.emit.countTx
      have hu2 : u2.wf := hu1.ite hu1.bump
      have hu3 : u3.wf := by
        unfold u3
        split
        · exact hu2.launchDone
        · exact hu2.freeRelay
      have hu4 : u4.wf := hu3.ownSent
      exact hu4.refreshPe.groupIdle.recredit

theorem State.wf.loseTx {s : State} {l : Nat} {t : Tx} (h : s.wf) : (s.loseTx l t).wf := by
  unfold State.loseTx
  extract_lets u
  have hu : u.wf := h.ite h.bump
  split
  · exact hu.freeLaunch
  · exact hu.freeRelay

theorem State.wf.setRate {s : State} {l code : Nat} (h : s.wf) : (s.setRate l code).wf :=
  .foldl h.put.put fun _ _ hu => hu.put

theorem State.wf.linkLoss {s : State} {l : Nat} (h : s.wf) : (s.linkLoss l).wf :=
  .recredit (.groupIdle (.refreshPe (.setMerge (.put (.foldl h.put.setRate.setWire fun _ _ hu => hu.loseTx)))))

theorem State.wf.linkGain {s : State} {l code : Nat} (h : s.wf) : (s.linkGain l code).wf := by
  unfold State.linkGain
  split
  · exact h
  · exact h.ite h.put.setRate.startVerify.refreshPe

theorem State.wf.journalInjector {s : State} {l : Nat} (h : s.wf) : (s.journalInjector l).wf := h.reportAs

theorem State.wf.injCtrl {s : State} {l k w : Nat} (h : s.wf) : (s.injCtrl l k w).wf :=
  h.setWord.put.setInjector.put.journalInjector.ite h.setWord.put

theorem State.wf.requeue {s : State} {l k : Nat} {f : EgFrame} (h : s.wf) : (s.requeue l k f).wf :=
  h.setFlow.headChanged.ite h.setQueue.recredit

theorem State.wf.releaseHeld {s : State} {l k : Nat} (h : s.wf) : (s.releaseHeld l k).wf := by
  unfold State.releaseHeld
  extract_lets _ u
  have hu : u.wf := h.setInjector.checkLimit
  split
  · exact h
  · split
    · exact hu.update
    · exact hu.requeue
    · exact hu.arrive

theorem State.wf.tskew {s : State} {l w : Nat} (h : s.wf) : (s.tskew l w).wf := h.ite h.setWord.journalInjector

theorem State.wf.disarmAll {s : State} (h : s.wf) : s.disarmAll.wf :=
  (State.wf.clearWords (h.foldl fun _ _ hu => hu.releaseHeld)).update

end Sys2Proof.Machine
end

/-!
PROOFS. The canonical form (O5) through the unit pair, measurement, rings and engines.
-/

section
namespace Sys2Proof.Machine

/-! ### Pair links, heartbeats and authority -/

theorem State.wf.setPairLink {s : State} {k : Nat} {x : PairLink} (h : s.wf) : (s.setPairLink k x).wf := h.update

theorem State.wf.sendPair {s : State} {k : Nat} {body : Bytes} {own : OwnKind} (h : s.wf) :
    (s.sendPair k body own).wf := by
  unfold State.sendPair
  split
  · exact h.sendOwn.ite h
  · exact h

theorem State.wf.hearing {s : State} {was : Bool} (h : s.wf) : (s.hearing was).wf := h.ite (h.raise.ite h.update)

theorem State.wf.endInterval {s : State} {k : Nat} (h : s.wf) : (s.endInterval k).wf :=
  h.ite ((h.setPairLink.put.ite h.setPairLink).ite (h.setPairLink.bump.put.ite h.setPairLink.bump)).hearing

theorem State.wf.pairTimeout {s : State} {k : Nat} (h : s.wf) : (s.pairTimeout k).wf := h.ite h.endInterval

theorem State.wf.toMode {s : State} {m c : Nat} (h : s.wf) : (s.toMode m c).wf := h.setMode.disarmAll.ite h.setMode

theorem State.wf.serveAs {s : State} {m c : Nat} (h : s.wf) : (s.serveAs m c).wf :=
  h.put.ite (h.toMode.put.ite (h.ite h.toMode))

theorem State.wf.takeAuthority {s : State} (h : s.wf) : s.takeAuthority.wf := by
  unfold State.takeAuthority
  extract_lets u u1 u2 u3 _ u4 u5
  have hu : u.wf := h.put.put
  have hu1 : u1.wf := hu.bump.raise
  have hu2 : u2.wf := by
    unfold u2
    split
    · exact hu1.put
    · exact hu1
  have hu3 : u3.wf := hu2.report
  have hu4 : u4.wf := hu3.update
  have hu5 : u5.wf := .foldl hu4 fun _ _ hu => hu.setFeed
  exact hu5.serveAs

theorem State.wf.enterMirror {s : State} (h : s.wf) : s.enterMirror.wf := h.put.put.update.serveAs

theorem State.wf.yieldAuthority {s : State} (h : s.wf) : s.yieldAuthority.wf := h.bump.raise.enterMirror

theorem State.wf.resolveSplit {s : State} (h : s.wf) : s.resolveSplit.wf :=
  (h.ite h.bump.raise.reportOther.update).yieldAuthority.ite (h.ite h.bump.raise.reportOther.update)

theorem State.wf.decideRole {s : State} (h : s.wf) : s.decideRole.wf := by
  unfold State.decideRole
  extract_lets _ _ _ u
  have hu : u.wf := h.ite h.update
  split
  · exact hu.takeAuthority.ite hu
  · exact hu.resolveSplit.ite (hu.yieldAuthority.ite hu)
  · exact (hu.enterMirror.ite (hu.takeAuthority.ite hu)).ite hu
  · exact hu

theorem State.wf.waitExpiry {s : State} (h : s.wf) : s.waitExpiry.wf := by
  unfold State.waitExpiry
  split
  · exact h.takeAuthority.ite h
  · exact h

theorem State.wf.arrangeHandover {s : State} (h : s.wf) : s.arrangeHandover.wf :=
  h.ite (h.put.update.ite (h.ite (h.ite (h.put.update.ite h.update))))

theorem State.wf.handover {s : State} (h : s.wf) : s.handover.wf := by
  unfold State.handover
  split
  · exact h
  · split
    · exact h.yieldAuthority
    · exact h.takeAuthority
    · exact h.put

theorem State.wf.compareDigests {s : State} (h : s.wf) : s.compareDigests.wf := by
  unfold State.compareDigests
  split
  · exact h
  · exact h.ite (h.put.put.put.update.ite (h.put.put.put.update.bump.raise.reportOther.ite
      h.put.put.put.update.bump))

theorem State.wf.digestClose {s : State} (h : s.wf) : s.digestClose.wf := h.ite h.update.compareDigests

theorem State.wf.sendBeat {s : State} {k : Nat} (h : s.wf) : (s.sendBeat k).wf := h.ite h.sendPair.setPairLink

theorem State.wf.heartbeat {s : State} (h : s.wf) : s.heartbeat.wf :=
  h.ite h.update.endInterval.endInterval.put.decideRole.noteClean.arrangeHandover.update.sendBeat.sendBeat

theorem State.wf.badBeat {s : State} (h : s.wf) : s.badBeat.wf := h.bump

theorem State.wf.crossCheck {s : State} {o : Int} (h : s.wf) : (s.crossCheck o).wf :=
  h.update.ite (((h.update.put.raise.reportOther.enterHoldover.ite h.update.put.raise.reportOther).ite h.update).ite
    (h.update.put.ite h.update))

theorem State.wf.beatTimes {s : State} {k : Nat} {b : Bytes} {last : Option (Nat × Nat)} (h : s.wf) :
    (s.beatTimes k b last).wf := by
  unfold State.beatTimes
  extract_lets _
  split
  · exact h.ite ((h.measurePd.crossCheck.setInput.selectInput.offsetSample.ite
      h.measurePd.crossCheck.setInput.selectInput).ite h.measurePd)
  · exact h

theorem State.wf.acknowledge {s : State} {a : Nat} (h : s.wf) : (s.acknowledge a).wf := h.update

theorem State.wf.goodBeat {s : State} {k : Nat} {b : Bytes} (h : s.wf) : (s.goodBeat k b).wf :=
  (h.setPairLink.put.put.put.put.update.acknowledge.put.ite
    h.setPairLink.put.put.put.put.update.acknowledge.arrangeHandover).beatTimes.compareDigests

theorem State.wf.beatReceive {s : State} {k : Nat} {b : Bytes} (h : s.wf) : (s.beatReceive k b).wf :=
  h.ite (h.badBeat.ite (h.badBeat.raise.report.ite (h.badBeat.ite h.goodBeat)))

theorem State.wf.resync {s : State} (h : s.wf) : s.resync.wf := h.update.ite h

/-! ### State messages -/

theorem State.wf.sendMsg {s : State} {b : Bytes} (h : s.wf) : (s.sendMsg b).wf := h.sendPair

theorem State.wf.sendRecords {s : State} {type : Nat} {rs : List Bytes} (h : s.wf) : (s.sendRecords type rs).wf :=
  h.update.sendMsg

theorem State.wf.sendAll {type n : Nat} {s : State} {rs : List Bytes} (h : s.wf) : (State.sendAll type n s rs).wf := by
  induction n generalizing s rs with
  | zero => exact h
  | succ n ih =>
    cases rs with
    | nil => exact h
    | cons r rs => exact ih h.sendRecords

theorem State.wf.sendSnapshot {s : State} (h : s.wf) : s.sendSnapshot.wf :=
  .update (.sendRecords (.foldl h fun _ _ hu => hu.sendAll))

theorem State.wf.stateSend {s : State} {type x : Nat} (h : s.wf) : (s.stateSend type x).wf := by
  unfold State.stateSend
  split
  · exact h
  · split
    · exact h.update.sendRecords.ite h
    · split
      · split
        · exact h.sendRecords
        · exact h
      · exact h
    · exact h.update.sendRecords.ite h
    · exact h.update.sendRecords.ite h
    · exact h.update.sendRecords.ite h
    · exact h.sendSnapshot.ite h
    · exact h

theorem State.wf.stateResend {s : State} (h : s.wf) : s.stateResend.wf :=
  .ite h (.update (.foldl h fun _ _ hu => hu.sendMsg.bump))

theorem State.wf.switchDue {c n : Nat} {s : State} (h : s.wf) : (State.switchDue c n s).wf := by
  induction n generalizing s with
  | zero => exact h
  | succ n ih =>
    unfold State.switchDue
    split
    · exact (ih h.segmentSwitch).ite h
    · exact h

theorem State.wf.applyScene {s : State} {r : Bytes} (h : s.wf) : (s.applyScene r).wf :=
  .ite h (.switchDue (.add (.ite (.setScene (.foldl h fun _ _ hu => hu.setWord)) (.newEpoch (.setScene (.foldl h fun
    _ _ hu => hu.setWord))))))

theorem State.wf.applyGrant {s : State} {r : Bytes} (h : s.wf) : (s.applyGrant r).wf := h.ite (h.ite h.bump).setFeed

theorem State.wf.applyCell {s : State} {r : Bytes} (h : s.wf) : (s.applyCell r).wf :=
  h.ite (h.put.put.put.put.ite h.put.put.put.put.setCell)

theorem State.wf.applyFrer {s : State} {r : Bytes} (h : s.wf) : (s.applyFrer r).wf := h.ite h.put.put.setRec

theorem State.wf.applyRecord {s : State} {type : Nat} {r : Bytes} (h : s.wf) : (s.applyRecord type r).wf := by
  unfold State.applyRecord
  split
  · exact h.applyScene
  · exact h.applyGrant
  · exact h.applyCell
  · exact h.applyFrer
  · exact h.update
  · exact h.update

theorem State.wf.stateReceive {s : State} {k : Nat} {b : Bytes} (h : s.wf) : (s.stateReceive k b).wf :=
  .ite h (.foldl h.update fun _ _ hu => hu.applyRecord)

/-! ### Measurement -/

theorem State.wf.evcWritten {s : State} {n k : Nat} (h : s.wf) : (s.evcWritten n k).wf := h.update

theorem State.wf.evcApply {s : State} {n k : Nat} (h : s.wf) : (s.evcApply n k).wf := by
  unfold State.evcApply
  extract_lets _ _ u
  have hu : u.wf := h.update
  split
  · exact h
  · exact h.ite (hu.ite hu.put.put)

theorem State.wf.bwRecord {s : State} {l : Nat} {w : Window} {e : Nat} {stepped cut : Bool} (h : s.wf) :
    (s.bwRecord l w e stepped cut).wf :=
  .inc (.foldl h fun _ _ hu => hu.setWord)

theorem State.wf.bwEnd {s : State} {l : Nat} (h : s.wf) : (s.bwEnd l).wf := by
  unfold State.bwEnd
  split
  · exact h
  · exact h.ite h.bwRecord.put.setWindow

theorem State.wf.bwStep {s : State} {l old new : Nat} (h : s.wf) : (s.bwStep l old new).wf := by
  unfold State.bwStep
  split
  · exact h
  · exact h.bwRecord.put.setWindow.ite h.setWindow

theorem State.wf.bwWritten {s : State} {l old : Nat} (h : s.wf) : (s.bwWritten l old).wf := by
  unfold State.bwWritten
  extract_lets _ _ _ u
  have hu : u.wf := by
    unfold u
    split
    · exact h.bwRecord
    · exact h
  exact ((h.ite h.put).ite hu.put.setWindow).ite (h.setWindow.ite h)

theorem State.wf.lsWritten {s : State} {l old : Nat} (h : s.wf) : (s.lsWritten l old).wf := h.ite h.update

theorem State.wf.drain {s : State} {n : Nat} {queue : Bool} (h : s.wf) : (s.drain n queue).wf := by
  unfold State.drain
  extract_lets _ _ _ _
  split
  · exact h
  · exact h.ite (h.raise.ite (h.raise.ite (h.setMemWords.inc.update.put.ite h.setMemWords.inc.update.put)))

theorem State.wf.drainRead {s : State} {n : Nat} {queue : Bool} {v : Nat} (h : s.wf) : (s.drainRead n queue v).wf :=
  h.put.ite h.raise

/-! ### The tick and physical steps -/

theorem State.wf.moveScene {s : State} {c : Nat} {d : Int} (h : s.wf) : (s.moveScene c d).wf :=
  h.moveSegments.setScene.ite h

theorem State.wf.showGates {s : State} {l : Nat} (h : s.wf) : (s.showGates l).wf := by
  unfold State.showGates
  extract_lets _ _ u
  have hu : u.wf := by
    unfold u
    split
    · exact h.put.put
    · exact h
  split
  · exact hu.showCct
  · exact hu

theorem State.wf.showSgate {s : State} {k : Nat} (h : s.wf) : (s.showSgate k).wf := by
  unfold State.showSgate
  split
  · exact h.sgShowCct
  · exact h

theorem State.wf.showCellEff {s : State} {c : Nat} (h : s.wf) : (s.showCellEff c).wf := by
  unfold State.showCellEff
  split
  · exact h.showEff
  · exact h

theorem State.wf.moveFrames {s : State} {d : Int} (h : s.wf) : (s.moveFrames d).wf := h.update

theorem State.wf.movePorts {s : State} {d : Int} (h : s.wf) : (s.movePorts d).wf := h.update

theorem State.wf.rebase {s : State} {d : Int} {old : Nat} (h : s.wf) : (s.rebase d old).wf :=
  .update (.foldl (.foldl (.foldl (.foldl (.moveFrames (.movePorts (.foldl h fun _ _ hu => hu.moveScene))) fun _ _
    hu => hu.showGates.bwStep) fun _ _ hu => hu.showSgate) fun _ _ hu => hu.showCellEff) fun _ _ hu =>
    hu.skipTarget)

theorem State.wf.loadTime {s : State} {v : Nat} (h : s.wf) : (s.loadTime v).wf := h.update.rebase

theorem State.wf.doStep {s : State} (h : s.wf) : s.doStep.wf :=
  h.loadTime.putI.put.showStep.raise.put.update.formAddend.report

theorem State.wf.stepApply {s : State} (h : s.wf) : s.stepApply.wf :=
  ((h.update.ite h.update.enterHoldover).raise.report.ite (h.ite h.doStep)).ite (h.ite (h.withdrawStep.ite
    h.doStep))

theorem State.wf.setGo {s : State} (h : s.wf) : s.setGo.wf := h.raise.ite h.update

theorem State.wf.advance {s : State} {n : Nat} (h : s.wf) : (s.advance n).wf := h.update

theorem State.wf.tickEffects {s : State} (h : s.wf) : s.tickEffects.wf :=
  .noteClean (.foldl h.applyRole fun _ _ hu => hu.applyGateEn)

theorem State.wf.tick {s : State} {n : Nat} (h : s.wf) : (s.tick n).wf := by
  unfold State.tick
  split
  · exact h
  · extract_lets _ _ u u1
    have hu : u.wf := h.update
    have hu1 : u1.wf := by
      unfold u1
      split
      · exact hu.loadTime.advance
      · exact h.advance
    exact hu1.tickEffects

/-! ### Ring entries -/

theorem State.wf.ringConfig {s : State} {r off w st q : Nat} (h : s.wf) : (s.ringConfig r off w st q).2.wf := by
  unfold State.ringConfig
  extract_lets u u1
  have hu : u.wf := h.put
  have hu1 : u1.wf := hu.setWord
  split
  · exact hu
  · exact hu1.put.ite hu1

theorem State.wf.badIndex {s : State} {r : Nat} (h : s.wf) : (s.badIndex r).wf := h.raise

theorem State.wf.prodWrite {s : State} {r v : Nat} (h : s.wf) : (s.prodWrite r v).wf := h.ite (h.put.ite h.badIndex)

theorem State.wf.consWrite {s : State} {r v : Nat} (h : s.wf) : (s.consWrite r v).wf :=
  h.ite ((h.put.jrPass.ite h.put).ite h.badIndex)

theorem State.wf.stallRings {s : State} {rr : Nat} (h : s.wf) : (s.stallRings rr).wf :=
  .foldl h fun _ _ hu => hu.put.raise.ringEvent.ite hu

theorem State.wf.putResult {s : State} {rr : Nat} {ws : List Nat} (h : s.wf) : (s.putResult rr ws).wf :=
  h.ringPut.inc.stallRings.ite h.ringPut.inc

theorem State.wf.stopIfDue {s : State} {r : Nat} (h : s.wf) : (s.stopIfDue r).wf := h.setRing.put.ite h

theorem State.wf.entryDone {s : State} {r : Nat} {e : Running} (h : s.wf) : (s.entryDone r e).wf :=
  ((h.setRing.put.ite h.setRing.put).bump.ringAdvance.ringEvent.ite (h.setRing.put.ite
    h.setRing.put).bump.ringAdvance).stopIfDue

theorem State.wf.unrun {s : State} {r : Nat} (h : s.wf) : (s.unrun r).wf := by
  unfold State.unrun
  extract_lets _
  split
  · exact h.setRing.ite h.setRing.put
  · exact h

theorem State.wf.entryFailed {s : State} {r : Nat} {e : Running} {st : Nat} (h : s.wf) : (s.entryFailed r e st).wf :=
  h.setRing.put.put.put.put.raise.bump.ringEvent.unrun.stopIfDue.ite h.setRing.put.put.put.put.raise.bump.ringEvent

theorem State.wf.entryOutcome {s : State} {r : Nat} {e : Running} {st : Nat} (h : s.wf) : (s.entryOutcome r e st).wf :=
  h.entryDone.ite h.entryFailed

theorem State.wf.completeEntry {s : State} {r : Nat} {e : Running} {st bytes detail : Nat} (h : s.wf) :
    (s.completeEntry r e st bytes detail).wf :=
  (h.putResult.entryOutcome.ite (h.ite (h.setRing.setRing.stallRings.ite
    h.setRing.setRing.stallRings.entryFailed))).ite h.entryOutcome

theorem State.wf.stallRelease {s : State} {rr : Nat} (h : s.wf) : (s.stallRelease rr).wf := by
  unfold State.stallRelease
  split
  · exact h
  · extract_lets _ u
    have hu : u.wf := by
      unfold u
      split
      · exact h
      · exact h.setRing.putResult.entryDone.ite h.setRing.putResult
    exact .ite hu (.foldl hu fun _ _ hu => hu.put.ite hu)

theorem State.wf.startStatus {s : State} {r : Nat} (h : s.wf) : (s.startStatus r).2.wf := by
  unfold State.startStatus
  extract_lets _ _ _ _
  split
  · exact h
  · split
    · exact h
    · exact h.permit

theorem State.wf.ringStart {s : State} {r : Nat} (h : s.wf) : (s.ringStart r).2.wf := by
  unfold State.ringStart
  split
  · rename_i _ _ u hr
    have hu : u.wf := snd_wf hr h.startStatus
    split
    · exact hu
    · exact (hu.ite hu.put).put

theorem State.wf.ringStop {s : State} {r : Nat} (h : s.wf) : (s.ringStop r).2.wf := by
  unfold State.ringStop
  split
  · exact h
  · exact h
  · exact h.unrun.put
  · split
    · exact h.setRing
    · exact h.put

theorem State.wf.ringResume {s : State} {r : Nat} (h : s.wf) : (s.ringResume r).2.wf := by
  unfold State.ringResume
  extract_lets _
  split
  · exact h
  · split
    · exact h
    · exact h.unrun.put

theorem State.wf.ringSkip {s : State} {r : Nat} (h : s.wf) : (s.ringSkip r).2.wf := by
  unfold State.ringSkip
  split
  · exact h
  · extract_lets u _ u1
    have hu : u.wf := h.put
    have hu1 : u1.wf := hu.setRing
    split
    · exact hu1.completeEntry
    · exact hu

theorem State.wf.ringReset {s : State} {r : Nat} (h : s.wf) : (s.ringReset r).2.wf := by
  unfold State.ringReset
  split
  · exact h
  · exact h.put.put.put.put.setRing.setCapRing.put

theorem State.wf.ringCmd {s : State} {r op : Nat} (h : s.wf) : (s.ringCmd r op).wf := by
  unfold State.ringCmd
  extract_lets r1
  have hr1 : r1.2.wf := by
    unfold r1
    split
    · exact h.ringStart
    · exact h.ringStop
    · exact h.ringResume
    · exact h.ringSkip
    · exact h.ringReset
    · exact h
  exact hr1.put

theorem State.wf.ringCommand {s : State} {r op : Nat} (h : s.wf) : (s.ringCommand r op).wf := h.ringCmd.ite h

theorem State.wf.fetchEntry {s : State} {r : Nat} {x : Running × State} (h : s.wf) (hx : s.fetchEntry r = some x) :
    x.2.wf := by
  unfold State.fetchEntry at hx
  dsimp only at hx
  split at hx
  · cases hx
    exact h.setRing
  · split at hx
    · cases hx
    · cases hx
      exact h.put

theorem State.wf.fillShadow {s : State} {e c : Nat} {ws : List Nat} (h : s.wf) : (s.fillShadow e c ws).wf :=
  .foldl h fun _ _ hu => hu.put

theorem State.wf.finish {s : State} {r st bytes detail : Nat} (h : s.wf) : (s.finish r st bytes detail).wf :=
  h.setRing

theorem State.wf.executeEntry {s : State} {r : Nat} (h : s.wf) : (s.executeEntry r).wf := by
  unfold State.executeEntry
  extract_lets b k e c
  refine h.ite (h.ite ?_)
  split
  · exact h
  · rename_i heq
    exact h.stallRings.ite
      ((h.fetchEntry heq).setRing.finish.ite ((h.fetchEntry heq).setRing.fillShadow.ite
        ((h.fetchEntry heq).setRing.ite (h.fetchEntry heq).setRing.finish)))

theorem State.wf.txFrame {s : State} {r : Nat} {ws : List Nat} (h : s.wf) : (s.txFrame r ws).2.2.wf := by
  unfold State.txFrame
  extract_lets _ _ _ _ _
  split
  · exact h
  · split
    · rename_i _ _ u hr
      have hu : u.wf := snd_wf hr h.permit
      split
      · exact hu
      · split
        · exact hu
        · extract_lets _
          split
          · exact hu.arrive
          · exact hu.relay

theorem State.wf.ringPush {s : State} {r : Nat} {ds : List (List Nat)} (h : s.wf) : (s.ringPush r ds).2.2.2.wf := by
  unfold State.ringPush
  split
  · exact h
  · exact h.setRing

/-! ### The DMA engines -/

theorem State.wf.setChan {s : State} {e c : Nat} {x : DmaChan} (h : s.wf) : (s.setChan e c x).wf := h.update

theorem State.wf.regionRight {s : State} {q e a n : Nat} {w : Bool} (h : s.wf) : (s.regionRight q e a n w).2.wf := by
  unfold State.regionRight
  split
  · exact h
  · extract_lets _
    split
    · rename_i _ _ u hr
      have hu : u.wf := snd_wf hr h.hasRight
      split
      · exact hu.hasRight
      · exact hu

theorem State.wf.portRight {s : State} {q e l : Nat} (h : s.wf) : (s.portRight q e l).2.wf := by
  unfold State.portRight
  split
  · rename_i _ _ u hr
    have hu : u.wf := snd_wf hr h.hasRight
    split
    · exact hu.hasRight
    · exact hu

/-- The rights are asked in turn, each in the state the one before it left. -/
theorem State.wf.allRights {s : State} {fs : List (State → Bool × State)} (h : s.wf)
    (hfs : ∀ f ∈ fs, ∀ u : State, u.wf → (f u).2.wf) : (allRights s fs).2.wf := by
  induction fs generalizing s with
  | nil => exact h
  | cons f fs ih =>
    have hf : (f s).2.wf := hfs f List.mem_cons_self s h
    unfold Machine.allRights
    dsimp only
    split
    · exact ih hf fun g hg => hfs g (List.mem_cons_of_mem f hg)
    · exact hf

theorem State.wf.endTransfer {s : State} {e c st bytes detail : Nat} (h : s.wf) :
    (s.endTransfer e c st bytes detail).wf := by
  unfold State.endTransfer
  extract_lets _ u u1 u2 u3
  have hu : u.wf := h.put.put.put
  have hu1 : u1.wf := hu.add
  have hu2 : u2.wf := hu1.inc.ite hu1
  have hu3 : u3.wf := hu2.setChan
  split
  · exact hu3.put.finish
  · exact hu3.put

theorem State.wf.moveBytes {s : State} {ws : List Nat} {dir : Bool} {n : Nat} (h : s.wf) : (s.moveBytes ws dir n).wf := by
  unfold State.moveBytes
  split
  · exact h.setMemBytes
  · exact h.setMemBytes
  · exact h

theorem State.wf.haltTransfer {s : State} {e c st units : Nat} {spoil : Bool} (h : s.wf) :
    (s.haltTransfer e c st units spoil).wf :=
  (h.moveBytes.freeRange.ite h.moveBytes).endTransfer

theorem State.wf.powerDown {s : State} {d : Drain} (h : s.wf) : (s.powerDown d).wf := by
  unfold State.powerDown
  split
  · exact h.ite h.setSlice.putBit
  · exact h.putBit.loseMemory.putBit.ite h.putBit.loseMemory
  · exact h.setBank

theorem State.wf.drainsDone {s : State} (h : s.wf) : s.drainsDone.wf :=
  .foldl h fun _ _ hu => hu.ite hu.update.powerDown

theorem State.wf.journalAbort {s : State} {e c n : Nat} (h : s.wf) : (s.journalAbort e c n).wf := h.raise.report

theorem State.wf.requestDown {s : State} {kind i : Nat} {fence : Bool} (h : s.wf) : (s.requestDown kind i fence).wf :=
  .drainsDone (.foldl h.putBit.update fun _ _ hu => hu.endTransfer)

theorem State.wf.abortTouching {s : State} {kind i : Nat} {units : List (Nat × Nat)} (h : s.wf) :
    (s.abortTouching kind i units).wf :=
  .foldl h fun _ _ hu => hu.haltTransfer.journalAbort

theorem State.wf.regionRights {s : State} {q e : Nat} {ws : List Nat} (h : s.wf) :
    (Machine.allRights s ((s.dmaRegions ws).map (fun r (s : State) => s.regionRight q e r.1 r.2.1 r.2.2) ++
      (if dmaOp ws = 5 then [fun (s : State) => s.portRight q e (dmaLane ws)] else []))).2.wf := by
  refine h.allRights fun f hf u hu => ?_
  rcases List.mem_append.mp hf with hf | hf
  · obtain ⟨r, -, rfl⟩ := List.mem_map.mp hf
    exact hu.regionRight
  · split at hf
    · rw [List.mem_singleton.mp hf]
      exact hu.portRight
    · cases hf

theorem State.wf.loadStatus {s : State} {q e : Nat} {ws : List Nat} (h : s.wf) : (s.loadStatus q e ws).2.wf := by
  have hr := h.regionRights (q := q) (e := e) (ws := ws)
  unfold State.loadStatus
  refine .ite_snd h ?_
  split
  · exact h
  · split
    rename_i heq
    have hu := snd_wf heq hr
    exact .ite_snd hu (.ite_snd hu (.ite_snd hu (.ite_snd hu hu)))

theorem State.wf.loadTransfer {s : State} {e c q : Nat} (h : s.wf) : (s.loadTransfer e c q).wf :=
  h.loadStatus.put.put.put.put.put.put.put.setChan.put.ite (h.loadStatus.put.put.put.put.put.put.put.endTransfer.ite
    h.loadStatus.put.put.put.put.put.put.put.endTransfer.put)

theorem State.wf.dmaGo {s : State} {e c q : Nat} (h : s.wf) : (s.dmaGo e c q).wf :=
  h.put.ite (h.put.ite (h.put.loadTransfer.ite h.setChan.put.put))

theorem State.wf.shadowWrite {s : State} {e c k w : Nat} (h : s.wf) : (s.shadowWrite e c k w).wf :=
  h.put.ite (h.put.ite h.put.put)

theorem State.wf.transferLoad {s : State} {e c : Nat} (h : s.wf) : (s.transferLoad e c).wf := by
  unfold State.transferLoad
  extract_lets _
  split
  · exact h
  · split
    · split
      · exact h.loadTransfer.ite h
      · exact h
    · exact h.put.loadTransfer.ite h

theorem State.wf.transferDone {s : State} {e c : Nat} (h : s.wf) : (s.transferDone e c).wf := by
  unfold State.transferDone
  extract_lets _ _ _
  split
  · exact h
  · split
    · exact h.endTransfer
    · exact h.endTransfer.ite h
    · exact h.endTransfer.ite h
    · exact h.moveBytes.endTransfer

theorem State.wf.frameOut {s : State} {e c : Nat} (h : s.wf) : (s.frameOut e c).wf :=
  h.ite (h.endTransfer.ite (h.ite h.relay.setChan.put))

theorem State.wf.busError {s : State} {e c units : Nat} (h : s.wf) : (s.busError e c units).wf :=
  h.ite h.add.add.haltTransfer.raise.report.drainsDone

theorem State.wf.faultRing {s : State} {r : Nat} (h : s.wf) : (s.faultRing r).wf := by
  unfold State.faultRing
  refine h.ite ?_
  split
  · exact h.completeEntry
  · exact h.completeEntry
  · split
    · rename_i heq
      exact (h.fetchEntry heq).completeEntry
    · exact h.completeEntry

theorem State.wf.engineFault {s : State} {e addr : Nat} {units : List (Nat × Nat)} (h : s.wf) :
    (s.engineFault e addr units).wf :=
  .drainsDone (.foldl (.foldl (.foldl (.foldl h.add.put.put.raise fun _ _ hu => hu.haltTransfer) fun _ _ hu =>
    hu.endTransfer) fun _ _ hu => hu.faultRing) fun _ _ hu => hu.report)

theorem State.wf.engineClear {s : State} {e : Nat} (h : s.wf) : (s.engineClear e).wf := h.put

theorem State.wf.clearHalt {s : State} {e c : Nat} (h : s.wf) : (s.clearHalt e c).wf := h.put.ite h

end Sys2Proof.Machine
end

/-!
PROOFS. The canonical form (O5) through structure, self-test, modes and power.
-/

section
namespace Sys2Proof.Machine

/-! ### Structure and rebuilding -/

theorem State.wf.buildModule {s : State} {im : Image} {anchor : Nat} (h : s.wf) : (s.buildModule im anchor).wf := by
  have him : State.wf { s.forgetDdr with image := im } := wf_mk_eq.mpr (h.forgetDdr_canonical h.1 im)
  have hlanes := (him.put (b := A.sc) (f := SC_INFO_CELLS) (v := im.clocks)).put (b := A.hm) (f :=
    HM_INFO_SHARED_CELLS)
    (v := im.sharedCells)
  unfold State.buildModule
  exact State.wf.put (.foldl (.put (.put (.put (.foldl hlanes fun _ _ hu => hu.put.put.put.put.put)))) fun _ _ hu =>
    hu.put)

theorem State.wf.buildPort {s : State} {im : Image} {p : PortRec} (h : s.wf) : (s.buildPort im p).wf := by
  unfold State.buildPort
  extract_lets _ u _ u1 u2 _ u3
  have hu : u.wf := h.put.put
  have hu1 : u1.wf := by
    unfold u1
    split
    · exact hu.put.put.put.put
    · exact hu
  have hu2 : u2.wf := hu1.put.put.ite hu1
  have hu3 : u3.wf := .foldl hu2 fun _ _ hu => hu.put.put.put.put.put
  exact hu3.setRate

theorem State.wf.buildSlice {s : State} {im : Image} {n : Nat} (h : s.wf) : (s.buildSlice im n).wf := by
  unfold State.buildSlice
  extract_lets u u1 u2 u3 _ u4
  have hu : u.wf := by
    unfold u
    split
    · exact h.put.put
    · exact h
  have hu1 : u1.wf := hu.put.put
  have hu2 : u2.wf := hu1.put.put
  have hu3 : u3.wf := hu2.put
  have hu4 : u4.wf := .foldl hu3 fun _ _ hu => hu.put.put.put.put
  exact .foldl hu4 fun _ _ hu => hu.buildPort

theorem State.wf.emptySlice {s : State} {n : Nat} (h : s.wf) : (s.emptySlice n).wf :=
  .foldl (.foldl h.dropHeld.dropLaunches fun _ _ hu => .foldl hu.setFeed fun _ _ hu => hu.freeHeld) fun _ _ hu =>
    .foldl hu.setWire fun _ _ hu => hu.loseTx

theorem State.wf.resetSlice {s : State} {n : Nat} {keep : Bool} (h : s.wf) : (s.resetSlice n keep).wf :=
  h.emptySlice.put.clearWords.update

theorem State.wf.forgetCell {s : State} {c : Nat} (h : s.wf) : (s.forgetCell c).wf := h.clearWords.update

theorem State.wf.rehome {s old : State} {c a : Nat} (h : s.wf) : (s.rehome old c a).wf := by
  unfold State.rehome
  split
  · exact .foldl h fun _ _ hu => hu.setWord
  · exact h

theorem State.wf.settleCells {s old : State} {n : Nat} (h : s.wf) : (s.settleCells old n).wf := by
  unfold State.settleCells
  refine .foldl ?_ fun u _ hu => ?_
  · exact h
  · split
    · exact hu.rehome.ite hu.forgetCell
    · exact hu

theorem State.wf.copyTable {s : State} {base : Nat → Nat} {m n : Nat} (h : s.wf) : (s.copyTable base m n).wf :=
  .foldl h fun _ _ hu => hu.setWord.ite hu

theorem State.wf.loadReplica {s : State} {n : Nat} (h : s.wf) : (s.loadReplica n).wf := by
  unfold State.loadReplica
  extract_lets u u1
  have hu : u.wf := h.clearWords
  have hu1 : u1.wf := hu.copyTable.copyTable
  split
  · exact hu1.applyItems
  · exact hu1

theorem State.wf.copyFr {s : State} {n : Nat} (h : s.wf) : (s.copyFr n).wf := by
  unfold State.copyFr
  split
  · exact h
  · exact .foldl h fun _ _ hu => hu.setWord.ite (hu.setWord.ite hu)

theorem State.wf.showGolden {s : State} {n : Nat} (h : s.wf) : (s.showGolden n).wf := by
  unfold State.showGolden
  extract_lets u
  have hu : u.wf := by
    unfold u
    refine .foldl ?_ fun u1 _ hu1 => ?_
    · exact h
    · split
      · exact hu1.put.put.put.classOpen.showGates
      · exact hu1
  exact hu.sgShowPool

theorem State.wf.rebuildSlice {s : State} {im : Image} {n : Nat} {keep : Bool} (h : s.wf) :
    (s.rebuildSlice im n keep).wf := by
  have him : State.wf { s.resetSlice n keep with
      image := { im with ddrG := (s.resetSlice n keep).image.ddrG, ddrCh := (s.resetSlice n keep).image.ddrCh } } :=
    h.resetSlice.relayout rfl rfl
  unfold State.rebuildSlice
  exact (him.buildSlice.put.settleCells.loadReplica.copyFr.showGolden.put.put.foldl fun _ _ hu =>
    hu.countCell).recount

theorem State.wf.imResult {s : State} {tag st fail x1 offset : Nat} (h : s.wf) :
    (s.imResult tag st fail x1 offset).wf :=
  h.put.inc.put.put.put.put.put

theorem State.wf.buildFailed {s : State} {im : Option Image} {fail : Option Nat} (h : s.wf) :
    (s.buildFailed im fail).wf := by
  unfold State.buildFailed
  extract_lets r
  have hr : r.2.wf := by
    unfold r
    split
    · exact h
    · exact h.fresh
  split
  · exact hr.imResult
  · exact hr.put

theorem State.wf.dropBuilds {s : State} {p : Nat → Bool} (h : s.wf) : (s.dropBuilds p).wf :=
  .foldl h.update fun _ _ hu => hu.buildFailed

theorem State.wf.saveSlices {s : State} (h : s.wf) : s.saveSlices.wf := h.update

theorem State.wf.restoreSlice {s : State} {n : Nat} (h : s.wf) : (s.restoreSlice n).wf :=
  .update (.foldl h fun _ _ hu => hu.setWord.ite (hu.setWord.ite hu))

/-! ### Self-test items -/

theorem State.wf.logTest {s : State} {x : TestItem} {outcome us units failed repaired left first errors : Nat}
    (h : s.wf) : (s.logTest x outcome us units failed repaired left first errors).wf :=
  h.update.setMemWords.formEvent.raise

theorem State.wf.endItem {s : State} {x : TestItem} {outcome : Nat} (h : s.wf) : (s.endItem x outcome).wf :=
  h.logTest

theorem State.wf.startItem {s : State} {x : TestItem} (h : s.wf) : (s.startItem x).wf := h.update

theorem State.wf.runItems {n : Nat} {s : State} (h : s.wf) : (State.runItems n s).wf := by
  induction n generalizing s with
  | zero => exact h
  | succ n ih =>
    unfold State.runItems
    split
    · exact h
    · split
      · exact h
      · split
        · exact ih (State.wf.endItem h.update)
        · exact ih (State.wf.startItem h.update)

theorem State.wf.runQueue {s : State} (h : s.wf) : s.runQueue.wf := h.runItems

theorem State.wf.abortItems {s : State} {p : TestItem → Bool} (h : s.wf) : (s.abortItems p).wf :=
  .runQueue (.foldl h.update fun _ _ hu => hu.endItem)

theorem State.wf.testResult {s : State} {tag ticket st : Nat} (h : s.wf) : (s.testResult tag ticket st).wf :=
  h.put.put.inc.put

theorem State.wf.nextTicket {s : State} (h : s.wf) : s.nextTicket.wf := h.update

theorem State.wf.testRequest {s : State} {i t tag : Nat} (h : s.wf) : (s.testRequest i t tag).wf :=
  h.testResult.ite (h.testResult.ite ((h.testResult.ite h.nextTicket.update.testResult).ite
    h.nextTicket.startItem.testResult))

theorem State.wf.testCancel {s : State} {ticket tag : Nat} (h : s.wf) : (s.testCancel ticket tag).wf := by
  unfold State.testCancel
  split
  · exact h.update.endItem.testResult.runQueue
  · exact h.update.testResult.ite h.update.endItem.testResult.runQueue
  · exact h.testResult

theorem State.wf.recordItem {s : State} {x : TestItem} {f : Finding} {outcome : Nat} (h : s.wf) :
    (s.recordItem x f outcome).wf := by
  unfold State.recordItem
  extract_lets _ _ _ u
  have hu : u.wf := by
    unfold u
    split
    · exact h.update
    · exact h
  exact hu.logTest

/-! ### Modes -/

theorem State.wf.mdStatus {s : State} {st : Nat} (h : s.wf) : (s.mdStatus st).wf := h.put

theorem State.wf.powerOffSlices {s : State} (h : s.wf) : s.powerOffSlices.wf :=
  .foldl (.put (.foldl (.foldl h fun _ _ hu => hu.emptySlice.ite hu) fun _ _ hu => hu.setSlice.ite hu)) fun _ _ hu
    => hu.setBank

theorem State.wf.quitPair {s : State} (h : s.wf) : s.quitPair.wf := h.put.put.update

theorem State.wf.enterHalt {s : State} {c : Nat} (h : s.wf) : (s.enterHalt c).wf :=
  .selectInput (.put (.put (.foldl h.quitPair.toMode fun _ _ hu => hu.linkLoss)))

theorem State.wf.dropTraffic {s : State} (h : s.wf) : s.dropTraffic.wf :=
  .update (.foldl (.foldl h.add fun _ _ hu => hu.emptySlice.ite hu) fun _ _ hu => hu.put)

theorem State.wf.enterPark {s : State} (h : s.wf) : s.enterPark.wf :=
  .foldl (.foldl (.foldl (.foldl h.saveSlices.update.dropBuilds.quitPair.toMode.abortItems.dropTraffic fun _ _ hu =>
    hu.idleFeed) fun _ _ hu => hu.linkLoss) fun _ _ hu => hu.requestDown.ite hu) fun _ _ hu => hu.requestDown.ite hu

theorem State.wf.enterMode {s : State} {m c : Nat} (h : s.wf) : (s.enterMode m c).wf := by
  unfold State.enterMode
  split
  · exact h.enterPark
  · exact h.enterHalt
  · exact h.quitPair.toMode

theorem State.wf.depart {s : State} {m c : Nat} (h : s.wf) : (s.depart m c).wf := h.put.update.ite h.enterMode

theorem State.wf.finishLeaving {s : State} (h : s.wf) : s.finishLeaving.wf := by
  unfold State.finishLeaving
  split
  · exact h.enterMode
  · exact h

theorem State.wf.heartbeatSend {s : State} (h : s.wf) : s.heartbeatSend.wf := by
  unfold State.heartbeatSend
  extract_lets u _
  have hu : u.wf := h.heartbeat
  split
  · exact hu
  · split
    · exact hu.update
    · exact hu.finishLeaving
    · exact hu

theorem State.wf.wakeSlice {s : State} {n : Nat} (h : s.wf) : (s.wakeSlice n).wf :=
  .foldl h.resetSlice.buildSlice.restoreSlice.loadReplica.setSlice.putBit fun _ _ hu => hu.countCell

theorem State.wf.applyAging {s : State} {d : Nat} (h : s.wf) : (s.applyAging d).wf := h.put

theorem State.wf.wake {s : State} (h : s.wf) : s.wake.wf :=
  .toMode (.foldl (.foldl (.update (.foldl (.foldl h.update.put.put fun _ _ hu => hu.setBank) fun _ _ hu =>
    hu.applyAging)) fun _ _ hu => hu.ite (hu.setSlice.ite hu.wakeSlice)) fun _ _ hu => hu.startMatrix.ite hu)

theorem State.wf.mdCommand {s : State} {allowed : Bool} {f : State → State} (h : s.wf) (hf : ∀ u, u.wf → (f u).wf) :
    (s.mdCommand allowed f).wf := (hf _ h.mdStatus).ite h.mdStatus

theorem State.wf.goService {s : State} (h : s.wf) : s.goService.wf :=
  .mdCommand h (fun _ hu => (hu.ite hu.update).ite hu.serveAs)

theorem State.wf.enterReset {s : State} {c : Nat} (h : s.wf) : (s.enterReset c).wf := by
  unfold State.enterReset
  extract_lets m t
  have ht : t.wf := wf_mk_eq.mpr (h.forgetDdr_canonical rfl {})
  exact (ht.foldl fun _ _ hu => hu.ite hu.setWord).put.put

/-! ### Fences -/

theorem State.wf.missHeld {s : State} {h : Held} {cause : Nat} (hs : s.wf) : (s.missHeld h cause).wf :=
  hs.freeHeld.bump.raise.streamMissed.event.journalMiss

theorem State.wf.stopTraffic {s : State} {n : Nat} (h : s.wf) : (s.stopTraffic n).wf :=
  .foldl (.resolveGone (.foldl (.update (.foldl h fun _ _ hu => hu.miss)) fun _ _ hu => hu.missHeld)) fun _ _ hu =>
    .foldl hu.setFeed fun _ _ hu => hu.freeHeld

theorem State.wf.toReshape {s : State} {c : Nat} (h : s.wf) : (s.toReshape c).wf := h.toMode.put.ite h

theorem State.wf.leaveReshape {s : State} (h : s.wf) : s.leaveReshape.wf := h.toMode.ite h

theorem State.wf.fenceSlice {s : State} {n st cause why : Nat} (h : s.wf) : (s.fenceSlice n st cause why).wf :=
  ((h.abortItems.stopTraffic.ite h.abortItems).setSlice.requestDown.ite (h.abortItems.stopTraffic.ite
    h.abortItems).setSlice).update.dropBuilds.raise.toReshape.report

theorem State.wf.linkFence {s : State} {n k : Nat} (h : s.wf) : (s.linkFence n k).wf :=
  h.put.bump.report.fenceSlice.ite h.put.bump.report

theorem State.wf.railFence {s : State} {n : Nat} {units : List (Nat × Nat)} (h : s.wf) : (s.railFence n units).wf :=
  .foldl (h.fenceSlice.ite h.setSlice).abortTouching.putBit.update fun _ _ hu => hu.linkLoss

theorem State.wf.fenceStatus {s : State} {st : Nat} (h : s.wf) : (s.fenceStatus st).wf := h.put

theorem State.wf.fence {s : State} {n : Nat} (h : s.wf) : (s.fence n).wf :=
  h.fenceStatus.fenceSlice.ite h.fenceStatus

theorem State.wf.fenceDrained {s : State} {n : Nat} (h : s.wf) : (s.fenceDrained n).wf :=
  h.ite (h.update.putBit.setSlice.ite h.update.putBit)

theorem State.wf.unfence {s : State} {n : Nat} (h : s.wf) : (s.unfence n).wf :=
  (h.fenceStatus.ite h.fenceStatus.update).ite h.fenceStatus

theorem State.wf.unfenceEffective {s : State} {n : Nat} (h : s.wf) : (s.unfenceEffective n).wf := by
  unfold State.unfenceEffective
  split
  · exact h.ite h.update.setSlice.leaveReshape
  · exact h

theorem State.wf.startBuild {s : State} {n : Nat} {im : Option Image} (h : s.wf) : (s.startBuild n im).wf :=
  .update (.setSlice (.foldl h.abortItems fun _ _ hu => hu.linkLoss))

theorem State.wf.rebuild {s : State} {n : Nat} (h : s.wf) : (s.rebuild n).wf :=
  h.fenceStatus.startBuild.ite h.fenceStatus

theorem State.wf.ddrFence {s : State} {c : Nat} (h : s.wf) : (s.ddrFence c).wf :=
  h.fenceStatus.raise.abortItems.requestDown.toReshape.ite h.fenceStatus

theorem State.wf.ddrUnfence {s : State} {c : Nat} (h : s.wf) : (s.ddrUnfence c).wf :=
  h.fenceStatus.update.ite h.fenceStatus

theorem State.wf.ddrUnfenced {s : State} {c : Nat} (h : s.wf) : (s.ddrUnfenced c).wf :=
  h.ite h.update.putBit.putBit.putBit.loseMemory.leaveReshape

theorem State.wf.fenceCommand {s : State} {op kind n : Nat} (h : s.wf) : (s.fenceCommand op kind n).wf := by
  unfold State.fenceCommand
  split
  · exact h.fence
  · exact h.ddrFence
  · exact h.unfence
  · exact h.ddrUnfence
  · exact h.rebuild
  · exact h.fenceStatus

theorem State.wf.linkMismatch {s : State} {k o : Nat} (h : s.wf) : (s.linkMismatch k o).wf := by
  unfold State.linkMismatch
  split
  · exact h
  · split
    · exact h.raise.report
    · exact h.update.report
    · exact h.setScene.report
    · exact h.report
    · exact h.report
    · exact h.report

theorem State.wf.flitReceive {s : State} {n k failed : Nat} {bad : Option (Nat × Nat)} (h : s.wf) :
    (s.flitReceive n k failed bad).wf := by
  unfold State.flitReceive
  extract_lets _ u
  have hu : u.wf := h.add
  split
  · exact h
  · split
    · exact hu.linkFence
    · split
      · exact hu.linkMismatch
      · exact hu

/-! ### The firmware switch -/

theorem State.wf.setFwNew {s : State} {p : FwPart} {v : Bool} (h : s.wf) : (s.setFwNew p v).wf := by
  unfold State.setFwNew
  split
  · exact h.putBit
  · exact h.put
  · exact h.putBit

theorem State.wf.fwPause {s : State} (h : s.wf) : s.fwPause.wf := h.put

theorem State.wf.fwExchange {s : State} (h : s.wf) : s.fwExchange.wf := .foldl h fun _ _ hu => hu.put.put

theorem State.wf.fwEnd {s : State} (h : s.wf) : s.fwEnd.wf := by
  unfold State.fwEnd
  split
  · exact h.fwExchange.put.raise
  · exact h.put.raise.reportOther.ite h.fwExchange.put
  · exact h

theorem State.wf.fwRun {n : Nat} {s : State} (h : s.wf) : (State.fwRun n s).wf := by
  induction n generalizing s with
  | zero => exact h
  | succ n ih =>
    unfold State.fwRun
    split
    · exact h
    · split
      · exact h.fwEnd.fwPause
      · split
        · exact h
        · exact ih h.setFwNew.update.fwPause

theorem State.wf.fwStart {s : State} {st : Nat} {failed : Bool} (h : s.wf) : (s.fwStart st failed).wf :=
  h.update.put.fwPause

theorem State.wf.fwStatus {s : State} {st : Nat} (h : s.wf) : (s.fwStatus st).wf := h.put

theorem State.wf.fwSwitch {s : State} (h : s.wf) : s.fwSwitch.wf := h.fwStatus.fwStart.ite h.fwStatus

theorem State.wf.fwRollback {s : State} (h : s.wf) : s.fwRollback.wf := h.fwStatus.fwStart.ite h.fwStatus

theorem State.wf.fwTimeout {s : State} (h : s.wf) : s.fwTimeout.wf := by
  unfold State.fwTimeout
  split
  · exact h.fwStart
  · exact h

/-! ### Background tasks -/

theorem State.wf.passEnd {s : State} {t us found : Nat} (h : s.wf) : (s.passEnd t us found).wf :=
  h.inc.inc.put.put.inc

theorem State.wf.pass {s : State} {t us : Nat} {f : State → Nat × State} (h : s.wf) (hf : ∀ u, u.wf → (f u).2.wf) :
    (s.pass t us f).wf := (hf s h).passEnd.ite h

theorem State.wf.scrubEntry {s : State} {key k n count : Nat} (h : s.wf) : (s.scrubEntry key k n count).wf :=
  .limited h (fun _ _ hu => hu.reportOther)

theorem State.wf.replicaRepair {s : State} {n x : Nat} (h : s.wf) : (s.replicaRepair n x).wf := h.bump.reportOther

theorem State.wf.loseFrame {s : State} {l x q : Nat} (h : s.wf) : (s.loseFrame l x q).wf := by
  unfold State.loseFrame
  extract_lets _
  split
  · exact h.update.missHeld
  · exact h.update.freeLaunch.bump.raise.raise.streamMissed.event.journalMiss
  · exact h

theorem State.wf.retireCells {s : State} {bad : List Nat} {hit : List (Nat × Nat × Nat)} (h : s.wf) :
    (s.retireCells bad hit).wf :=
  .foldl (.foldl h fun _ _ hu => hu.loseFrame) fun _ _ hu => hu.retireCell

theorem State.wf.storedMismatch {s : State} {k o : Nat} (h : s.wf) : (s.storedMismatch k o).wf := by
  unfold State.storedMismatch
  split
  · split
    · exact h.raise.report
    · exact h
  · exact h.linkMismatch

theorem State.wf.constMismatch {s : State} {a : Nat} (h : s.wf) : (s.constMismatch a).wf := by
  unfold State.constMismatch
  split
  · exact h
  · extract_lets u u1
    have hu : u.wf := h.inc
    have hu1 : u1.wf := hu.report
    split
    · exact hu1.fenceSlice.ite hu1
    · exact hu1.enterHalt

theorem State.wf.ddrError {s : State} {a : Nat} (h : s.wf) : (s.ddrError a).wf := h.report

theorem State.wf.noteFail {s : State} {f : Finding} {outcome : Nat} (h : s.wf) : (s.noteFail f outcome).wf :=
  h.update.ite h

theorem State.wf.taskItem {s : State} {f : Finding} {hit : List (Nat × Nat × Nat)} (h : s.wf) :
    (s.taskItem f hit).wf := by
  unfold State.taskItem
  split
  · exact h.ite h.scrubEntry
  · exact .foldl h fun _ _ hu => hu.replicaRepair
  · exact h.retireCells
  · exact .foldl h fun _ _ hu => hu.ddrError
  · exact h

theorem State.wf.badLane {s : State} {j : Nat} (h : s.wf) : (s.badLane j).wf :=
  .foldl h.update fun _ _ hu => hu.linkLoss

theorem State.wf.ddrOut {s : State} {c : Nat} (h : s.wf) : (s.ddrOut c).wf := h.putBit.putBit.putBit

theorem State.wf.offlineFail {s : State} {f : Finding} (h : s.wf) : (s.offlineFail f).wf := by
  unfold State.offlineFail
  split
  · exact .foldl h fun _ _ hu => hu.badLane
  · exact h.ddrOut.toReshape
  · exact h.retireCells
  · exact h.update.fenceSlice.ite h.update.setSlice
  · exact h

theorem State.wf.overwritten {s : State} {f : Finding} (h : s.wf) : (s.overwritten f).wf := by
  unfold State.overwritten
  split
  · exact h.loseMemory
  · exact h.loseMemory
  · exact h

theorem State.wf.itemEnd {s : State} {x : TestItem} {f : Finding} {hit : List (Nat × Nat × Nat)} (h : s.wf) :
    (s.itemEnd x f hit).wf :=
  (h.overwritten.offlineFail.ite h.overwritten).taskItem.noteFail.recordItem

theorem State.wf.testDone {s : State} {ticket : Nat} {f : Finding} {hit : List (Nat × Nat × Nat)} (h : s.wf) :
    (s.testDone ticket f hit).wf := by
  unfold State.testDone
  split
  · exact h.update.itemEnd.runQueue
  · exact h

theorem State.wf.rotate {s : State} {f : Finding} {hit : List (Nat × Nat × Nat)} (h : s.wf) : (s.rotate f hit).wf := by
  unfold State.rotate
  split
  · exact .ite h (.pass h (fun _ hu => hu.update.itemEnd))
  · exact h

/-! ### Power -/

theorem State.wf.latchWord {s : State} {m : Nat} (h : s.wf) : (s.latchWord m).wf := h.update

theorem State.wf.supplyGood {s : State} {addr : Nat} (h : s.wf) : (s.supplyGood addr).wf :=
  (h.ite h.put).put.put.put.applyAging

theorem State.wf.loseAll {s : State} (h : s.wf) : s.loseAll.wf := .foldl h fun _ _ hu => hu.loseMemory

theorem State.wf.allRailsOff {s : State} (h : s.wf) : s.allRailsOff.wf := h.put.put.loseAll

theorem State.wf.vinLow {s : State} {below9 : Bool} (h : s.wf) : (s.vinLow below9).wf :=
  (h.put.latchWord.ite (h.put.latchWord.raise.powerOffSlices.ite
    h.put.latchWord.raise.powerOffSlices.enterHalt)).allRailsOff.ite (h.put.latchWord.ite
    (h.put.latchWord.raise.powerOffSlices.ite h.put.latchWord.raise.powerOffSlices.enterHalt))

theorem State.wf.ddrRailLost {s : State} {c : Nat} {units : List (Nat × Nat)} (h : s.wf) :
    (s.ddrRailLost c units).wf :=
  h.abortTouching.loseMemory.update.ddrOut.report.enterHalt.ite
    h.abortTouching.loseMemory.update.ddrOut.report.toReshape

theorem State.wf.railFault {s : State} {kind i : Nat} {units : List (Nat × Nat)} (h : s.wf) :
    (s.railFault kind i units).wf := by
  unfold State.railFault
  split
  · exact h.raise.railFence.ite h
  · exact h.ddrRailLost.ite h
  · exact h.ite h.raise.enterHalt
  · exact h

theorem State.wf.domainStatus {s : State} {st : Nat} (h : s.wf) : (s.domainStatus st).wf := h.put

theorem State.wf.domainOff {s : State} {b : Nat} (h : s.wf) : (s.domainOff b).wf :=
  h.domainStatus.ite (h.domainStatus.requestDown.ite h.domainStatus)

theorem State.wf.domainRaise {s : State} {b : Nat} (h : s.wf) : (s.domainRaise b).wf :=
  h.domainStatus.ite (h.update.putBit.domainStatus.ite h.update.putBit.setBank.domainStatus)

theorem State.wf.showCap {s : State} (h : s.wf) : s.showCap.wf := (h.bump.ite h).put.fwPause

theorem State.wf.capEvaluate {s : State} {w : Nat} (h : s.wf) : (s.capEvaluate w).wf :=
  (h.update.showCap.ite h.update.showCap.put).raise.reportOther.ite (h.update.showCap.ite h.update.showCap.put)

theorem State.wf.storeTemps {s : State} {d : Nat} {ts : List Int} (h : s.wf) : (s.storeTemps d ts).wf := by
  induction ts generalizing s d with
  | nil => exact h
  | cons t ts ih => exact ih (h.putI.putI.ite h.putI)

theorem State.wf.thermalWarn {s : State} {t : Int} (h : s.wf) : (s.thermalWarn t).wf :=
  h.update.raise.latchWord.reportOther.ite (h.update.ite h)

theorem State.wf.thermalCap {s : State} {t : Int} (h : s.wf) : (s.thermalCap t).wf :=
  h.update.raise.showCap.ite (h.update.showCap.ite h)

theorem State.wf.thermalShut {s : State} {t : Int} (h : s.wf) : (s.thermalShut t).wf := by
  unfold State.thermalShut
  split
  · exact h.update
  · split
    · exact h.update
    · exact h.ite h.update.latchWord.powerOffSlices.enterHalt.put

theorem State.wf.showTherm {s : State} (h : s.wf) : s.showTherm.wf := h.ite h.put

theorem State.wf.temperatureRead {s : State} {ts : List Int} (h : s.wf) : (s.temperatureRead ts).wf := by
  unfold State.temperatureRead
  split
  · exact h
  · exact h.storeTemps.update.ite h.storeTemps.update.thermalWarn.thermalCap.showTherm.thermalShut

theorem State.wf.sendHealth {s : State} (h : s.wf) : s.sendHealth.wf :=
  .formEvent (.ite (.sendPair (.foldl h.update fun _ _ hu => hu.put)) (.foldl h.update fun _ _ hu => hu.put))

theorem State.wf.measure {s : State} {vin iin power vaux : Nat} (h : s.wf) : (s.measure vin iin power vaux).wf :=
  h.put.put.put.put.inc

theorem State.wf.ageDie {s : State} {d ppm : Nat} (h : s.wf) : (s.ageDie d ppm).wf :=
  h.put.put.ite ((h.put.put.put.put.applyAging.ite h.put.put.put.put.update).ite (h.put.put.raise.reportOther.ite
    h.put.put))

theorem State.wf.addHour {s : State} (h : s.wf) : s.addHour.wf := h.update.put.put.putI

/-! ### Contacts -/

theorem State.wf.pmbus {s : State} {b : Bytes} (h : s.wf) : (s.pmbus b).wf := h.emit.ite h

theorem State.wf.clearFaults {s : State} (h : s.wf) : s.clearFaults.wf := h.update

theorem State.wf.pmbusValue {s : State} {n : Int} {d : Nat} (h : s.wf) : (s.pmbusValue n d).wf := h.pmbus

theorem State.wf.tapLoad {s : State} {i v : Nat} (h : s.wf) : (s.tapLoad i v).wf := h.update.emit.ite h

theorem State.wf.tapTest {s : State} {i : Nat} (h : s.wf) : (s.tapTest i).wf :=
  h.tapLoad.ite (h.tapLoad.ite h.fresh.tapLoad)

end Sys2Proof.Machine
end

/-!
PROOFS. The canonical form (O5) through boot, register writes, the bus and the transport.
-/

section
namespace Sys2Proof.Machine

/-! ### Register reads -/

theorem State.wf.readEffect {s : State} {a : Nat} (h : s.wf) : (s.readEffect a).wf := by
  unfold State.readEffect
  split
  · exact h
  · split
    · exact h
    · extract_lets _ _ _
      split
      · exact h.gateNext.ite (h.sgNext.ite (h.mxNext.ite h))
      · exact h.tbNowRead.ite (h.tpCapRead.ite (h.scNowRead.ite h))

theorem State.wf.readReg {s : State} {a : Nat} (h : s.wf) : (s.readReg a).2.wf := h.readEffect

/-! ### Image and boot -/

theorem State.wf.showKey {s : State} {q : Nat} (h : s.wf) : (s.showKey q).wf := h.put.put.put

theorem State.wf.phase {s : State} {p : Nat} (h : s.wf) : (s.phase p).wf := h.put

theorem State.wf.resetEnd {s : State} {sel dimm : Nat} (h : s.wf) : (s.resetEnd sel dimm).wf :=
  .ite h (.phase (.toMode (.foldl h.update.put fun _ _ hu => hu.showKey)))

theorem State.wf.verified {s : State} {r : Option ImageFail} (h : s.wf) : (s.verified r).wf := by
  unfold State.verified
  extract_lets u
  have hu : u.wf := h.put
  split
  · exact hu.put.ite hu
  · exact hu

theorem State.wf.beginLoad {s : State} {b : Bytes} {c : Crypto} {source : Nat} (h : s.wf) :
    (s.beginLoad b c source).wf :=
  .foldl (.foldl (.foldl h.update.put.toMode.phase.put.put.put.put fun _ _ hu => hu.setBank) fun _ _ hu =>
    hu.setSlice) fun _ _ hu => hu.applyAging

theorem State.wf.flashFailed {s : State} (h : s.wf) : s.flashFailed.wf :=
  h.put.phase.update.ite (h.update.enterHalt.ite h.update.phase)

theorem State.wf.flashRead {s : State} {b : Bytes} {c : Crypto} (h : s.wf) : (s.flashRead b c).wf := by
  unfold State.flashRead
  dsimp only
  refine h.ite ?_
  split
  · exact h.verified.beginLoad
  · exact h.verified.flashFailed

theorem State.wf.imRefuse {s : State} {tag : Nat} (h : s.wf) : (s.imRefuse tag).wf := h.put.inc.put.put

theorem State.wf.imFail {s : State} {tag : Nat} {f : ImageFail} (h : s.wf) : (s.imFail tag f).wf := h.imResult

theorem State.wf.imVerify {s : State} {tag : Nat} {c : Crypto} (h : s.wf) : (s.imVerify tag c).wf := by
  unfold State.imVerify
  dsimp only
  refine h.imRefuse.ite ?_
  split
  · exact h.verified.imFail
  · exact h.verified.imResult

theorem State.wf.stageFirmware {s : State} {b : Bytes} {c : Crypto} (h : s.wf) : (s.stageFirmware b c).wf :=
  .ite (.fwStart (.put (.put (.put (.put (.update (.foldl h fun _ _ hu => hu.put))))))) (.put (.put (.put (.put
    (.update (.foldl h fun _ _ hu => hu.put))))))

theorem State.wf.loadVerified {s : State} {tag : Nat} {b : Bytes} {c : Crypto} (h : s.wf) :
    (s.loadVerified tag b c).wf := by
  unfold State.loadVerified
  extract_lets f
  split
  · exact h.put.update.beginLoad
  · exact h.put.update.startBuild
  · split
    · exact h.imResult.stageFirmware
    · split
      · exact h.imFail
      · exact h

theorem State.wf.imLoad {s : State} {tag : Nat} {c : Crypto} (h : s.wf) : (s.imLoad tag c).wf := by
  unfold State.imLoad
  dsimp only
  refine h.imRefuse.ite (h.imRefuse.ite ?_)
  split
  · exact h.verified.imFail
  · exact h.verified.loadVerified

theorem State.wf.freshCrypto {s : State} (h : s.wf) : s.freshCrypto.2.wf := h.update

theorem State.wf.imCommand {s : State} {op tag : Nat} (h : s.wf) : (s.imCommand op tag).wf := by
  unfold State.imCommand
  split
  · exact h.freshCrypto.imVerify
  · exact h.freshCrypto.imLoad
  · exact h.imRefuse

theorem State.wf.secStatus {s : State} {st : Nat} (h : s.wf) : (s.secStatus st).wf := h.put

theorem State.wf.secverRaise {s : State} {v : Nat} (h : s.wf) : (s.secverRaise v).wf :=
  h.secStatus.ite h.put.put.secStatus

theorem State.wf.anchorRevoke {s : State} {m : Nat} (h : s.wf) : (s.anchorRevoke m).wf :=
  h.secStatus.ite h.put.put.secStatus

/-! ### Snapshots -/

theorem State.wf.mayReadAll {s : State} {q : Nat} {as : List Nat} (h : s.wf) : (s.mayReadAll q as).2.wf := by
  unfold State.mayReadAll
  refine .foldl_snd ?_ fun r _ hr => ?_
  · exact h
  · split
    · exact hr.hasRight
    · exact hr

theorem State.wf.snapStatus {s : State} {q : Nat} (h : s.wf) : (s.snapStatus q).2.wf := by
  unfold State.snapStatus
  extract_lets _ _ r
  have hr : r.2.wf := h.mayReadAll
  split
  · exact h
  · split
    · split
      · exact h
      · exact hr
    · split
      · exact h
      · exact hr

theorem State.wf.snapResult {s : State} {b st : Nat} (h : s.wf) : (s.snapResult b st).wf := h.put.put

theorem State.wf.snapshot {s : State} {b tag q : Nat} (h : s.wf) : (s.snapshot b tag q).wf := by
  unfold State.snapshot
  extract_lets r u _ u1 _ u2 u3
  have hr : r.2.wf := h.snapStatus
  have hu : u.wf := hr.snapResult
  have hu1 : u1.wf := by
    unfold u1
    refine .foldl ?_ fun u4 _ hu4 => ?_
    · exact hu
    · split
      · exact hu4.setWord
  have hu2 : u2.wf := hu1.put.put
  have hu3 : u3.wf := hu2.put.put
  exact hu.ite hu3.put.put

theorem State.wf.clearBank {s : State} {b : Nat} (h : s.wf) : (s.clearBank b).wf := h.clearWords.snapResult

theorem State.wf.snapCommand {s : State} {op b tag q : Nat} (h : s.wf) : (s.snapCommand op b tag q).wf := by
  unfold State.snapCommand
  split
  · exact h.snapshot
  · exact h.clearBank
  · exact h.put

/-! ### Register writes -/

theorem State.wf.bad {s : State} (h : s.wf) : s.bad.2.wf := h

theorem State.wf.store {s : State} {a new : Nat} (h : s.wf) : (s.store a new).2.wf := h.setWord

theorem State.wf.writeTb {s : State} {o a w new : Nat} (h : s.wf) : (s.writeTb o a w new).2.wf := by
  unfold State.writeTb
  extract_lets _ u _ _ u1
  have hu : u.wf := h.store
  have hu1 : u1.wf := h.clearFaulty.ite h
  split
  · split
    · exact h.bad
    · split
      · exact hu
      · exact hu.update.formAddend
  · split
    · exact h.setGo.ite h
    · split
      · exact hu.selectInput
      · split
        · exact hu
        · split
          · split
            · exact h.bad
            · exact hu.showInput
          · split
            · exact hu1.flushPd.ite hu1
            · exact hu

theorem State.wf.writeTp {s : State} {o a w new : Nat} (h : s.wf) : (s.writeTp o a w new).2.wf := by
  unfold State.writeTp
  extract_lets _ u u1 r
  have hu : u.wf := h.store
  have hu1 : u1.wf := hu.tpDisarm.ite hu
  have hr : r.2.wf := hu1.tpArm
  split
  · exact hu
  · split
    · split
      · exact hr
      · exact h
    · exact hu1

theorem State.wf.writeSc {s : State} {o a new : Nat} (h : s.wf) : (s.writeSc o a new).2.wf := by
  unfold State.writeSc
  extract_lets _
  split
  · exact h.store
  · split
    · split
      · exact h.cellCtrl
      · exact h.bad
    · split
      · split
        · exact h.bad
        · exact h.store
      · exact h.store

theorem State.wf.writeHm {s : State} {o a w new : Nat} (h : s.wf) : (s.writeHm o a w new).2.wf := by
  unfold State.writeHm
  split
  · split
    · exact h.bad
    · exact .foldl h.store fun _ _ hu => hu.pressure
  · split
    · refine .ofSnd ?_
      split
      · exact h.feedRead
      · exact h.feedWrite
      · exact h.feedClear
      · exact h.feedReset
      · exact h.put
    · exact h.store

theorem State.wf.writeLn {s : State} {n o a w new : Nat} (h : s.wf) : (s.writeLn n o a w new).2.wf := by
  unfold State.writeLn
  split
  · refine .ofSnd ?_
    split
    · exact h.rwRead
    · exact h.rwWrite
    · exact h.put
  · split
    · exact h.store
    · exact h.store

theorem State.wf.writePe {s : State} {l r a w new : Nat} (h : s.wf) : (s.writePe l r a w new).2.wf := by
  unfold State.writePe
  split
  · exact ((h.store.ite h.store.setMerge).startVerify.ite (h.store.ite h.store.setMerge)).refreshPe.recredit
  · split
    · exact h.restartVerify.ite h
    · exact h.store

theorem State.wf.classCtrl {s : State} {l k a new : Nat} (h : s.wf) : (s.classCtrl l k a new).2.wf := by
  unfold State.classCtrl
  extract_lets _ _ u u1
  have hu : u.wf := h.recredit.setCredit
  have hu1 : u1.wf := hu.store.put
  split
  · exact hu1.algoApply.recredit
  · exact h.bad

theorem State.wf.dropFlow {s : State} {l f : Nat} (h : s.wf) : (s.dropFlow l f).wf :=
  .recredit (.groupIdle (.foldl h.setFlow fun _ _ hu => hu.bump.freeRelay))

theorem State.wf.writeSh {s : State} {l r a new : Nat} (h : s.wf) : (s.writeSh l r a new).2.wf := by
  unfold State.writeSh
  extract_lets u _ u1 _ _
  have hu : u.wf := h.store
  have hu1 : u1.wf := h.recredit.store
  split
  · split
    · exact h.bad
    · exact hu
  · split
    · split
      · exact h.classCtrl
      · split
        · exact hu1.recredit
        · exact h.bad
    · split
      · exact hu.put
      · split
        · exact hu.dropFlow
        · exact hu

theorem State.wf.cellWrite {s : State} {c a new : Nat} (h : s.wf) : (s.cellWrite c a new).2.wf := by
  unfold State.cellWrite
  extract_lets _ r
  have hr : r.2.wf := h.store.enableCell
  split
  · exact h.bad
  · split
    · exact hr
    · exact h

theorem State.wf.writeCl {s : State} {n o a new : Nat} {idx : List Nat} (h : s.wf) : (s.writeCl n o a new idx).2.wf := by
  unfold State.writeCl
  split
  · exact h.store
  · split
    · exact h
    · split
      · exact h.markWrite
      · split
        · exact h.nodeWrite
        · extract_lets _ _ _
          split
          · exact h.store
          · split
            · exact h.cellWrite
            · split
              · exact h.bad
              · split
                · exact h.bad
                · exact h.store

theorem State.wf.writeGd {s : State} {n o a w new : Nat} (h : s.wf) : (s.writeGd n o a w new).2.wf := by
  unfold State.writeGd
  split
  · exact h.setDrift.ite h
  · exact h.store

theorem State.wf.writePr {s : State} {n o a new : Nat} (h : s.wf) : (s.writePr n o a new).2.wf := by
  unfold State.writePr
  split
  · split
    · exact h.bad
    · exact h.update.store
  · exact h.store

theorem State.wf.writeCf {s : State} {n o a w new : Nat} {idx : List Nat} (h : s.wf) :
    (s.writeCf n o a w new idx).2.wf := by
  unfold State.writeCf
  split
  · exact h.cfCommand
  · split
    · exact h.bad
    · exact h.store

theorem State.wf.writeSt {s : State} {n o a w new : Nat} {r : RegDef} (h : s.wf) : (s.writeSt n o a w new r).2.wf := by
  unfold State.writeSt
  split
  · exact h.store
  · split
    · exact h.stCommand
    · split
      · exact h.groupCommand
      · split
        · exact h.setWord.sgControl
        · split
          · exact h.fmCommand
          · exact h.store

theorem State.wf.writeFr {s : State} {n o a w new : Nat} (h : s.wf) : (s.writeFr n o a w new).2.wf := by
  unfold State.writeFr
  split
  · exact h.genCommand
  · split
    · exact h.recCommand
    · exact h.store

theorem State.wf.writeFi {s : State} {l r a new : Nat} (h : s.wf) : (s.writeFi l r a new).2.wf := by
  unfold State.writeFi
  split
  · exact h
  · split
    · exact h.tskew
    · split
      · split
        · exact h.injCtrl
        · exact h.bad
      · exact h.store

theorem State.wf.writeMss {s : State} {n o a new : Nat} {idx : List Nat} (h : s.wf) :
    (s.writeMss n o a new idx).2.wf := by
  unfold State.writeMss
  extract_lets _ _
  split
  · split
    · exact h.bad
    · exact h.store.evcWritten
  · split
    · exact h.store
    · split
      · split
        · exact h.bad
        · exact h.store.bwWritten
      · split
        · exact h.store.lsWritten
        · exact h.store

theorem State.wf.writeMs {s : State} {o a w new q : Nat} (h : s.wf) : (s.writeMs o a w new q).2.wf := by
  unfold State.writeMs
  extract_lets _
  split
  · exact h.snapCommand
  · split
    · exact h.drainRead
    · split
      · exact h.drainRead
      · exact h.store

theorem State.wf.writeJr {s : State} {o a new : Nat} (h : s.wf) : (s.writeJr o a new).2.wf := by
  unfold State.writeJr
  split
  · extract_lets _
    split
    · exact h.bad
    · exact h.store
  · split
    · exact h.settleBucket.store
    · exact h.store

theorem State.wf.writeCp {s : State} {o a new : Nat} (h : s.wf) : (s.writeCp o a new).2.wf := by
  unfold State.writeCp
  split
  · extract_lets _ u
    have hu : u.wf := h.store
    split
    · exact h.store
    · split
      · exact h.bad
      · exact hu.restartExports.ite hu
  · split
    · exact h.bad
    · exact h.store

theorem State.wf.writeRg {s : State} {o a w new q : Nat} {ok : Bool} (h : s.wf) : (s.writeRg o a w new q ok).2.wf := by
  unfold State.writeRg
  extract_lets _ _ _
  split
  · exact h.ringConfig
  · split
    · exact h.ringConfig
    · split
      · exact h.prodWrite
      · split
        · exact h.consWrite
        · split
          · exact h.ringCommand
          · exact h.store

theorem State.wf.writeDm {s : State} {o a w new q : Nat} (h : s.wf) : (s.writeDm o a w new q).2.wf :=
  h.store.ite_snd (((h.engineClear.ite h).ite_snd h.store).ite_snd (h.shadowWrite.ite_snd ((h.dmaGo.ite h).ite_snd
    ((h.clearHalt.ite h).ite_snd h.store))))

theorem State.wf.pairEnable {s : State} {was now : Bool} (h : s.wf) : (s.pairEnable was now).wf :=
  (h.finishLeaving.update.serveAs.ite h.finishLeaving).ite (h.put.ite h)

theorem State.wf.writeUp {s : State} {o a w new : Nat} (h : s.wf) : (s.writeUp o a w new).2.wf := by
  unfold State.writeUp
  split
  · exact h.store.pairEnable
  · split
    · exact h.resync.ite h
    · exact h.store

theorem State.wf.writeBg {s : State} {o a new : Nat} (h : s.wf) : (s.writeBg o a new).2.wf := by
  unfold State.writeBg
  split
  · exact h.bad
  · exact h.store

theorem State.wf.writePw {s : State} {o a w new : Nat} (h : s.wf) : (s.writePw o a w new).2.wf := by
  unfold State.writePw
  split
  · refine .ofSnd ?_
    split
    · exact h.domainOff
    · exact h.domainRaise
    · exact h.domainStatus
  · exact h.store

theorem State.wf.modeCommand {s : State} {op : Nat} (h : s.wf) : (s.modeCommand op).wf := by
  unfold State.modeCommand
  split
  · exact h.goService
  · exact .mdCommand h (fun _ hu => hu.depart)
  · exact .mdCommand h (fun _ hu => hu.wake)
  · exact .mdCommand h (fun _ hu => hu.depart)
  · exact .mdCommand h (fun _ hu => hu.toMode)
  · exact .mdCommand h (fun _ hu => hu.depart)
  · exact h.enterReset
  · exact h.mdStatus

theorem State.wf.testCommand {s : State} {w : Nat} (h : s.wf) : (s.testCommand w).wf := by
  unfold State.testCommand
  split
  · exact h.testRequest
  · exact h.testCancel
  · exact h.testResult

theorem State.wf.writeMd {s : State} {o a w new : Nat} (h : s.wf) : (s.writeMd o a w new).2.wf := by
  unfold State.writeMd
  split
  · exact h.modeCommand
  · split
    · exact h.fenceCommand
    · split
      · refine .ofSnd ?_
        split
        · exact h.fwSwitch
        · exact h.fwRollback
        · exact h.fwStatus
      · exact h.testCommand.ite_snd ((h.store.update.ite h.store).ite_snd h.store)

theorem State.wf.writeIm {s : State} {o a w new : Nat} (h : s.wf) : (s.writeIm o a w new).2.wf :=
  h.imCommand.ite_snd h.store

theorem State.wf.writeSlice {s : State} {n blk o a w new : Nat} {f : Found} (h : s.wf) :
    (s.writeSlice n blk o a w new f).2.wf := by
  unfold State.writeSlice
  extract_lets _
  split
  · exact h.writePr
  · exact h.writeCf
  · exact h.writeSt
  · exact h.writeLn
  · exact h.writePe
  · split
    · exact h.store
    · exact h.writeSh
  · exact h.writeCl
  · exact h.writeGd
  · exact h.writeFr
  · split
    · exact h.store
    · exact h.writeFi
  · exact h.writeMss
  · exact h.store

theorem State.wf.writeModule {s : State} {page o a w new q : Nat} {ok : Bool} (h : s.wf) :
    (s.writeModule page o a w new q ok).2.wf :=
  h.writeRg.ite_snd (h.bad.ite_snd (h.writeIm.ite_snd (h.writeMd.ite_snd (h.writePw.ite_snd (h.writeBg.ite_snd
    (h.writeTb.ite_snd (h.writeSc.ite_snd (h.writeTp.ite_snd (h.writeDm.ite_snd (h.writeJr.ite_snd
      (h.writeCp.ite_snd
    (h.writeUp.ite_snd (h.writeMs.ite_snd (h.writeHm.ite_snd h.store))))))))))))))

theorem State.wf.plainWrite {s : State} {q a w : Nat} {f : Found} (h : s.wf) : (s.plainWrite q a w f).2.wf := by
  unfold State.plainWrite
  split
  · exact h
  · extract_lets _ _ _
    split
    · exact h.writeSlice.ite_snd h.bad
    · exact h.writeModule

/-! ### Requests to the bus -/

theorem State.wf.rejectPair {s : State} {q a : Nat} (h : s.wf) : (s.rejectPair q a).wf := (h.raise.ite h).report

theorem State.wf.setArm {s : State} {a : Nat} {x : Option Arm} (h : s.wf) : (s.setArm a x).wf := h.update

theorem State.wf.commitSlice {s : State} {n a o v : Nat} {idx : List Nat} (h : s.wf) :
    (s.commitSlice n a o v idx).2.wf := by
  unfold State.commitSlice
  extract_lets u _ _ _ _ _ u1
  have hu : u.wf := h.store
  have hu1 : u1.wf := h.store
  split
  · split
    · exact h.gateDataWrite
    · split
      · exact hu.gateCmd
      · exact hu
  · split
    · exact h
    · split
      · split
        · exact hu
        · exact h
      · split
        · exact h.mxWrite
        · split
          · exact h.mxCycWrite
          · split
            · exact h.mxHdrWrite
            · split
              · split
                · exact hu.matrixCmd
                · exact h
              · exact hu
  · split
    · exact h.sgDataWrite
    · split
      · exact hu1.sgCmd
      · exact hu1

theorem State.wf.commitPair {s : State} {a w : Nat} {f : Found} (h : s.wf) : (s.commitPair a w f).2.wf := by
  unfold State.commitPair
  extract_lets _
  split
  · exact h.bad
  · split
    · exact h.commitSlice
    · split
      · exact h.commitAddend
      · split
        · exact h.stepAuth
        · split
          · exact h.store.segCommand
          · split
            · exact h.secverRaise
            · split
              · exact h.anchorRevoke
              · exact h.store

theorem State.wf.armPair {s : State} {q a w : Nat} (h : s.wf) : (s.armPair q a w).wf := h.setArm

theorem State.wf.expireArm {s : State} {a : Nat} (h : s.wf) : (s.expireArm a).wf := by
  unfold State.expireArm
  split
  · exact h
  · exact h.ite h.setArm.rejectPair

theorem State.wf.complementPair {s : State} {q a w : Nat} {f : Found} (h : s.wf) : (s.complementPair q a w f).2.wf := by
  unfold State.complementPair
  extract_lets u u1
  have hu : u.wf := by
    unfold u
    split
    · exact h.expireArm.ite h
    · exact h
  have hu1 : u1.wf := hu.setArm
  split
  · exact hu.rejectPair
  · split
    · exact hu1.commitPair
    · exact hu1.rejectPair

theorem State.wf.regWrite {s : State} {q a w : Nat} (h : s.wf) : (s.regWrite q a w).2.wf := by
  unfold State.regWrite
  split
  · exact h.armPair.ite h
  · split
    · exact h.plainWrite
    · split
      · exact h.complementPair.ite_snd h
      · exact h

theorem State.wf.busGet {s : State} {a : Nat} (h : s.wf) : (s.busGet a).2.wf := by
  unfold State.busGet
  split
  · exact h.readReg
  · exact h

theorem State.wf.busPut {s : State} {q a w : Nat} (h : s.wf) : (s.busPut q a w).2.wf :=
  h.regWrite.ite_snd h.setMemWord

theorem State.wf.busCheck {s : State} {q : Nat} {g : Right} {a n : Nat} (h : s.wf) : (s.busCheck q g a n).2.wf := by
  unfold State.busCheck
  split
  · exact h
  · split
    · exact h
    · exact h.permit

theorem State.wf.busRead {s : State} {q a : Nat} (h : s.wf) : (s.busRead q a).2.2.wf := by
  unfold State.busRead
  split
  · rename_i _ _ u hr
    have hu : u.wf := snd_wf hr h.busCheck
    split
    · exact hu
    · exact hu.busGet

theorem State.wf.busWrite {s : State} {q a w : Nat} (h : s.wf) : (s.busWrite q a w).2.wf :=
  h.busCheck.ite_snd h.busCheck.busPut

theorem State.wf.busPair {s : State} {q a w : Nat} (h : s.wf) : (s.busPair q a w).2.wf := by
  unfold State.busPair
  split
  · rename_i _ _ u hr
    have hu : u.wf := snd_wf hr h.busCheck
    split
    · exact hu
    · split
      · exact hu.bad
      · split
        · exact hu.setArm.commitPair
        · exact hu

theorem State.wf.busRmw {s : State} {q a mask value : Nat} (h : s.wf) : (s.busRmw q a mask value).2.2.wf := by
  unfold State.busRmw
  split
  · rename_i _ _ u hr
    have hu : u.wf := snd_wf hr h.busCheck
    extract_lets _
    split
    · exact hu
    · split
      · exact hu
      · exact hu.busGet.busPut

theorem State.wf.busWords {s : State} {a n : Nat} (h : s.wf) : (s.busWords a n).2.wf := by
  induction n generalizing s a with
  | zero => exact h
  | succ n ih => exact ih h.busGet

theorem State.wf.busStore {s : State} {q a : Nat} {ws : List Nat} (h : s.wf) : (s.busStore q a ws).2.2.wf := by
  induction ws generalizing s a with
  | nil => exact h
  | cons w ws ih =>
    unfold State.busStore
    dsimp only
    split
    · exact h.busPut
    · exact ih h.busPut

/-! ### The end of Load, Self-Test and Calibrate -/

theorem State.wf.showHeld {s : State} (h : s.wf) : s.showHeld.wf := h.put

theorem State.wf.provision {s : State} {ps : List ProvRec} {keys : List (Option Bytes)} (h : s.wf) :
    (s.provision ps keys).wf := by
  unfold State.provision
  refine .foldl ?_ fun u _ hu => ?_
  · exact h
  · extract_lets _ _ _
    split
    · exact hu
    · split
      · exact hu.reportOther
      · exact hu.update.showKey

theorem State.wf.unbuild {s : State} (h : s.wf) : s.unbuild.wf := by
  unfold State.unbuild
  extract_lets _ t t1 t2
  have ht : t.wf := wf_mk_eq.mpr (h.forgetDdr_canonical (SMap.wf_filter resetWord _ h.1) {})
  have ht2 : State.wf t2 := ht.clearWords.foldl fun _ _ hu => hu.setBank
  exact ht2.put.put

theorem State.wf.loadRefused {s : State} (h : s.wf) : s.loadRefused.wf :=
  h.unbuild.toMode.put.flashFailed.ite h.unbuild.toMode.put.phase.imFail

theorem State.wf.buildAll {s : State} {l : Loading} (h : s.wf) : (s.buildAll l).wf :=
  .foldl (.foldl h.buildModule fun _ _ hu => hu.buildSlice.ite hu) fun _ _ hu => hu.put

theorem State.wf.commitInitial {s t : State} {cs : List ConstRec} (h : s.wf) (ht : s.commitInitial cs = some t) : t.wf := by
  induction cs generalizing s with
  | nil =>
    cases ht
    exact h
  | cons c cs ih =>
    unfold State.commitInitial at ht
    split at ht
    · exact ih h ht
    · split at ht
      · cases ht
      · dsimp only at ht
        split at ht
        · exact ih h.commitPair ht
        · cases ht

theorem State.wf.loadDone {s : State} (h : s.wf) : s.loadDone.wf := by
  unfold State.loadDone
  split
  · exact h
  · dsimp only
    refine h.ite ?_
    split
    · exact h.loadRefused
    · rename_i t heq
      have ht : t.wf := by
        split at heq
        · exact h.buildAll.commitInitial heq
        · cases heq
      exact (ht.showHeld.provision.update.imResult.ite ht.showHeld.provision.update).toMode.phase

theorem State.wf.bootFail {s : State} {f : Finding} (h : s.wf) : (s.bootFail f).wf := by
  unfold State.bootFail
  split
  · exact .foldl h fun _ _ hu => hu.badLane
  · exact h.update.fenceSlice
  · exact h

theorem State.wf.bootItem {s : State} {f : Finding} (h : s.wf) : (s.bootItem f).wf := (h.bootFail.ite h).recordItem

theorem State.wf.selftestDone {s : State} {fs : List Finding} (h : s.wf) : (s.selftestDone fs).wf :=
  .ite h (.ite (.enterHalt (.foldl (.foldl h.loseMemory fun _ _ hu => hu.loseMemory) fun _ _ hu => hu.bootItem))
    (.phase (.toMode (.foldl (.foldl h.loseMemory fun _ _ hu => hu.loseMemory) fun _ _ hu => hu.bootItem))))

theorem State.wf.trainDdr {s : State} {f : Finding} (h : s.wf) : (s.trainDdr f).wf :=
  (h.loseMemory.ddrOut.ite h.loseMemory).recordItem

theorem State.wf.ddrDiffers {s : State} {c : Nat} (h : s.wf) : (s.ddrDiffers c).wf := h.fresh.ddrOut.report

theorem State.wf.sliceReady {s : State} {n : Nat} (h : s.wf) : (s.sliceReady n).wf := by
  unfold State.sliceReady
  split
  · exact h
  · split
    · exact h.setSlice
    · exact h.setSlice.ite h.fenceSlice

theorem State.wf.calibrateDdr {s : State} {fs : List Finding} {lost differ : List Nat} (h : s.wf) :
    (s.calibrateDdr fs lost differ).wf := by
  unfold State.calibrateDdr
  refine .foldl ?_ fun u _ hu => ?_
  · exact h
  · split
    · exact hu.ddrRailLost
    · split
      · exact hu.ddrDiffers
      · split
        · exact hu.trainDdr
        · exact hu

theorem State.wf.lockMap {s : State} (h : s.wf) : s.lockMap.wf := h.put.put.phase

theorem State.wf.calibrateDone {s : State} {fs : List Finding} {lost differ : List Nat} (h : s.wf) :
    (s.calibrateDone fs lost differ).wf :=
  .ite h (.ite (h.calibrateDdr.ite h) (.toMode (.update (.foldl ((h.calibrateDdr.ite h).lockMap.ite
    (h.calibrateDdr.ite h)) fun _ _ hu => hu.sliceReady))))

theorem rebuildSlice_layout (s : State) (im : Image) (n : Nat) (keep : Bool) :
    s.image.ddrG = (s.rebuildSlice im n keep).image.ddrG ∧ s.image.ddrCh = (s.rebuildSlice im n keep).image.ddrCh := by
  have hreset : (s.resetSlice n keep).image = s.image := State.imageIs.resetSlice rfl
  have him : State.imageIs { s.resetSlice n keep with
      image := { im with ddrG := (s.resetSlice n keep).image.ddrG, ddrCh := (s.resetSlice n keep).image.ddrCh } }
      { im with ddrG := (s.resetSlice n keep).image.ddrG, ddrCh := (s.resetSlice n keep).image.ddrCh } := rfl
  have hrebuilt : (s.rebuildSlice im n keep).imageIs _ :=
    (him.buildSlice.put.settleCells.loadReplica.copyFr.showGolden.put.put.foldl fun _ _ hu => hu.countCell).recount
  rw [hrebuilt, hreset]
  exact ⟨rfl, rfl⟩

theorem State.wf.buildDone {s : State} {n : Nat} {ok : Bool} (h : s.wf) : (s.buildDone n ok).wf := by
  unfold State.buildDone
  split
  · exact h
  · extract_lets -underBinder old t cs checked _ t1
    have ht : t.wf := h.rebuildSlice
    have ht1 : t1.wf := ht.update
    split
    · exact ht1.showHeld.setSlice.imResult.ite ht1.showHeld.setSlice
    · obtain ⟨hgran, hchannels⟩ := rebuildSlice_layout s _ n _
      exact (State.wf.setSlice (ht.relayout (image := old) hgran hchannels)).buildFailed

/-! ### Table loads -/

theorem State.wf.tableRecord {s : State} {e q w0 v : Nat} (h : s.wf) : (s.tableRecord e q w0 v).2.wf :=
  h.bad.ite_snd (h.busCheck.ite_snd (h.busCheck.busPair.ite_snd h.busCheck.busWrite))

theorem State.wf.tableRecords {e c n : Nat} {s : State} (h : s.wf) : (State.tableRecords e c n s).wf := by
  induction n generalizing s with
  | zero => exact h
  | succ n ih =>
    unfold State.tableRecords
    dsimp only
    split
    · exact h
    · split
      · exact h.tableRecord
      · split
        · exact h.tableRecord.endTransfer
        · exact ih h.tableRecord.setChan.put

theorem State.wf.transferStart {s : State} {e : Nat} (h : s.wf) : (s.transferStart e).wf := by
  unfold State.transferStart
  split
  · exact h
  · split
    · exact h
    · exact h.update.put.tableRecords.ite h.update.put

/-! ### The control transport -/

theorem State.wf.blockRead {s : State} {q a n : Nat} (h : s.wf) : (s.blockRead q a n).2.wf := by
  unfold State.blockRead
  split
  · rename_i _ _ u hr
    have hu : u.wf := snd_wf hr h.busCheck
    split
    · exact hu
    · exact hu.busWords

theorem State.wf.blockWrite {s : State} {q a : Nat} {ws : List Nat} (h : s.wf) : (s.blockWrite q a ws).2.wf := by
  unfold State.blockWrite
  split
  · rename_i _ _ u hr
    have hu : u.wf := snd_wf hr h.busCheck
    exact hu.ite_snd hu.busStore

theorem State.wf.pushOp {s : State} {q r k : Nat} {ws : List Nat} (h : s.wf) : (s.pushOp q r k ws).2.wf := by
  unfold State.pushOp
  split
  · rename_i _ _ u hr
    have hu : u.wf := snd_wf hr h.permit
    split
    · exact hu
    · split
      · rename_i _ _ _ _ u1 hr1
        have hu1 : u1.wf := snd3_wf hr1 hu.ringPush
        split
        · exact hu1
        · split
          · exact hu1.fresh
          · exact hu1

theorem State.wf.headCheck {s : State} {q r n : Nat} (h : s.wf) : (s.headCheck q r n).2.wf := by
  induction n generalizing s r with
  | zero => exact h
  | succ n ih =>
    unfold State.headCheck
    dsimp only
    split
    · exact h.permit
    · exact ih h.permit

theorem State.wf.headOp {s : State} {q r n : Nat} (h : s.wf) : (s.headOp q r n).2.wf := by
  unfold State.headOp
  split
  · rename_i _ _ u hr
    have hu : u.wf := snd_wf hr h.headCheck
    split
    · exact hu
    · exact hu

theorem State.wf.setXpChan {s : State} {q c : Nat} {x : XpChan} (h : s.wf) : (s.setXpChan q c x).wf := h.update

theorem State.wf.resetChannels {s : State} {q start : Nat} (h : s.wf) : (s.resetChannels q start).wf :=
  .foldl h fun _ _ hu => hu.setXpChan.put

theorem State.wf.helloOp {s : State} {q flags start : Nat} (h : s.wf) : (s.helloOp q flags start).2.wf := by
  unfold State.helloOp
  extract_lets _ _ u u1 _ _
  have hu : u.wf := h.update
  have hu1 : u1.wf := hu.resetChannels.ite hu
  split
  · exact h
  · exact hu1

theorem State.wf.setKeySlot {s : State} {q : Nat} {x : KeySlot} (h : s.wf) : (s.setKeySlot q x).wf := h.update

theorem State.wf.clearReplay {s : State} {q g : Nat} (h : s.wf) : (s.clearReplay q g).wf := h.update

theorem State.wf.keyOp {s : State} {q : Nat} {k : Bytes} (h : s.wf) : (s.keyOp q k).2.wf := by
  unfold State.keyOp
  split
  · rename_i _ _ u hr
    have hu : u.wf := snd_wf hr h.hasRight
    split
    · exact hu
    · exact hu.setKeySlot.clearReplay.showKey

theorem State.wf.operate {s : State} {q : Nat} {o : Operation} (h : s.wf) : (s.operate q o).2.wf := by
  unfold State.operate
  extract_lets bad one val wrap a n w
  have hbad : bad.2.wf := h
  exact h.ite_snd (hbad.ite_snd (.ite_snd (.ite_snd h.busRead hbad) (.ite_snd (.ite_snd h.busWrite hbad)
    (.ite_snd (.ite_snd h.busPair hbad) (.ite_snd (.ite_snd h.busRmw hbad) (.ite_snd (.ite_snd h.blockRead hbad)
    (.ite_snd (.ite_snd h.blockWrite hbad) (.ite_snd (.ite_snd h.pushOp hbad) (.ite_snd (.ite_snd h.headOp hbad)
    (.ite_snd (.ite_snd h.helloOp hbad) (.ite_snd (.ite_snd h.keyOp hbad) hbad)))))))))))

theorem State.wf.perform {s : State} {q : Nat} {o : Operation} (h : s.wf) : (s.perform q o).2.wf := by
  unfold State.perform
  extract_lets r
  have hr : r.2.wf := h.operate
  split
  · exact hr.ite hr.countDenied
  · exact hr

theorem State.wf.ask {s : State} {q : Nat} {o : Operation} (h : s.wf) : (s.ask q o).wf := by
  unfold State.ask
  split
  · exact h
  · extract_lets r
    have hr : r.2.wf := h.perform
    split
    · exact hr
    · exact hr.ite hr.emit

theorem State.wf.sendDatagram {s : State} {lane addr port kind q chan seq : Nat} {body : Bytes} (h : s.wf) :
    (s.sendDatagram lane addr port kind q chan seq body).wf :=
  h.emit.update

theorem State.wf.runBody {s : State} {q : Nat} {b : Bytes} (h : s.wf) : (s.runBody q b).2.wf := by
  unfold State.runBody
  split
  · exact h
  · extract_lets r
    have hr : r.2.wf := h.perform
    split
    · exact hr
    · split
      · exact hr
      · exact hr

theorem State.wf.reply {s : State} {q c : Nat} {r : XpRequest} {b : Bytes} (h : s.wf) : (s.reply q c r b).wf :=
  h.sendDatagram

theorem State.wf.runRequest {s : State} {q c : Nat} {r : XpRequest} (h : s.wf) : (s.runRequest q c r).wf := by
  unfold State.runRequest
  extract_lets r1 u _
  have hr1 : r1.2.wf := h.runBody
  have hu : u.wf := hr1.put
  split
  · exact hr1
  · exact hu.setXpChan.reply

theorem State.wf.runBuffered {q c n : Nat} {s : State} (h : s.wf) : (State.runBuffered q c n s).wf := by
  induction n generalizing s with
  | zero => exact h
  | succ n ih =>
    unfold State.runBuffered
    dsimp only
    split
    · exact h
    · exact ih h.setXpChan.runRequest

theorem State.wf.request {s : State} {q c : Nat} {r : XpRequest} (h : s.wf) : (s.request q c r).wf := by
  unfold State.request
  extract_lets _ _ _
  split
  · exact h.runRequest.runBuffered
  · split
    · exact h.ite h.setXpChan
    · split
      · exact h.bump.reply
      · exact h.bump

theorem State.wf.sendEvent {s : State} {e : SentEvent} (h : s.wf) : (s.sendEvent e).wf := h.sendDatagram

theorem State.wf.eventSend {s : State} (h : s.wf) : s.eventSend.wf := by
  unfold State.eventSend
  extract_lets _ _ _ _
  split
  · exact h
  · exact h.ite h.update.put.sendEvent

theorem State.wf.eventResend {s : State} (h : s.wf) : s.eventResend.wf :=
  .ite h (.foldl h.update fun _ _ hu => hu.bump.sendEvent)

theorem State.wf.ackEvents {s : State} {q c seq : Nat} (h : s.wf) : (s.ackEvents q c seq).wf := by
  unfold State.ackEvents
  extract_lets _ _
  split
  · exact h
  · exact h.update.put

theorem State.wf.laneUp {s : State} {k : Nat} (h : s.wf) : (s.laneUp k).wf :=
  .foldl h.put fun _ _ hu => hu.put.ite hu

theorem State.wf.laneDown {s : State} {k : Nat} (h : s.wf) : (s.laneDown k).wf :=
  .ite (.foldl h.put.bump.raise fun _ _ hu => hu.put.ite hu) h.put.bump.raise

theorem State.wf.authFail {s : State} (h : s.wf) : s.authFail.wf :=
  .limited h.bump.raise (fun _ _ hu => hu.reportOther)

theorem State.wf.turnKey {s : State} {q g : Nat} (h : s.wf) : (s.turnKey q g).wf :=
  h.ite h.setKeySlot.clearReplay.showKey.raise

theorem State.wf.noteSource {s : State} {q g : Nat} {d : Datagram} (h : s.wf) : (s.noteSource q g d).wf :=
  h.put.put.put.put.put

theorem State.wf.accepted {s : State} {q c : Nat} {d : Datagram} {body : Bytes} (h : s.wf) :
    (s.accepted q c d body).wf := by
  unfold State.accepted
  extract_lets _ r
  have hr : r.2.wf := h.runBody
  split
  · exact h.ackEvents
  · split
    · split
      · exact hr.reply
      · exact hr
    · exact h.request

theorem State.wf.datagram {s : State} {d : Datagram} (h : s.wf) : (s.datagram d).wf :=
  h.bump.bump.ite (h.bump.authFail.ite (h.bump.bump.ite (h.bump.bump.ite (h.bump.setKeySlot.ite
    h.bump.update).turnKey.noteSource.accepted)))

end Sys2Proof.Machine
end

/-!
PROOFS. The canonical form through every command, and O5.
-/

section
namespace Sys2Proof.Machine

/-- Every command answers a next state, and keeps the canonical form. -/
theorem State.wf.exec {s : State} (h : s.wf) (i : Instr) : ∃ t, Machine.exec i s = .next t ∧ t.wf :=
  match i with
  | .registerWrite .. => ⟨_, rfl, h.regWrite.ite h⟩
  | .rwpValueWrite .. => ⟨_, rfl, h.regWrite.ite h⟩
  | .rwpComplementWrite .. => ⟨_, rfl, h.regWrite.ite h⟩
  | .rwpArmExpiry .. => ⟨_, rfl, h.expireArm⟩
  | .dieLinkFlitReceive .. => ⟨_, rfl, h.flitReceive⟩
  | .rootPllLoss .. => ⟨_, rfl, h.ite h.enterHalt.report⟩
  | .timeBaseTick .. => ⟨_, rfl, h.tick.fwRun⟩
  | .sliceTimeCompare .. => ⟨_, rfl, .atSlice h (fun _ hu => hu.update.ite hu)⟩
  | .sliceTimeReload .. => ⟨_, rfl, h.update.reportOther.ite h⟩
  | .tbAddendCommit .. => ⟨_, rfl, h.commitAddend⟩
  | .tbRoleWrite .. => ⟨_, rfl, h.put.ite h⟩
  | .syncReceive .. => ⟨_, rfl, h.syncReceive⟩
  | .ppsInEdge .. => ⟨_, rfl, h.ppsEdge⟩
  | .holdoverTimeout .. => ⟨_, rfl, h.holdoverTimeout⟩
  | .stepAuth .. => ⟨_, rfl, h.stepAuth⟩
  | .stepApply .. => ⟨_, rfl, h.stepApply⟩
  | .ppsOutPulse .. => ⟨_, rfl, h.ppsOut⟩
  | .pdelayMeasurement .. => ⟨_, rfl, h.pdelayMeasure⟩
  | .suspectEnd .. => ⟨_, rfl, h.suspectEnd.ite h⟩
  | .delayReqSend .. => ⟨_, rfl, h.delayReq⟩
  | .delayRespReceive .. => ⟨_, rfl, h.delayResp⟩
  | .tpArm .. => ⟨_, rfl, .atPin h (fun _ hu => hu.tpArm)⟩
  | .tpDisarm .. => ⟨_, rfl, .atPin h (fun _ hu => hu.tpDisarm)⟩
  | .tpOutputCompare .. => ⟨_, rfl, .atPin h (fun _ hu => hu.tpCompare)⟩
  | .tpCaptureEdge .. => ⟨_, rfl, .atPin h (fun _ hu => hu.tpCapture)⟩
  | .tpCapSecRead .. => ⟨_, rfl, .atPin h (fun _ hu => hu.tpCapRead)⟩
  | .tbNowSecRead .. => ⟨_, rfl, h.tbNowRead⟩
  | .scNowSecRead .. => ⟨_, rfl, h.scNowRead.ite h⟩
  | .tbSetGo .. => ⟨_, rfl, h.setGo⟩
  | .flushPd .. => ⟨_, rfl, h.flushPd.ite h⟩
  | .clearFaulty .. => ⟨_, rfl, h.clearFaulty.ite h⟩
  | .physSyncSend .. => ⟨_, rfl, h.physSync⟩
  | .announceReceive .. => ⟨_, rfl, h.announceReceive⟩
  | .push .. => ⟨_, rfl, h.push.ite h⟩
  | .flush .. => ⟨_, rfl, h.flush.ite h⟩
  | .segNop .. => ⟨_, rfl, h.segNop.ite h⟩
  | .segmentSwitch .. => ⟨_, rfl, h.segmentSwitch⟩
  | .scCellEnable .. => ⟨_, rfl, h.cellEnable⟩
  | .frameConversion .. => ⟨_, rfl, h.convert⟩
  | .sceneSyncSend .. => ⟨_, rfl, h.sceneSync⟩
  | .sceneAnnounceSend .. => ⟨_, rfl, h.sceneAnnounce⟩
  | .envelopeFrame .. => ⟨_, rfl, h.receiveEnvelope⟩
  | .envelopeHeartbeat .. => ⟨_, rfl, h.receiveEnvelope⟩
  | .envelopeEndOfStream .. => ⟨_, rfl, h.receiveEnvelope⟩
  | .envelopeGrantRequest .. => ⟨_, rfl, h.receiveEnvelope⟩
  | .grantAnswerSend .. => ⟨_, rfl, h.grantAnswer⟩
  | .sourceTimeout .. => ⟨_, rfl, h.sourceTimeout⟩
  | .grantPeriod .. => ⟨_, rfl, h.grantPeriod⟩
  | .grantEventSend .. => ⟨_, rfl, h.grantEvents⟩
  | .lateTest .. => ⟨_, rfl, h.lateTest⟩
  | .holdLimitExpiry .. => ⟨_, rfl, h.holdLimit⟩
  | .hmFeedRead .. => ⟨_, rfl, h.feedRead⟩
  | .hmFeedWrite .. => ⟨_, rfl, h.feedWrite⟩
  | .clearCounts .. => ⟨_, rfl, h.feedClear⟩
  | .resetHold .. => ⟨_, rfl, h.feedReset⟩
  | .launchStage .. => ⟨_, rfl, h.stage.ite h⟩
  | .shadowOpen .. => ⟨_, rfl, .atPort h (fun _ hu => hu.noteDeferred.recredit.ite hu)⟩
  | .launch .. => ⟨_, rfl, h.launch.ite h⟩
  | .transmitComplete .. => ⟨_, rfl, .atPort h (fun _ hu => hu.transmitDone)⟩
  | .lnRwRead .. => ⟨_, rfl, .atSlice h (fun _ hu => hu.rwRead)⟩
  | .lnRwWrite .. => ⟨_, rfl, .atSlice h (fun _ hu => hu.rwWrite)⟩
  | .configChange .. => ⟨_, rfl, .atPort h (fun _ hu => hu.gateChange)⟩
  | .cancel .. => ⟨_, rfl, .atPort h (fun _ hu => hu.gateCancel)⟩
  | .gcCmdNop .. => ⟨_, rfl, .atPort h (fun _ hu => hu.gateResult)⟩
  | .configChangeTime .. => ⟨_, rfl, .atPort h (fun _ hu => hu.gateApply)⟩
  | .gateEntryStart .. => ⟨_, rfl, .atPort h (fun _ hu => hu.gateEntry)⟩
  | .gateEnWrite .. => ⟨_, rfl, .atPort h (fun _ hu => hu.put)⟩
  | .gcListDataRead .. => ⟨_, rfl, .atPort h (fun _ hu => hu.put.gateNext)⟩
  | .egressEnqueue .. => ⟨_, rfl, .atSlice h (fun _ hu => hu.leave)⟩
  | .transmitSelect .. => ⟨_, rfl, .atPort h (fun _ hu => hu.select)⟩
  | .preempt .. => ⟨_, rfl, .atPort h (fun _ hu => hu.preempt)⟩
  | .algoApply .. => ⟨_, rfl, .atPort h (fun _ hu => hu.algoApply.ite hu)⟩
  | .verifySend .. => ⟨_, rfl, .atPort h (fun _ hu => hu.verifySend)⟩
  | .verifyFrameReceive .. => ⟨_, rfl, .atPort h (fun _ hu => hu.verifyReceive)⟩
  | .restartVerify .. => ⟨_, rfl, .atPort h (fun _ hu => hu.restartVerify)⟩
  | .lldpSend .. => ⟨_, rfl, .atPort h (fun _ hu => hu.lldpSend)⟩
  | .lldpReceive .. => ⟨_, rfl, .atPort h (fun _ hu => hu.lldpReceive)⟩
  | .lldpTtlExpiry .. => ⟨_, rfl, .atPort h (fun _ hu => hu.lldpExpire)⟩
  | .fragmentReceive .. => ⟨_, rfl, h.fragment.ite h⟩
  | .queueSample .. => ⟨_, rfl, .atPort h (fun _ hu => hu.queueSample)⟩
  | .commit .. => ⟨_, rfl, .atCell h (fun _ hu => hu.matrixCommit)⟩
  | .clMxCancel .. => ⟨_, rfl, .atCell h (fun _ hu => hu.matrixCancel)⟩
  | .clMxNop .. => ⟨_, rfl, .atCell h (fun _ hu => hu.matrixResult)⟩
  | .matrixChangeEffective .. => ⟨_, rfl, .atCell h (fun _ hu => hu.matrixApply)⟩
  | .clCellEnable .. => ⟨_, rfl, .atCell h (fun _ hu => hu.enableCell)⟩
  | .matrixCycleStart .. => ⟨_, rfl, .atCell h (fun _ hu => hu.cycleStart)⟩
  | .coldstartForward .. => ⟨_, rfl, .atCell h (fun _ hu => .coldForward hu (fun _ _ hu => hu.capture))⟩
  | .substitution .. => ⟨_, rfl, .atCell h (fun _ hu => hu.substitute)⟩
  | .cycleMark .. => ⟨_, rfl, .atCell h (fun _ hu => hu.fireMark.ite hu)⟩
  | .clMarkCfgWrite .. => ⟨_, rfl, .atSlice h (fun _ hu => hu.markWrite)⟩
  | .clNodeCfgWrite .. => ⟨_, rfl, .atSlice h (fun _ hu => hu.nodeWrite)⟩
  | .clMxW1Read .. => ⟨_, rfl, .atSlice h (fun _ hu => hu.put.mxNext)⟩
  | .ingressFrame .. => ⟨_, rfl, h.arrive.ite h⟩
  | .recircPass .. => ⟨_, rfl, .atSlice h (fun _ hu => hu.recircPass)⟩
  | .slowPathRecord .. => ⟨_, rfl, h.slowRecord⟩
  | .cfRead .. => ⟨_, rfl, .atSlice h (fun _ hu => hu.cfRead)⟩
  | .add .. => ⟨_, rfl, .atSlice h (fun _ hu => hu.tcamAdd)⟩
  | .remove .. => ⟨_, rfl, .atSlice h (fun _ hu => hu.tcamRemove)⟩
  | .commitEpoch .. => ⟨_, rfl, .atSlice h (fun _ hu => hu.commitEpoch)⟩
  | .clearHits .. => ⟨_, rfl, .atSlice h (fun _ hu => hu.clearHits)⟩
  | .epochRetire .. => ⟨_, rfl, .atSlice h (fun _ hu => hu.retire)⟩
  | .stNop .. => ⟨_, rfl, .atSlice h (fun _ hu => hu.stResult)⟩
  | .stRead .. => ⟨_, rfl, .atSlice h (fun _ hu => hu.stRead)⟩
  | .stage .. => ⟨_, rfl, .atSlice h (fun _ hu => hu.stStage)⟩
  | .stCommit .. => ⟨_, rfl, .atSlice h (fun _ hu => hu.stCommit)⟩
  | .stAbort .. => ⟨_, rfl, .atSlice h (fun _ hu => hu.stAbort)⟩
  | .readCounts .. => ⟨_, rfl, .atSlice h (fun _ hu => hu.readCounts)⟩
  | .unblock .. => ⟨_, rfl, .atSlice h (fun _ hu => hu.unblock)⟩
  | .batchApply .. => ⟨_, rfl, h.batchApply⟩
  | .lateApply .. => ⟨_, rfl, h.lateApply⟩
  | .stGrpRead .. => ⟨_, rfl, .atSlice h (fun _ hu => hu.groupRead)⟩
  | .stGrpStage .. => ⟨_, rfl, .atSlice h (fun _ hu => hu.groupStage)⟩
  | .sgConfigChange .. => ⟨_, rfl, .atSlice h (fun _ hu => hu.sgChange)⟩
  | .sgCancel .. => ⟨_, rfl, .atSlice h (fun _ hu => hu.sgCancel)⟩
  | .sgClear .. => ⟨_, rfl, .atSlice h (fun _ hu => hu.sgClear)⟩
  | .sgNop .. => ⟨_, rfl, .atSlice h (fun _ hu => hu.sgResult)⟩
  | .sgConfigChangeTime .. => ⟨_, rfl, .atSlice h (fun _ hu => hu.sgApply)⟩
  | .sgEntryStart .. => ⟨_, rfl, .atSlice h (fun _ hu => hu.sgEntry)⟩
  | .sgDataRead .. => ⟨_, rfl, .atSlice h (fun _ hu => hu.put.sgNext)⟩
  | .fmRead .. => ⟨_, rfl, .atSlice h (fun _ hu => hu.fmRead)⟩
  | .fmWrite .. => ⟨_, rfl, .atSlice h (fun _ hu => hu.fmWrite)⟩
  | .clearRed .. => ⟨_, rfl, .atSlice h (fun _ hu => hu.fmClearRed)⟩
  | .frGenRead .. => ⟨_, rfl, .atSlice h (fun _ hu => hu.genRead)⟩
  | .frGenWrite .. => ⟨_, rfl, .atSlice h (fun _ hu => hu.genWrite)⟩
  | .frGenReset .. => ⟨_, rfl, .atSlice h (fun _ hu => hu.genReset)⟩
  | .frRecRead .. => ⟨_, rfl, .atSlice h (fun _ hu => hu.recRead)⟩
  | .frRecWrite .. => ⟨_, rfl, .atSlice h (fun _ hu => hu.recWrite)⟩
  | .frRecReset .. => ⟨_, rfl, .atSlice h (fun _ hu => hu.recResetAll)⟩
  | .frRecClearCounts .. => ⟨_, rfl, .atSlice h (fun _ hu => hu.recClearCounts)⟩
  | .recoveryResetTimer .. => ⟨_, rfl, .atSlice h (fun _ hu => hu.recTimer)⟩
  | .latentErrorTest .. => ⟨_, rfl, .atSlice h (fun _ hu => hu.latentTest)⟩
  | .latentBaseReset .. => ⟨_, rfl, .atSlice h (fun _ hu => hu.latentReset)⟩
  | .heartbeatSend .. => ⟨_, rfl, h.heartbeatSend⟩
  | .heartbeatReceive .. => ⟨_, rfl, h.beatReceive⟩
  | .pairLinkTimeout .. => ⟨_, rfl, h.pairTimeout⟩
  | .pairWaitExpiry .. => ⟨_, rfl, h.waitExpiry⟩
  | .handover .. => ⟨_, rfl, h.handover⟩
  | .stateMessageSend .. => ⟨_, rfl, h.stateSend⟩
  | .stateMessageResend .. => ⟨_, rfl, h.stateResend⟩
  | .stateMessageReceive .. => ⟨_, rfl, h.stateReceive⟩
  | .resync .. => ⟨_, rfl, h.resync⟩
  | .digestClose .. => ⟨_, rfl, h.digestClose⟩
  | .captureRecordWrite .. => ⟨_, rfl, h.captureRecord⟩
  | .captureExport .. => ⟨_, rfl, h.captureExport⟩
  | .journalReport .. => ⟨_, rfl, h.report.ite h⟩
  | .coalescerFlush .. => ⟨_, rfl, h.ite (h.jrPass.ite h.jrFlush)⟩
  | .eventSend .. => ⟨_, rfl, h.eventSend⟩
  | .eventResend .. => ⟨_, rfl, h.eventResend⟩
  | .ack .. => ⟨_, rfl, h.ackEvents.ite h⟩
  | .datagramReceive .. => ⟨_, rfl, h.ite (h.datagram.ite h.bump)⟩
  | .controlLaneLoss .. => ⟨_, rfl, h.laneDown.ite h⟩
  | .readWord .. => ⟨_, rfl, h.ask⟩
  | .writeWord .. => ⟨_, rfl, h.ask⟩
  | .writePair .. => ⟨_, rfl, h.ask⟩
  | .rmw .. => ⟨_, rfl, h.ask⟩
  | .blockRead .. => ⟨_, rfl, h.ask⟩
  | .blockWrite .. => ⟨_, rfl, h.ask⟩
  | .ringPush .. => ⟨_, rfl, h.ask⟩
  | .head .. => ⟨_, rfl, h.ask⟩
  | .hello .. => ⟨_, rfl, h.ask⟩
  | .key .. => ⟨_, rfl, h.ask⟩
  | .start .. => ⟨_, rfl, h.ringCommand⟩
  | .stop .. => ⟨_, rfl, h.ringCommand⟩
  | .resume .. => ⟨_, rfl, h.ringCommand⟩
  | .skip .. => ⟨_, rfl, h.ringCommand⟩
  | .ringReset .. => ⟨_, rfl, h.ringCommand⟩
  | .rgProdWrite .. => ⟨_, rfl, h.prodWrite.ite h⟩
  | .rgConsWrite .. => ⟨_, rfl, h.consWrite.ite h⟩
  | .descriptorExecute .. => ⟨_, rfl, h.executeEntry.ite h⟩
  | .txFrame .. => ⟨_, rfl, by
      split
      · exact h.txFrame.finish.ite h
      · exact h⟩
  | .entryComplete .. => ⟨_, rfl, by
      split
      · exact h.completeEntry
      · exact h⟩
  | .stallRelease .. => ⟨_, rfl, h.stallRelease.ite h⟩
  | .ringEvent .. => ⟨_, rfl, h.ringEvent.ite h⟩
  | .dmGo .. => ⟨_, rfl, h.dmaGo.ite h⟩
  | .transferLoad .. => ⟨_, rfl, h.transferLoad.ite h⟩
  | .transferStart .. => ⟨_, rfl, h.transferStart.ite h⟩
  | .transferComplete .. => ⟨_, rfl, h.transferDone.drainsDone.ite h⟩
  | .frameOut .. => ⟨_, rfl, h.frameOut.ite h⟩
  | .busError .. => ⟨_, rfl, h.busError.ite h⟩
  | .engineFault .. => ⟨_, rfl, h.engineFault.ite h⟩
  | .dmEngClear .. => ⟨_, rfl, h.engineClear.ite h⟩
  | .clearHalt .. => ⟨_, rfl, h.clearHalt.ite h⟩
  | .powerDownRequest .. => ⟨_, rfl, h.requestDown.ite h⟩
  | .drainLimitExpiry .. => ⟨_, rfl, by
      split
      · exact h.abortTouching.drainsDone.ite h
      · exact h⟩
  | .snapshot .. => ⟨_, rfl, h.snapshot.ite h⟩
  | .clearBank .. => ⟨_, rfl, h.clearBank.ite h⟩
  | .evcApply .. => ⟨_, rfl, .ite (.atSlice h (fun _ hu => hu.evcApply)) h⟩
  | .bwWindowEnd .. => ⟨_, rfl, .atPort h (fun _ hu => hu.bwEnd)⟩
  | .sampleDrain .. => ⟨_, rfl, .atSlice h (fun _ hu => hu.drain)⟩
  | .resetEnd .. => ⟨_, rfl, h.resetEnd⟩
  | .flashReadComplete .. => ⟨_, rfl, h.flashRead⟩
  | .verify .. => ⟨_, rfl, h.imVerify⟩
  | .load .. => ⟨_, rfl, h.imLoad⟩
  | .loadComplete .. => ⟨_, rfl, h.loadDone⟩
  | .selftestComplete .. => ⟨_, rfl, h.selftestDone⟩
  | .calibrateComplete .. => ⟨_, rfl, h.calibrateDone⟩
  | .secverRaise .. => ⟨_, rfl, h.secverRaise⟩
  | .anchorRevoke .. => ⟨_, rfl, h.anchorRevoke⟩
  | .goService .. => ⟨_, rfl, h.goService⟩
  | .park .. => ⟨_, rfl, .mdCommand h (fun _ hu => hu.depart)⟩
  | .wake .. => ⟨_, rfl, .mdCommand h (fun _ hu => hu.wake)⟩
  | .diag .. => ⟨_, rfl, .mdCommand h (fun _ hu => hu.depart)⟩
  | .exitDiag .. => ⟨_, rfl, .mdCommand h (fun _ hu => hu.toMode)⟩
  | .halt .. => ⟨_, rfl, .mdCommand h (fun _ hu => hu.depart)⟩
  | .resetModule .. => ⟨_, rfl, h.enterReset⟩
  | .fence .. => ⟨_, rfl, by
      split
      · exact h.fence
      · exact h.ddrFence
      · exact h.fenceStatus⟩
  | .fenceDrainComplete .. => ⟨_, rfl, .atSlice h (fun _ hu => hu.fenceDrained)⟩
  | .unfence .. => ⟨_, rfl, by
      split
      · exact h.unfence
      · exact h.ddrUnfence
      · exact h.fenceStatus⟩
  | .unfenceEffective .. => ⟨_, rfl, h.unfenceEffective⟩
  | .rebuild .. => ⟨_, rfl, h.rebuild⟩
  | .buildComplete .. => ⟨_, rfl, h.buildDone⟩
  | .switch .. => ⟨_, rfl, h.fwSwitch⟩
  | .rollback .. => ⟨_, rfl, h.fwRollback⟩
  | .fwCoreStartTimeout .. => ⟨_, rfl, h.fwTimeout⟩
  | .watchdog .. => ⟨_, rfl, h.enterHalt.ite h⟩
  | .tcamScrub .. => ⟨_, rfl, .pass h (fun _ hu => .foldl hu fun _ _ hu => hu.scrubEntry)⟩
  | .gateScrub .. => ⟨_, rfl, .pass h (fun _ hu => .foldl hu fun _ _ hu => hu.scrubEntry)⟩
  | .streamCompare .. => ⟨_, rfl, .pass h (fun _ hu => .foldl hu fun _ _ hu => hu.replicaRepair)⟩
  | .holdPatrol .. => ⟨_, rfl, .pass h (fun _ hu => hu.retireCells)⟩
  | .complementCheck .. => ⟨_, rfl, .pass h (fun _ hu => .foldl hu fun _ _ hu => hu.storedMismatch)⟩
  | .amapCheck .. => ⟨_, rfl, .pass h (fun _ hu => hu.amapCheck)⟩
  | .constCheck .. => ⟨_, rfl, .pass h (fun _ hu => .foldl hu fun _ _ hu => hu.constMismatch)⟩
  | .serdesAdapt .. => ⟨_, rfl, .ite (.pass h (fun _ hu => hu)) h⟩
  | .oscComp .. => ⟨_, rfl, .pass h (fun _ hu => hu.update.formAddend.ite hu)⟩
  | .telemetry .. => ⟨_, rfl, .pass h.measure (fun _ hu => hu.sendHealth)⟩
  | .ddrScrub .. => ⟨_, rfl, .pass h (fun _ hu => .foldl hu fun _ _ hu => hu.ddrError)⟩
  | .aging .. => ⟨_, rfl, .pass h.addHour (fun _ hu => .foldl hu fun _ _ hu => hu.ageDie)⟩
  | .selftestRotation .. => ⟨_, rfl, h.rotate⟩
  | .request .. => ⟨_, rfl, h.testRequest⟩
  | .testCancel .. => ⟨_, rfl, h.testCancel⟩
  | .testItemComplete .. => ⟨_, rfl, h.testDone⟩
  | .supplyInRange .. => ⟨_, rfl, h.supplyGood⟩
  | .vinLow .. => ⟨_, rfl, h.vinLow⟩
  | .railFault .. => ⟨_, rfl, h.railFault⟩
  | .vauxOutOfRange .. => ⟨_, rfl, (h.ite h.enterReset).put⟩
  | .domainOff .. => ⟨_, rfl, h.domainOff⟩
  | .domainOn .. => ⟨_, rfl, h.domainRaise⟩
  | .capEvaluate .. => ⟨_, rfl, h.ite h.capEvaluate⟩
  | .temperatureRead .. => ⟨_, rfl, h.temperatureRead⟩
  | .clearFaults .. => ⟨_, rfl, h.clearFaults.ite h⟩
  | .statusWord .. => ⟨_, rfl, h.pmbus⟩
  | .statusTemperature .. => ⟨_, rfl, h.pmbus⟩
  | .readVin .. => ⟨_, rfl, h.pmbusValue⟩
  | .readIin .. => ⟨_, rfl, h.pmbusValue⟩
  | .readTemperature1 .. => ⟨_, rfl, h.pmbusValue⟩
  | .readPin .. => ⟨_, rfl, h.pmbusValue⟩
  | .pmbusRevision .. => ⟨_, rfl, h.pmbus⟩
  | .mfrId .. => ⟨_, rfl, h.pmbus⟩
  | .mfrModel .. => ⟨_, rfl, h.pmbus⟩
  | .pmbusUnsupported .. => ⟨_, rfl, h.latchWord.ite h⟩
  | .injectorArm .. => ⟨_, rfl, .atPort h (fun _ hu => hu.injCtrl.ite hu)⟩
  | .injectorStart .. => ⟨_, rfl, .atPort h (fun _ hu => hu.put.ite hu)⟩
  | .injectorRelease .. => ⟨_, rfl, h.atPort fun u hu => by
      split
      · exact hu.releaseHeld.ite hu
      · exact hu⟩
  | .fiTskewWrite .. => ⟨_, rfl, .atPort h (fun _ hu => hu.tskew.ite hu)⟩
  | .resetNAssert .. => ⟨_, rfl, (h.ite h.enterReset).update⟩
  | .resetNRelease .. => ⟨_, rfl, h.update⟩
  | .bypass .. => ⟨_, rfl, h.tapLoad⟩
  | .idcode .. => ⟨_, rfl, h.tapLoad⟩
  | .samplePreload .. => ⟨_, rfl, h.fresh.tapLoad⟩
  | .extest .. => ⟨_, rfl, h.tapTest⟩
  | .clamp .. => ⟨_, rfl, h.tapTest⟩
  | .highz .. => ⟨_, rfl, h.tapTest⟩
  | .extestPulse .. => ⟨_, rfl, h.tapTest⟩
  | .extestTrain .. => ⟨_, rfl, h.tapTest⟩
  | .portLinkLoss .. => ⟨_, rfl, .atPort h (fun _ hu => hu.linkLoss)⟩
  | .portLinkUp .. => ⟨_, rfl, .atPort h (fun _ hu => hu.linkGain)⟩
  | .controlLaneUp .. => ⟨_, rfl, h.laneUp.ite h⟩
  | .pdelayReqSend .. => ⟨_, rfl, h.pdelayReq⟩
  | .physAnnounceSend .. => ⟨_, rfl, h.physAnnounce⟩
  | .bootPllLockTimeout .. => ⟨_, rfl, h.put.enterHalt.ite h⟩
  | .tapTestLogicReset .. => ⟨_, rfl, h.update⟩
  | .ddrUnfenceComplete .. => ⟨_, rfl, h.ddrUnfenced⟩

/-- Settles O5: each command's operations keep the canonical form one by one, and a step runs one command. -/
theorem everyStepKeepsCanonicalForm : Obligations.EveryStepKeepsCanonicalForm := by
  unfold Obligations.EveryStepKeepsCanonicalForm
  intro s t h hstep
  unfold step at hstep
  split at hstep
  · cases hstep
    exact h
  · rename_i i rest _
    obtain ⟨u, hu, hwf⟩ := State.wf.exec (State.wf.update (pending := rest) h) i
    cases hu.symm.trans hstep
    exact hwf

end Sys2Proof.Machine
end
